-- ==== Sys2Proof/Word.lean ====
section
/-! DEFINITION. The one word type of the GV416: a byte of the SPI link (R170). Every other quantity of
the part is a count, an id or an amount of money, and is a `Nat` or an `Int`. -/

namespace Sys2Proof

/-- A byte as it travels on SDI or SDO. -/
abbrev Byte := BitVec 8

end Sys2Proof
end

