-- ==== Sys2Proof/Syntax.lean ====
section
/-! DEFINITION. The commands of the GV416: one constructor of `Instr` for each row of
`spec/opcode_table.json`. A request row carries the tag of its frame and the fields of its body as
Table 31 lists them, each field the number its bytes spell; an event row carries the place (door, bus,
tab slot, lane) at which the event happens. -/

namespace Sys2Proof

/-- The body of a sound request frame. `fit` holds the fields of a body whose length fits the message;
`misfit` is a body of any other length (R156 step 3 answers it with status LENGTH). -/
inductive Body (α : Type) where
  | fit (fields : α)
  | misfit (length : Nat)
  deriving DecidableEq, Repr

/-- Whether a request row is the whole execution or only its beginning. R156 names the requests whose
execution takes time; for those rows `takesTime` leaves the request in EXECUTION until
REQUEST_COMPLETION ends it. DESIGN CHOICE (log 3): how long an execution takes is outside the model, so
the command says it. -/
inductive Span where
  | whole
  | takesTime
  deriving DecidableEq, Repr

/-- An optional field as it stands on the wire: its presence byte and its value bytes (R170). -/
structure OptField (α : Type) where
  presence : Nat
  value : α
  deriving DecidableEq, Repr

/-- Two numbers sent one after the other: the section (low, high) or the hours (start, end). -/
structure Span2 where
  first : Nat
  second : Nat
  deriving DecidableEq, Repr

/-- A line of a sale (Table 31). -/
structure Line where
  category : Nat
  unitPrice : Nat
  quantity : Nat
  deriving DecidableEq, Repr

/-- CARD.PUT (R7, Table 31). -/
structure CardPutReq where
  kind : Nat
  uid : Nat
  issue : Nat
  presence : Nat
  cls : Nat
  account : Nat
  cabinCount : Nat
  cabin0 : Nat
  cabin1 : Nat
  section_ : OptField Span2
  hours : OptField Span2
  firstDay : Nat
  lastDay : Nat
  privilege : Nat
  tier : Nat
  dailyCap : OptField Nat
  deriving DecidableEq, Repr

/-- CARD.READ (R10): selector 0 reads by UID, 1 by slot. -/
structure CardReadReq where
  selector : Nat
  uid : Nat
  slot : Nat
  deriving DecidableEq, Repr

/-- ACCOUNT.PUT (R14); the limit is money, a signed number on the wire (R170). -/
structure AccountPutReq where
  kind : Nat
  account : Nat
  limit : Int
  status : Nat
  deriving DecidableEq, Repr

/-- ACCOUNT.CREDIT (R107). -/
structure AccountCreditReq where
  account : Nat
  amount : Int
  deriving DecidableEq, Repr

/-- DOOR.PUT (R18). -/
structure DoorPutReq where
  door : Nat
  configured : Nat
  label : Nat
  bus : Nat
  deriving DecidableEq, Repr

/-- CATEGORY.PUT (R20). -/
structure CategoryPutReq where
  category : Nat
  alcohol : Nat
  taxable : Nat
  gratuity : Nat
  deriving DecidableEq, Repr

/-- REGION.PUT (R20). -/
structure RegionPutReq where
  region : Nat
  rate : Nat
  deriving DecidableEq, Repr

/-- TIER.PUT (R21); category c is covered when bit c of `covered` is 1 (R170). -/
structure TierPutReq where
  tier : Nat
  covered : BitVec 16
  allowance : Nat
  coverCap : Nat
  deriving DecidableEq, Repr

/-- SETTING.PUT (R23). -/
structure SettingPutReq where
  id : Nat
  lane : Nat
  value : Nat
  deriving DecidableEq, Repr

/-- SETTING.READ (R23). -/
structure SettingReadReq where
  id : Nat
  lane : Nat
  deriving DecidableEq, Repr

/-- DOOR.CARD (R25). -/
structure DoorCardReq where
  door : Nat
  uid : Nat
  issue : Nat
  deriving DecidableEq, Repr

/-- DOOR.REPORT (R46). -/
structure DoorReportReq where
  door : Nat
  contact : Nat
  latch : Nat
  dnd : Nat
  cause : Nat
  deriving DecidableEq, Repr

/-- CHARGE (R68); the line count is the length of `lines`. -/
structure ChargeReq where
  terminal : Nat
  uid : Nat
  issue : Nat
  lines : List Line
  deriving DecidableEq, Repr

/-- VOID (R105). -/
structure VoidReq where
  terminal : Nat
  posting : Nat
  deriving DecidableEq, Repr

/-- TAB.OPEN (R91). -/
structure TabOpenReq where
  terminal : Nat
  uid : Nat
  issue : Nat
  hold : Int
  deriving DecidableEq, Repr

/-- TAB.ADD (R92). -/
structure TabAddReq where
  slot : Nat
  generation : Nat
  terminal : Nat
  lines : List Line
  deriving DecidableEq, Repr

/-- TAB.CLOSE (R95). -/
structure TabCloseReq where
  slot : Nat
  generation : Nat
  terminal : Nat
  deriving DecidableEq, Repr

/-- GANGWAY.CARD (R132). -/
structure GangwayCardReq where
  lane : Nat
  uid : Nat
  issue : Nat
  deriving DecidableEq, Repr

/-- PRESENCE.SET (R138). -/
structure PresenceSetReq where
  uid : Nat
  presence : Nat
  deriving DecidableEq, Repr

/-- ALLABOARD.QUERY (R141). -/
structure AllAboardReq where
  start : Nat
  count : Nat
  deriving DecidableEq, Repr

/-- The two marks of a frame that is not SOUND (R154). -/
inductive BadMark where
  | badCrc
  | tooLong
  deriving DecidableEq, Repr

/-- When the reception of a frame began: in operation, or before the latest wake, in which case R166
discards the frame although its reception ends after the wake. -/
inductive Reception where
  | inOperation
  | beforeWake
  deriving DecidableEq, Repr

/-- The two beams of a lane: seaward S and inboard I. -/
inductive Beam where
  | s
  | i
  deriving DecidableEq, Repr

/-- The three inputs of a lane: pins GSn, GIn and GBn. -/
inductive LaneInput where
  | beam (b : Beam)
  | brace
  deriving DecidableEq, Repr

/-- The level of an input pin. Low is BROKEN at a beam pin and CLOSED at a brace pin (R110). -/
inductive PinLevel where
  | low
  | high
  deriving DecidableEq, Repr

/-- The commands of the part. MODE.SET and RESTART have two rows each; the row of the first code
carries the code itself, so that a code beyond the list (status RANGE) has a command too. -/
inductive Instr where
  /-- FRAME_RECEIVED: the bytes of SDI up to the end of reception (R153, R154, R155). -/
  | frameReceived (began : Reception) (sdi : List Byte)
  /-- TRANSFER_END: SCS is deasserted after `clocked` bytes went out on SDO (R157). -/
  | transferEnd (clocked : Nat)
  | badFrame (mark : BadMark) (tag : Byte)
  | unknownCode (code : Byte) (tag : Byte)
  | summary (tag : Byte) (q : Body Unit)
  | noticeFetch (tag : Byte) (q : Body Unit)
  | orderFetch (tag : Byte) (q : Body Unit)
  | loadBegin (tag : Byte) (q : Body Nat)
  | loadEnd (tag : Byte) (q : Body Unit) (span : Span)
  | cardPut (tag : Byte) (q : Body CardPutReq)
  | cardRead (tag : Byte) (q : Body CardReadReq)
  | cardReissue (tag : Byte) (q : Body Nat)
  | cardRetire (tag : Byte) (q : Body Nat)
  | accountPut (tag : Byte) (q : Body AccountPutReq)
  | accountRead (tag : Byte) (q : Body Nat)
  | accountCredit (tag : Byte) (q : Body AccountCreditReq)
  | accountRetire (tag : Byte) (q : Body Nat)
  | doorPut (tag : Byte) (q : Body DoorPutReq)
  | doorRead (tag : Byte) (q : Body Nat)
  | categoryPut (tag : Byte) (q : Body CategoryPutReq)
  | regionPut (tag : Byte) (q : Body RegionPutReq)
  | tierPut (tag : Byte) (q : Body TierPutReq) (span : Span)
  | settingPut (tag : Byte) (q : Body SettingPutReq)
  | settingRead (tag : Byte) (q : Body SettingReadReq)
  | doorCard (tag : Byte) (q : Body DoorCardReq)
  | doorReport (tag : Byte) (q : Body DoorReportReq)
  | relatchTimerExpiry (door : Nat)
  | strikeConfirmExpiry (door : Nat)
  | ajarTimerExpiry (door : Nat)
  | relatchConfirmExpiry (door : Nat)
  | auditStep
  | busWindowAgeOut (bus : Nat)
  | charge (tag : Byte) (q : Body ChargeReq)
  | void (tag : Byte) (q : Body VoidReq)
  | tabOpen (tag : Byte) (q : Body TabOpenReq)
  | tabAdd (tag : Byte) (q : Body TabAddReq)
  | tabClose (tag : Byte) (q : Body TabCloseReq)
  | tabRead (tag : Byte) (q : Body Nat)
  | tabIdleExpiry (slot : Nat)
  | postFetch (tag : Byte) (q : Body Unit)
  | postRelease (tag : Byte) (q : Body Nat)
  | postRewind (tag : Byte) (q : Body Unit)
  | laneOpen (tag : Byte) (q : Body Nat)
  | laneClose (tag : Byte) (q : Body Nat)
  | laneRead (tag : Byte) (q : Body Nat)
  | laneInputEdge (lane : Nat) (input : LaneInput) (level : PinLevel)
  /-- BEAM_CHANGE_TAKEN: the change of `beam` becomes stable and is taken, alone or as a double change. -/
  | beamChangeTaken (lane : Nat) (beam : Beam)
  | pairingWaitExpiry (lane : Nat)
  | braceChangeTaken (lane : Nat)
  | flowWindowClose (lane : Nat)
  | gangwayCard (tag : Byte) (q : Body GangwayCardReq)
  | presenceSet (tag : Byte) (q : Body PresenceSetReq)
  | allaboardQuery (tag : Byte) (q : Body AllAboardReq)
  | timeSet (tag : Byte) (q : Body Nat)
  | dayRoll (tag : Byte) (q : Body Unit) (span : Span)
  | portArrive (tag : Byte) (q : Body Nat)
  | sail (tag : Byte) (q : Body Unit) (span : Span)
  /-- MODE_SET_SECURE: MODE.SET with the code of SECURE, 1. -/
  | modeSetSecure (tag : Byte) (span : Span)
  /-- MODE_SET_SERVICE: MODE.SET with any other code (0 is SERVICE), or with a body of another length. -/
  | modeSetService (tag : Byte) (q : Body Nat)
  | runSecondsRise
  | retain (tag : Byte) (q : Body Unit)
  | pfailAsserted
  | retentionCapture
  | wake
  /-- RESTART_WARM: RESTART with any code but COLD's (0 is WARM), or with a body of another length. -/
  | restartWarm (tag : Byte) (q : Body Nat)
  /-- RESTART_COLD: RESTART with the code of COLD, 1. -/
  | restartCold (tag : Byte)
  | resetnAsserted
  | resetnDeasserted
  | powerUp
  | transferStart
  | requestCompletion
  | beamChangeHeld (lane : Nat) (beam : Beam)
  | retentionSupplyFailure
  deriving DecidableEq, Repr

end Sys2Proof
end

