-- ==== Sys2Proof/Machine/State.lean ====
section
/-! DEFINITION. The state of the GV416 as plain data, block by block in the order of Table 2 of
`spec/00_scope.md`, the replies it makes, its two stop types and the state after reset. -/

namespace Sys2Proof.Machine

/-! ## Tables and lanes -/

/-- A sparse table: entries by key, keys strictly rising. What a missing key stands for (a free slot, or
a default record) is said where the table is used. -/
abbrev Table (α : Type) := List (Nat × α)

/-- One thing for each of the four lanes. -/
structure Four (α : Type) where
  l0 : α
  l1 : α
  l2 : α
  l3 : α
  deriving DecidableEq, Repr

/-! ## The Credential Store (R1 to R24) -/

/-- The operating state (R1). -/
inductive OpState where
  | unloaded
  | loading
  | service
  | secure
  deriving DecidableEq, Repr

/-- The mode (R1). -/
inductive Mode where
  | service
  | secure
  deriving DecidableEq, Repr

inductive CardClass where
  | guest
  | child
  | crew
  | security
  deriving DecidableEq, Repr

/-- A card's standing with respect to the ship (R128). -/
inductive Presence where
  | expected
  | aboard
  | ashore
  | unverified
  | missed
  deriving DecidableEq, Repr

/-- The configuration of a card: the fields a CHANGE put replaces (R9). -/
structure CardConfig where
  cls : CardClass
  account : Nat
  cabins : List Nat
  section_ : Option Span2
  hours : Option Span2
  firstDay : Nat
  lastDay : Nat
  privilege : Bool
  tier : Nat
  dailyCap : Option Nat
  deriving DecidableEq, Repr

/-- The departure record of an ASHORE card (R128). -/
structure Departure where
  runSeconds : Nat
  shipTime : Option Nat
  lane : Option Nat
  deriving DecidableEq, Repr

/-- A card record (R6). -/
structure Card where
  uid : Nat
  issue : Nat
  config : CardConfig
  allowanceUsed : Nat
  daySpent : Nat
  presence : Presence
  departure : Option Departure
  deriving DecidableEq, Repr

inductive AccountStatus where
  | opened
  | frozen
  deriving DecidableEq, Repr

/-- An account record (R13). -/
structure Account where
  number : Nat
  limit : Nat
  status : AccountStatus
  balance : Int
  held : Nat
  openTabs : Nat
  lastAdultDeparture : Option Nat
  deriving DecidableEq, Repr

/-- A door's configuration record (R17). -/
structure DoorConfig where
  configured : Bool
  label : Nat
  bus : Nat
  deriving DecidableEq, Repr

/-- A category entry (R20). -/
structure Category where
  alcohol : Bool
  taxable : Bool
  gratuity : Nat
  deriving DecidableEq, Repr

/-- A tier entry (R21). -/
structure Tier where
  covered : BitVec 16
  allowance : Nat
  coverCap : Nat
  deriving DecidableEq, Repr

inductive LaneRole where
  | board
  | leave
  | both
  deriving DecidableEq, Repr

/-- The settings in force (R22), each in its own unit. -/
structure Settings where
  relatchTime : Nat
  ajarTime : Nat
  strikeConfirmTime : Nat
  relatchConfirmTime : Nat
  busBudget : Nat
  busWindow : Nat
  refusalLimit : Nat
  refusalWindow : Nat
  blockTime : Nat
  auditInterval : Nat
  pollMissLimit : Nat
  tabIdleLimit : Nat
  tabDefaultHold : Nat
  voidWindow : Nat
  escortWindow : Nat
  debounce : Nat
  laneRole : Four LaneRole
  flowWindow : Four Nat
  flowLimit : Four Nat
  tailgateTolerance : Nat
  highWater : Nat
  deriving DecidableEq, Repr

/-- The Credential Store. A missing card or account slot is free; a missing door is unconfigured with
label 0 and bus 0 (R17); a missing category, region or tier entry is all zero (R20, R21). -/
structure Store where
  opState : OpState
  mode : Mode
  cards : Table Card
  accounts : Table Account
  doors : Table DoorConfig
  categories : Table Category
  regions : Table Nat
  tiers : Table Tier
  settings : Settings
  deriving DecidableEq, Repr

/-! ## The Presence Tracker (R128 to R143) -/

/-- The four presence counts of a class (R129). -/
structure ColumnCounts where
  expected : Nat
  aboard : Nat
  ashore : Nat
  missed : Nat
  deriving DecidableEq, Repr

/-- The sixteen presence counts. -/
structure PresenceCounts where
  guest : ColumnCounts
  child : ColumnCounts
  crew : ColumnCounts
  security : ColumnCounts
  deriving DecidableEq, Repr

/-- The Presence Tracker's own state; presence and departure record stand in the cards. The ashore list
holds card slots, oldest departure first (R130). -/
structure Tracker where
  counts : PresenceCounts
  ashore : List Nat
  deriving DecidableEq, Repr

/-! ## The Charge Engine (R68 to R108) -/

/-- The sums of a request, a tab or a posting (R78); the payable sum is gross less covered. -/
structure Sums where
  gross : Nat
  covered : Nat
  units : Nat
  gratuity : Nat
  tax : Nat
  total : Nat
  deriving DecidableEq, Repr

/-- Why a tab settles (R96). -/
inductive CloseReason where
  | closed
  | expired
  | departed
  deriving DecidableEq, Repr

/-- A tab record (R89), less the fields held by one slot state only. -/
structure Tab where
  terminal : Nat
  cardSlot : Nat
  accountSlot : Nat
  hold : Nat
  sums : Sums
  lineCount : Nat
  lastActivity : Nat
  deriving DecidableEq, Repr

/-- The state of a tab slot: only an OPEN tab has an idle deadline, only a CLOSING one a reason (R89). -/
inductive TabState where
  | free
  | opened (tab : Tab) (idleDeadline : Nat)
  | closing (tab : Tab) (reason : CloseReason)
  deriving DecidableEq, Repr

/-- A tab slot with its generation (R89). -/
structure TabSlot where
  generation : Nat
  state : TabState
  deriving DecidableEq, Repr

/-- The kind of a posting record, with the reason of a settlement (R82, R96). -/
inductive PostingKind where
  | charge
  | tabSettle (reason : CloseReason)
  deriving DecidableEq, Repr

/-- A posting record with the two things kept inside the part for VOID (R100). -/
structure Posting where
  number : Nat
  kind : PostingKind
  terminal : Nat
  uid : Nat
  issue : Nat
  account : Nat
  shipDay : Nat
  shipTime : Option Nat
  lineCount : Nat
  sums : Sums
  delivered : Bool
  voided : Bool
  acceptedAt : Nat
  voidable : Bool
  deriving DecidableEq, Repr

/-- The Charge Engine's own state; the money fields of cards and accounts stand in their records. A
missing tab slot is FREE with generation 0; a missing terminal has open tab count 0. -/
structure Engine where
  tabs : Table TabSlot
  terminalTabs : Table Nat
  waiting : List Nat
  postings : List Posting
  nextPosting : Nat
  highWaterArmed : Bool
  deriving DecidableEq, Repr

/-! ## The Door Channel Unit and the Strike Scheduler (R45 to R67) -/

inductive Contact where
  | opened
  | closed
  deriving DecidableEq, Repr

inductive Latch where
  | latched
  | unlatched
  deriving DecidableEq, Repr

/-- The strike confirm of a RELEASED channel; a deadline is a time of the millisecond timer. -/
inductive StrikeConfirm where
  | awaitingFetch
  | running (deadline : Nat)
  | satisfied
  deriving DecidableEq, Repr

/-- The relatch confirm of a RELATCHING channel. -/
inductive RelatchConfirm where
  | awaitingFetch
  | running (deadline : Nat)
  deriving DecidableEq, Repr

/-- The state of a door channel. A timer is held by the state it belongs to, so that leaving the state
cancels it (R45). -/
inductive ChannelState where
  | unknown
  | secured
  | pending
  | released (relatchTimer : Option Nat) (confirm : StrikeConfirm)
  | opened (ajarTimer : Nat)
  | ajar
  | relatching (confirm : RelatchConfirm)
  | fault
  deriving DecidableEq, Repr

/-- A door channel record (R45). -/
structure Channel where
  state : ChannelState
  dnd : Bool
  lastReport : Option (Contact × Latch)
  relatchOwed : Bool
  pollOutstanding : Bool
  missCount : Nat
  deriving DecidableEq, Repr

/-- The Door Channel Unit. A missing channel is at the start value of R45. `auditNext` is the
run-seconds of the audit step scheduled, absent while the audit step timer does not run (R63). -/
structure DoorUnit where
  channels : Table Channel
  auditPointer : Nat
  auditNext : Option Nat
  deriving DecidableEq, Repr

/-- A strike bus: its queue of door ids, head first, and its release history, oldest first, in
milliseconds (R58, R59). -/
structure Bus where
  queue : List Nat
  history : List Nat
  deriving DecidableEq, Repr

inductive OrderKind where
  | strike
  | relatch
  | poll
  deriving DecidableEq, Repr

/-- An order (R61). -/
structure Order where
  kind : OrderKind
  door : Nat
  placedAt : Nat
  deriving DecidableEq, Repr

/-- The Strike Scheduler. A missing bus has an empty queue and history. `latestBus` is the bus that made
the latest release, from which the rotation of R60 starts. -/
structure Scheduler where
  buses : Table Bus
  orders : List Order
  latestBus : Nat
  deriving DecidableEq, Repr

/-! ## The Access Decision Unit (R25 to R44) -/

/-- What the Access Decision Unit keeps for one door: the refusal history, oldest first, and the
blocked-until time, both in run-seconds. -/
structure Reader where
  history : List Nat
  blockedUntil : Option Nat
  deriving DecidableEq, Repr

/-! ## The Gangway Counter Unit (R109 to R127) -/

/-- A debounced input: the debounced level, the level of the pin (both `true` when low: BROKEN at a
beam, CLOSED at a brace) and the millisecond at which the change under way began. -/
structure Debouncer where
  level : Bool
  pin : Bool
  since : Option Nat
  deriving DecidableEq, Repr

/-- A beam change held for pairing, and the millisecond at which the wait began (R111). -/
structure Held where
  beam : Beam
  since : Nat
  deriving DecidableEq, Repr

/-- The passage decoder's state (R117). -/
inductive Decoder where
  | clear
  | in1
  | in2
  | in3
  | out1
  | out2
  | out3
  | spanX
  deriving DecidableEq, Repr

/-- The five counters of a lane (R119). -/
structure LaneCounters where
  inbound : Nat
  outbound : Nat
  ambiguous : Nat
  scansIn : Nat
  scansOut : Nat
  deriving DecidableEq, Repr

/-- Why a gate was lost (R113). -/
inductive HoldReason where
  | brace
  | close
  | sail
  | secure
  deriving DecidableEq, Repr

/-- A hold record (R125). -/
structure HoldRecord where
  counters : LaneCounters
  openTime : Option Nat
  closeTime : Option Nat
  reason : HoldReason
  deriving DecidableEq, Repr

/-- The open time of a lane: run-seconds and ship time (R109). -/
structure OpenTime where
  runSeconds : Nat
  shipTime : Option Nat
  deriving DecidableEq, Repr

/-- A lane record (R109) with its three debouncers (R110) and the held change (R111). `alone` is the beam
whose change under way is to be taken by itself, the other beam's held change having waited for it in vain
(R111). -/
structure Lane where
  s : Debouncer
  i : Debouncer
  brace : Debouncer
  held : Option Held
  alone : Option Beam
  softGate : Bool
  gate : Bool
  decoder : Decoder
  mark : Bool
  settling : Bool
  counters : LaneCounters
  openTime : OpenTime
  flowCount : Nat
  flowEnd : Option Nat
  crowdingArmed : Bool
  armedIn : Bool
  armedOut : Bool
  hold : Option HoldRecord
  deriving DecidableEq, Repr

/-! ## The Ship Clock (R144 to R152) -/

inductive Port where
  | atSea
  | inPort
  deriving DecidableEq, Repr

/-- The Ship Clock (R144). `ms` is the millisecond timer. -/
structure Clock where
  shipDay : Nat
  shipTime : Option Nat
  port : Port
  region : Nat
  runSeconds : Nat
  ms : Nat
  deriving DecidableEq, Repr

/-! ## The Message Link (R153 to R163): notices and replies -/

inductive Direction where
  | inward
  | outward
  deriving DecidableEq, Repr

/-- The value of a DOOR_FAULT notice (R66). -/
inductive DoorFault where
  | strikeConfirm
  | relatchConfirm
  | poll
  deriving DecidableEq, Repr

/-- The value of a WAKE_RESULT notice (R165, R168). -/
inductive WakeResult where
  | cold
  | retained
  | checkFailed
  deriving DecidableEq, Repr

/-- Kind, subject and value of a notice (R161), together: each kind has one form of subject and value. -/
inductive NoticeBody where
  | presence (uid : Nat) (place : Nat)
  | presenceMismatch (uid : Nat) (lane : Nat)
  | supersededCard (uid : Nat) (issue : Nat)
  | readerBlocked (door : Nat) (seconds : Nat)
  | override (uid : Nat) (door : Nat)
  | doorAjar (door : Nat) (seconds : Nat)
  | doorFault (door : Nat) (value : DoorFault)
  | postingsHigh (count : Nat)
  | tabExpired (slot : Nat) (total : Nat)
  | crowding (lane : Nat) (count : Nat)
  | tailgate (lane : Nat) (direction : Direction) (difference : Int)
  | laneHeld (lane : Nat) (reason : HoldReason)
  | missedAtSail (guest child crew security : Nat)
  | wakeResult (value : WakeResult)
  deriving DecidableEq, Repr

/-- A notice with its stamps (R161). -/
structure Notice where
  body : NoticeBody
  runSeconds : Nat
  shipTime : Option Nat
  deriving DecidableEq, Repr

/-- The status of a reply (R159), in code order (Table 30). -/
inductive Status where
  | ok
  | frame
  | unknown
  | length
  | range
  | notReady
  | state
  | full
  | notFound
  | exists_
  deriving DecidableEq, Repr

/-- The outcome of an OK reply to a job request (R160), in code order (Table 30). -/
inductive JobOutcome where
  | grantQueued
  | grantOpen
  | grantPending
  | grant
  | unknownDoor
  | blocked
  | unknownCard
  | superseded
  | secured
  | notBoarded
  | missed
  | expired
  | notThisDoor
  | hours
  | privacy
  | busFull
  | presence
  | noCharge
  | frozen
  | age
  | cap
  | limit
  | postFull
  | tabPool
  | tabLimit
  | notOwner
  | closed
  | delivered
  | laneShut
  | atSea
  | escort
  | boardRepeat
  | leaveRepeat
  | tabOpen
  | accepted
  deriving DecidableEq, Repr

/-- Why the consistency check failed (R4). -/
inductive LoadFailure where
  | noAccount
  | noDoor
  | section_
  deriving DecidableEq, Repr

/-- The card fields of a DOOR.CARD or GANGWAY.CARD reply (R25, R137). -/
structure CardView where
  slot : Nat
  cls : CardClass
  presence : Presence
  deriving DecidableEq, Repr

/-- What SUMMARY returns (R163). -/
structure SummaryView where
  opState : OpState
  mode : Mode
  port : Port
  region : Nat
  shipDay : Nat
  shipTime : Option Nat
  counts : PresenceCounts
  orderDepth : Nat
  noticeDepth : Nat
  pendingPostings : Nat
  deliveredPostings : Nat
  waitingDepth : Nat
  lost : Bool
  openTabs : Nat
  lanes : Four (Bool × Bool)
  deriving DecidableEq, Repr

/-- What DOOR.READ returns (R19). -/
structure DoorView where
  config : DoorConfig
  state : ChannelState
  dnd : Bool
  relatchOwed : Bool
  pollOutstanding : Bool
  missCount : Nat
  refusals : Nat
  blocked : Bool
  deriving DecidableEq, Repr

/-- The result of one line: covered units and line total (R83). -/
structure LineView where
  units : Nat
  total : Nat
  deriving DecidableEq, Repr

/-- What TAB.READ returns of a tab in OPEN or CLOSING (R90). -/
structure TabView where
  terminal : Nat
  uid : Nat
  account : Nat
  hold : Nat
  sums : Sums
  lineCount : Nat
  lastActivity : Nat
  idleDeadline : Option Nat
  reason : Option CloseReason
  secondsLeft : Option Nat
  place : Option Nat
  deriving DecidableEq, Repr

/-- What LANE.READ returns (R124). The last two option fields stand only while the gate is effective. -/
structure LaneView where
  softGate : Bool
  brace : Bool
  gate : Bool
  s : Bool
  i : Bool
  decoder : Decoder
  mark : Bool
  settling : Bool
  counters : LaneCounters
  openTime : OpenTime
  effectiveFor : Option Nat
  flow : Option (Nat × Nat × Bool)
  differenceIn : Int
  differenceOut : Int
  armedIn : Bool
  armedOut : Bool
  role : LaneRole
  flowWindow : Nat
  flowLimit : Nat
  hold : Option HoldRecord
  deriving DecidableEq, Repr

/-- An entry of an ALLABOARD.QUERY reply (R141). -/
structure AshoreEntry where
  uid : Nat
  account : Nat
  cls : CardClass
  shipTime : Option Nat
  lane : Option Nat
  deriving DecidableEq, Repr

/-- The content of a reply body after its tag: a status other than OK, or what the owning rule lists for
an OK reply (R171). -/
inductive Answer where
  /-- A reply whose status is not OK carries nothing further (R159). -/
  | refused (status : Status)
  /-- A job reply that carries its outcome alone. -/
  | outcome (o : JobOutcome)
  | summary (v : SummaryView)
  | notices (ns : List Notice) (left : Nat) (lost : Bool)
  | orders (os : List Order) (left : Nat)
  | loadBegun (shipDay : Nat)
  | loadPassed (cards : Nat)
  | loadFailed (slot : Nat) (reason : LoadFailure)
  | cardPut (slot issue : Nat) (presence : Presence)
  | cardRead (slot : Nat) (card : Card) (accountSlot : Option Nat)
  | issueNow (issue : Nat)
  | accountPut (slot : Nat)
  | accountRead (slot : Nat) (account : Account) (cards available : Nat)
  | credited (applied : Nat) (balance : Int)
  | doorRead (v : DoorView)
  | setting (value : Nat)
  | doorCard (o : JobOutcome) (channel : ChannelState) (card : Option CardView) (position : Option Nat)
  | doorReport (channel : ChannelState) (relatchOwed : Bool)
  | charged (number : Nat) (sums : Sums) (lines : List LineView) (allowance available : Nat)
  | overCap (total daySpent dailyCap : Nat)
  | overLimit (total available : Nat)
  | postingsFull (total : Nat)
  | alcoholLine (position : Nat)
  | tabOpened (slot generation hold available : Nat)
  | tabOpenLimit (hold available : Nat)
  | tabAdded (sums : Sums) (lines : List LineView) (allowance : Nat) (running : Sums) (hold available : Nat)
  | tabAddLimit (total increase available : Nat)
  | tabClosed (number : Option Nat) (sums : Sums)
  | tabRead (generation : Nat) (tab : Option TabView)
  | postings (ps : List Posting) (pending delivered : Nat)
  | released (removed pending delivered settled : Nat)
  | rewound (count : Nat)
  | voided (taken : Nat) (balance : Int) (daySpent allowance : Nat)
  | laneOpened (softGate brace gate : Bool)
  | laneClosed (hold : Option HoldRecord)
  | laneRead (v : LaneView)
  | scanned (o : JobOutcome) (card : CardView) (direction : Direction) (tabs : Option (Nat × Nat))
  | scanRefused (o : JobOutcome) (card : Option CardView)
  | escort (card : CardView) (age : Option Nat)
  | presenceSet (slot : Nat) (before after : Presence) (settled waiting : Nat)
  | allAboard (counts : PresenceCounts) (length start : Nat) (entries : List AshoreEntry)
  | shipTime (seconds : Nat)
  | shipDay (day : Nat)
  | port (condition : Port) (region : Nat)
  | sailed (guest child crew security lanes : Nat)
  | lockdown (cancelled placed owed lanes : Nat)
  /-- The OK reply of a request that carries nothing further (RETAIN, RESTART); it is never read. -/
  | done
  deriving DecidableEq, Repr

/-- A reply: reply code, echoed tag and content (R156). -/
structure Reply where
  code : Byte
  tag : Byte
  answer : Answer
  deriving DecidableEq, Repr

/-- A place of the reply queue that is not FREE (R155). A WAITING or executing request is held as the
command its frame spells. -/
inductive Place where
  | waiting (c : Instr)
  | executing (c : Instr)
  | reply (r : Reply)
  deriving DecidableEq, Repr

/-- A transfer under way: the reply that stood at the head when SCS was asserted, and whether a request
frame has been received in it (R153). -/
structure Transfer where
  sending : Option Reply
  framed : Bool
  deriving DecidableEq, Repr

/-- The Message Link Unit. `places` lists the places that are not FREE, in acceptance order; a place not
listed is FREE. RRDY and ATTN follow the state (R158) and are computed in `Machine/Flags.lean`. -/
structure Link where
  transfer : Option Transfer
  buffer : Option Instr
  places : List Place
  notices : List Notice
  lost : Bool
  deriving DecidableEq, Repr

/-! ## The Retention Unit (R164 to R169) -/

inductive Phase where
  | running
  | entering
  | retained
  deriving DecidableEq, Repr

/-- What became of the retained image in the store: kept, or lost with its supply, in which case the
mark may still read present (R165, R167). -/
inductive ImageStore where
  | kept
  | lost (markReads : Bool)
  deriving DecidableEq, Repr

/-- The Retention Unit, the power-fail and reset lines, and the state of the retention supply. -/
structure Retention where
  phase : Phase
  checkWord : Option (BitVec 32)
  mark : Bool
  pfailSeen : Bool
  pfail : Bool
  resetHeld : Bool
  vretFailed : Bool
  store : ImageStore
  deriving DecidableEq, Repr

/-! ## The whole part -/

/-- The GV416. `readers` holds the Access Decision Unit's state by door id, a missing door having an
empty history and no block. `freeCount` is the MODEL's own: it counts the free values drawn (log 12).
`pending` is the queue of commands that wait, first in, first out. -/
structure State where
  store : Store
  tracker : Tracker
  engine : Engine
  doorUnit : DoorUnit
  scheduler : Scheduler
  readers : Table Reader
  lanes : Four Lane
  clock : Clock
  retention : Retention
  link : Link
  freeCount : Nat
  pending : List Instr
  deriving DecidableEq, Repr

/-! ## Stops -/

/-- The faults of the part. There is none: every command of the table has an effect or leaves the state
as it was. -/
inductive Fault where
  deriving DecidableEq, Repr

/-- The refusals of the model. -/
inductive Refusal where
  /-- Raised by an arm of `exec` that has no meaning yet; no arm is left so. Safe: the machine stops. -/
  | notModelled (mnemonic : String)
  deriving DecidableEq, Repr

/-! ## Reset -/

/-- The settings at a cold start (R22). -/
def Settings.cold : Settings where
  relatchTime := 6
  ajarTime := 90
  strikeConfirmTime := 3
  relatchConfirmTime := 5
  busBudget := 4
  busWindow := 800
  refusalLimit := 5
  refusalWindow := 60
  blockTime := 30
  auditInterval := 1
  pollMissLimit := 3
  tabIdleLimit := 240
  tabDefaultHold := 5000
  voidWindow := 120
  escortWindow := 120
  debounce := 15
  laneRole := ⟨.both, .both, .both, .both⟩
  flowWindow := ⟨30, 30, 30, 30⟩
  flowLimit := ⟨40, 40, 40, 40⟩
  tailgateTolerance := 3
  highWater := 768

/-- The Credential Store at a cold start (R1, R6, R13, R17, R20, R21, R22). -/
def Store.cold : Store where
  opState := .unloaded
  mode := .service
  cards := []
  accounts := []
  doors := []
  categories := []
  regions := []
  tiers := []
  settings := Settings.cold

/-- Four counts of 0 (R129). -/
def ColumnCounts.zero : ColumnCounts := ⟨0, 0, 0, 0⟩

/-- Sixteen counts of 0 (R129). -/
def PresenceCounts.zero : PresenceCounts :=
  ⟨ColumnCounts.zero, ColumnCounts.zero, ColumnCounts.zero, ColumnCounts.zero⟩

/-- The Charge Engine at a cold start (R108). -/
def Engine.cold : Engine where
  tabs := []
  terminalTabs := []
  waiting := []
  postings := []
  nextPosting := 1
  highWaterArmed := true

/-- The Strike Scheduler at every start (R67): the latest release is taken to be bus 15 (R60). -/
def Scheduler.start : Scheduler := ⟨[], [], 15⟩

/-- A debouncer at a start (R109, R110): debounced level high, and a pin that is low begins a change at
millisecond 0. -/
def Debouncer.start (pin : Bool) : Debouncer := ⟨false, pin, if pin then some 0 else none⟩

/-- A lane at a start (R109), with the levels of its pins and the hold record it keeps. -/
def Lane.start (pinS pinI pinB : Bool) (hold : Option HoldRecord) : Lane where
  s := Debouncer.start pinS
  i := Debouncer.start pinI
  brace := Debouncer.start pinB
  held := none
  alone := none
  softGate := false
  gate := false
  decoder := .clear
  mark := false
  settling := false
  counters := ⟨0, 0, 0, 0, 0⟩
  openTime := ⟨0, none⟩
  flowCount := 0
  flowEnd := none
  crowdingArmed := true
  armedIn := true
  armedOut := true
  hold := hold

/-- The Ship Clock at a cold start (R144). -/
def Clock.cold : Clock := ⟨0, none, .atSea, 0, 0, 0⟩

/-- The Retention Unit after any start (R164). -/
def Retention.start : Retention := ⟨.running, none, false, false, false, false, false, .kept⟩

/-- The link right after a start: everything empty but the WAKE_RESULT notice (R161, R165). -/
def Link.start (transfer : Option Transfer) (value : WakeResult) : Link where
  transfer := transfer
  buffer := none
  places := []
  notices := [⟨.wakeResult value, 0, none⟩]
  lost := false

/-- The machine right after reset: the cold start of R165 with WAKE_RESULT COLD. DESIGN CHOICE (log 5):
the pins, which the outside world drives, are high at the lanes and PFAIL and SCS are deasserted; the
model's own `freeCount` is 0. -/
def State.reset : State where
  store := Store.cold
  tracker := ⟨PresenceCounts.zero, []⟩
  engine := Engine.cold
  doorUnit := ⟨[], 0, none⟩
  scheduler := Scheduler.start
  readers := []
  lanes := ⟨Lane.start false false false none, Lane.start false false false none,
    Lane.start false false false none, Lane.start false false false none⟩
  clock := Clock.cold
  retention := Retention.start
  link := Link.start none .cold
  freeCount := 0
  pending := []

end Sys2Proof.Machine
end

