-- ==== Sys2Proof/Config.lean ====
section
/-! DEFINITION. What the data book leaves to the part: the free values. Each is an opaque constant, so
that nothing proved of the model can depend on its value. -/

namespace Sys2Proof.Machine

/-- The retained image (R167): every item that the check word is taken over. -/
structure Image where
  store : Store
  tracker : Tracker
  tabs : Table TabSlot
  terminalTabs : Table Nat
  waiting : List Nat
  postings : List Posting
  nextPosting : Nat
  holds : Four (Option HoldRecord)
  shipDay : Nat
  port : Port
  region : Nat
  deriving DecidableEq, Repr

/-- The bytes of the image "in one fixed order of the part's own" (R167): the order is not stated.
DESIGN CHOICE (log 11). -/
opaque Config.imageOrder : Image → List Byte

/-- Whether the retention mark still reads present once the retention supply has failed (R165 allows
both); applied to the count of free values drawn. DESIGN CHOICE (log 12). -/
opaque Config.decayedMarkReads : Nat → Bool

/-- The new balance a VOID reply carries for an account retired since the charge: R106 asks for the field
and gives it no value there; applied to the count of free values drawn. DESIGN CHOICE (log 12). -/
opaque Config.retiredBalance : Nat → Int

/-- Whether the records that POST.FETCH returns read DELIVERED, the state they are given, or PENDING, the
state they had: R102 returns them and marks them, and says of neither which the record shows. DESIGN CHOICE
(log 27). -/
opaque Config.fetchedReadsDelivered : Bool

/-- Which of two answers an ACCOUNT.RETIRE gets for an account that a card and a CLOSING tab both name: the
TAB_OPEN that R98 gives it when true, the STATE of the order of R16 when false. DESIGN CHOICE (log 33): the two
rules disagree, and neither is set aside. -/
opaque Config.closingTabAnswersFirst : Bool

/-- The wire code of a lane gate, EFFECTIVE being `true`: Table 30 lists none. DESIGN CHOICE (log 13). -/
opaque Config.gateCode : Bool → Byte

/-- The wire code of a brace level, CLOSED being `true`: Table 30 lists none. DESIGN CHOICE (log 13). -/
opaque Config.braceCode : Bool → Byte

/-- The wire code of a beam level, BROKEN being `true`: Table 30 lists none. DESIGN CHOICE (log 13). -/
opaque Config.beamCode : Bool → Byte

/-- The wire code of a decoder state: Table 30 lists none. DESIGN CHOICE (log 13). -/
opaque Config.decoderCode : Decoder → Byte

end Sys2Proof.Machine
end

