-- ==== Sys2Proof/Machine/Ops.lean ====
section
/-! DEFINITION. The operations that every block shares: sparse tables, lanes, the passing of time,
notices, and the named updates of the state. Capacities are those of Table 1. -/

namespace Sys2Proof.Machine

/-! ## Capacities (Table 1) -/

def cardSlots : Nat := 8192
def accountSlots : Nat := 4096
def doorCount : Nat := 4096
def busCount : Nat := 16
def busQueueRoom : Nat := 8
def orderQueueRoom : Nat := 64
def postingQueueRoom : Nat := 1024
def noticeQueueRoom : Nat := 64
def replyPlaces : Nat := 4
def tabSlots : Nat := 128

/-- The modulus of the lane counters, 16,777,216 (R119). -/
def counterModulus : Nat := 16777216

/-- The largest 32-bit number: run-seconds saturate at it (R145) and posting numbers pass from it to 1
(R100). -/
def maxNat32 : Nat := 4294967295

/-- Day spent saturates at this many cents (R84). -/
def maxDaySpent : Nat := 2147483647

/-! ## Sparse tables -/

/-- The entry of a key. -/
def Table.find {α : Type} : Table α → Nat → Option α
  | [], _ => none
  | (j, v) :: t, k => if j = k then some v else Table.find t k

/-- The entry of a key, or the default record that a missing key stands for. -/
def Table.get {α : Type} (dflt : α) (t : Table α) (k : Nat) : α := (Table.find t k).getD dflt

/-- Writes an entry in its place in the rising order of keys. -/
def Table.put {α : Type} : Table α → Nat → α → Table α
  | [], k, v => [(k, v)]
  | (j, w) :: t, k, v =>
    if k < j then (k, v) :: (j, w) :: t
    else if k = j then (k, v) :: t
    else (j, w) :: Table.put t k v

/-- Removes the entry of a key. -/
def Table.erase {α : Type} (t : Table α) (k : Nat) : Table α := t.filter fun e => e.1 != k

/-- Writes a record in a table whose missing keys stand for `dflt`: writing `dflt` removes the entry, so
that equal tables are equal data. -/
def Table.set {α : Type} [DecidableEq α] (dflt : α) (t : Table α) (k : Nat) (v : α) : Table α :=
  if v = dflt then Table.erase t k else Table.put t k v

/-- The lowest key at or above `n` that a table with rising keys does not hold. -/
def Table.gap {α : Type} : Nat → Table α → Nat
  | n, [] => n
  | n, (j, _) :: t => if j = n then Table.gap (n + 1) t else n

/-- The lowest-numbered free slot of a table of `room` slots (R8, R14, R91). -/
def Table.freeSlot {α : Type} (room : Nat) (t : Table α) : Option Nat :=
  let n := Table.gap 0 t
  if n < room then some n else none

/-- The first entry that satisfies `p`. -/
def Table.seek {α : Type} (p : α → Bool) (t : Table α) : Option (Nat × α) := t.find? fun e => p e.2

/-- The entries of a table, each changed. -/
def Table.mapEntries {α β : Type} (f : α → β) (t : Table α) : Table β := t.map fun e => (e.1, f e.2)

/-- The keys strictly rise. -/
def Table.rising {α : Type} : Table α → Bool
  | [] => true
  | [_] => true
  | (j, _) :: (k, w) :: t => decide (j < k) && Table.rising ((k, w) :: t)

/-- The canonical form of a table with a default record: rising keys, and no entry equal to it. -/
def Table.canonical {α : Type} [DecidableEq α] (dflt : α) (t : Table α) : Bool :=
  Table.rising t && t.all fun e => decide (e.2 ≠ dflt)

/-! ## Lanes -/

/-- The thing of lane `n`; lanes are 0 to 3. -/
def Four.get {α : Type} (f : Four α) : Nat → α
  | 0 => f.l0
  | 1 => f.l1
  | 2 => f.l2
  | _ => f.l3

/-- Replaces the thing of lane `n`; a number above 3 names no lane and changes nothing. -/
def Four.set {α : Type} (f : Four α) (n : Nat) (v : α) : Four α :=
  match n with
  | 0 => { f with l0 := v }
  | 1 => { f with l1 := v }
  | 2 => { f with l2 := v }
  | 3 => { f with l3 := v }
  | _ => f

/-- The same thing done to each of the four. -/
def Four.map {α β : Type} (g : α → β) (f : Four α) : Four β := ⟨g f.l0, g f.l1, g f.l2, g f.l3⟩

/-! ## Named updates of the state -/

/-- Writes a card slot. -/
def State.setCard (s : State) (slot : Nat) (c : Card) : State :=
  { s with store := { s.store with cards := Table.put s.store.cards slot c } }

/-- Writes an account slot. -/
def State.setAccount (s : State) (slot : Nat) (a : Account) : State :=
  { s with store := { s.store with accounts := Table.put s.store.accounts slot a } }

/-- Replaces the settings. -/
def State.setSettings (s : State) (v : Settings) : State :=
  { s with store := { s.store with settings := v } }

/-- The slot and record of the card with a UID (R6). -/
def State.cardByUid (s : State) (uid : Nat) : Option (Nat × Card) :=
  Table.seek (fun c => c.uid == uid) s.store.cards

/-- The slot and record of the account with a number (R13). -/
def State.accountByNumber (s : State) (number : Nat) : Option (Nat × Account) :=
  Table.seek (fun a => a.number == number) s.store.accounts

/-- The configuration record of a door that was never put (R17). -/
def DoorConfig.cold : DoorConfig := ⟨false, 0, 0⟩

/-- A door's configuration record (R17). -/
def State.doorConfig (s : State) (door : Nat) : DoorConfig :=
  Table.get DoorConfig.cold s.store.doors door

/-- The start value of a door channel (R45). -/
def Channel.start : Channel := ⟨.unknown, false, none, false, false, 0⟩

/-- A door's channel record (R45). -/
def State.channel (s : State) (door : Nat) : Channel :=
  Table.get Channel.start s.doorUnit.channels door

/-- Replaces a door's channel record. -/
def State.setChannel (s : State) (door : Nat) (c : Channel) : State :=
  { s with doorUnit := { s.doorUnit with
      channels := Table.set Channel.start s.doorUnit.channels door c } }

/-- Replaces the state of a door's channel and leaves the rest of its record. -/
def State.setChannelState (s : State) (door : Nat) (st : ChannelState) : State :=
  s.setChannel door { s.channel door with state := st }

/-- The empty reader of R42. -/
def Reader.start : Reader := ⟨[], none⟩

/-- What the Access Decision Unit holds for a door. -/
def State.reader (s : State) (door : Nat) : Reader := Table.get Reader.start s.readers door

/-- Replaces what the Access Decision Unit holds for a door. -/
def State.setReader (s : State) (door : Nat) (r : Reader) : State :=
  { s with readers := Table.set Reader.start s.readers door r }

/-- The empty bus of R58 and R59. -/
def Bus.start : Bus := ⟨[], []⟩

/-- A strike bus. -/
def State.bus (s : State) (b : Nat) : Bus := Table.get Bus.start s.scheduler.buses b

/-- Replaces a strike bus. -/
def State.setBus (s : State) (b : Nat) (v : Bus) : State :=
  { s with scheduler := { s.scheduler with buses := Table.set Bus.start s.scheduler.buses b v } }

/-- Replaces a lane record. -/
def State.setLane (s : State) (n : Nat) (l : Lane) : State := { s with lanes := Four.set s.lanes n l }

/-- Replaces the link's state. -/
def State.setLink (s : State) (l : Link) : State := { s with link := l }

/-- The tab slot of a pool whose missing slots are FREE with generation 0 (R89). -/
def TabSlot.cold : TabSlot := ⟨0, .free⟩

/-- A tab slot (R89). -/
def State.tabSlot (s : State) (slot : Nat) : TabSlot := Table.get TabSlot.cold s.engine.tabs slot

/-- Replaces a tab slot. -/
def State.setTabSlot (s : State) (slot : Nat) (t : TabSlot) : State :=
  { s with engine := { s.engine with tabs := Table.set TabSlot.cold s.engine.tabs slot t } }

/-- The open tab count of a terminal (R89). -/
def State.terminalTabs (s : State) (terminal : Nat) : Nat := Table.get 0 s.engine.terminalTabs terminal

/-- Replaces the open tab count of a terminal. -/
def State.setTerminalTabs (s : State) (terminal n : Nat) : State :=
  { s with engine := { s.engine with terminalTabs := Table.set 0 s.engine.terminalTabs terminal n } }

/-! ## Time (R144, R145) -/

/-- The seconds of a ship time `d` seconds later, wrapping past 86,399 (R145). -/
def shipTimeAfter (t d : Nat) : Nat := (t + d) % 86400

/-- The clock at millisecond `t` of the timer, or unchanged when that is past. Run-seconds rise by 1 at
each further 1,000 ms and saturate; a set ship time rises with each rise of run-seconds (R145). -/
def Clock.advanceTo (c : Clock) (t : Nat) : Clock :=
  if t ≤ c.ms then c
  else
    let seconds := min (c.runSeconds + (t / 1000 - c.ms / 1000)) (max c.runSeconds maxNat32)
    { c with
      ms := t
      runSeconds := seconds
      shipTime := c.shipTime.map fun x => shipTimeAfter x (seconds - c.runSeconds) }

/-- Time passes to millisecond `t` (log 4: an event that is taken finds its deadline reached). -/
def State.advanceTo (s : State) (t : Nat) : State := { s with clock := s.clock.advanceTo t }

/-- Time passes until run-seconds reach `r`. -/
def State.advanceToSecond (s : State) (r : Nat) : State :=
  if r ≤ s.clock.runSeconds then s
  else s.advanceTo ((s.clock.ms / 1000 + (r - s.clock.runSeconds)) * 1000)

/-! ## Notices (R161) -/

/-- Raises a notice: it joins at the tail, or is dropped and sets the lost flag when 64 are held. -/
def State.raise (s : State) (b : NoticeBody) : State :=
  if s.link.notices.length < noticeQueueRoom then
    s.setLink { s.link with
      notices := s.link.notices ++ [⟨b, s.clock.runSeconds, s.clock.shipTime⟩] }
  else s.setLink { s.link with lost := true }

/-! ## When the part takes requests and events -/

/-- Frames are taken: the phase is RUNNING and the part is not held in reset (R165, R166). -/
def State.takesFrames (s : State) : Bool :=
  !s.retention.resetHeld && decide (s.retention.phase = .running)

/-- Events are taken: not from the capture on, and not while held in reset (R165, R166). -/
def State.takesEvents (s : State) : Bool :=
  !s.retention.resetHeld && decide (s.retention.phase ≠ .retained)

/-- One idle millisecond: with no command waiting the millisecond timer rises by 1 while the part takes
events (R145, R166). DESIGN CHOICE (log 2). -/
def State.idle (s : State) : State := if s.takesEvents then s.advanceTo (s.clock.ms + 1) else s

/-- The part is loaded: the operating state is SERVICE or SECURE (R2). -/
def State.loaded (s : State) : Bool :=
  decide (s.store.opState = .service) || decide (s.store.opState = .secure)

/-- An event at a block: when the part takes events, what it does to the state; an event whose condition
is not met (no such timer, no such change) leaves the state as it was (log 21). -/
def happens (event : State → Option State) (s : State) : Host.Outcome State Fault Refusal :=
  .next (if s.takesEvents then (event s).getD s else s)

end Sys2Proof.Machine
end

