-- ==== Sys2Proof/Machine/Operands.lean ====
section
/-! DEFINITION. Reading the fields of a request: enumerated codes (Table 30), optional fields, the card
configuration of CARD.PUT, the lines of a sale and the settings. `none` is a field outside its range,
which the owning block answers with status RANGE (R170). -/

namespace Sys2Proof.Machine

/-! ## Codes -/

/-- A two-valued flag: NO or OFF is 0, YES or ON is 1 (R170). -/
def flagOf : Nat → Option Bool
  | 0 => some false
  | 1 => some true
  | _ => none

/-- An optional field: presence byte 0 is absent, and its value bytes are not read; 1 is present (R170). -/
def optOf {α : Type} (f : OptField α) : Option (Option α) :=
  match f.presence with
  | 0 => some none
  | 1 => some (some f.value)
  | _ => none

def classOf : Nat → Option CardClass
  | 0 => some .guest
  | 1 => some .child
  | 2 => some .crew
  | 3 => some .security
  | _ => none

def presenceOf : Nat → Option Presence
  | 0 => some .expected
  | 1 => some .aboard
  | 2 => some .ashore
  | 3 => some .unverified
  | 4 => some .missed
  | _ => none

def accountStatusOf : Nat → Option AccountStatus
  | 0 => some .opened
  | 1 => some .frozen
  | _ => none

def contactOf : Nat → Option Contact
  | 0 => some .opened
  | 1 => some .closed
  | _ => none

def latchOf : Nat → Option Latch
  | 0 => some .latched
  | 1 => some .unlatched
  | _ => none

/-- The put kind: `true` is NEW, `false` CHANGE. -/
def isNewOf : Nat → Option Bool
  | 0 => some true
  | 1 => some false
  | _ => none

/-- The cause of a report: `true` is POLL_REPLY. -/
def isPollReplyOf : Nat → Option Bool
  | 0 => some false
  | 1 => some true
  | _ => none

/-! ## CARD.PUT (R7 step 1) -/

/-- The cabins of a request: a count of at most 2, door ids to 4,095, none listed twice; entries beyond
the count are not read (R7, R170). -/
def cabinsOf (q : CardPutReq) : Option (List Nat) :=
  match q.cabinCount with
  | 0 => some []
  | 1 => if q.cabin0 < doorCount then some [q.cabin0] else none
  | 2 =>
    if q.cabin0 < doorCount && q.cabin1 < doorCount && q.cabin0 != q.cabin1 then
      some [q.cabin0, q.cabin1]
    else none
  | _ => none

/-- The section of a request: CREW only, door ids to 4,095; the order of its bounds is judged later (R7). -/
def sectionOf (cls : CardClass) (f : OptField Span2) : Option (Option Span2) :=
  (optOf f).bind fun o =>
    match o with
    | none => some none
    | some p => if cls = .crew && p.first < doorCount && p.second < doorCount then some (some p) else none

/-- The hours of a request: CREW only, minutes to 1,439, start other than end (R7). -/
def hoursOf (cls : CardClass) (f : OptField Span2) : Option (Option Span2) :=
  (optOf f).bind fun o =>
    match o with
    | none => some none
    | some p =>
      if cls = .crew && p.first < 1440 && p.second < 1440 && p.first != p.second then some (some p)
      else none

/-- The daily cap of a request: CHILD only, at most 1,000,000 (R7). -/
def dailyCapOf (cls : CardClass) (f : OptField Nat) : Option (Option Nat) :=
  (optOf f).bind fun o =>
    match o with
    | none => some none
    | some v => if cls = .child && v ≤ 1000000 then some (some v) else none

/-- The configuration a CARD.PUT carries, when every field is in range (R7 step 1). -/
def cardConfigOf (q : CardPutReq) : Option CardConfig :=
  (classOf q.cls).bind fun cls =>
  (cabinsOf q).bind fun cabins =>
  (sectionOf cls q.section_).bind fun sect =>
  (hoursOf cls q.hours).bind fun hours =>
  (flagOf q.privilege).bind fun privilege =>
  (dailyCapOf cls q.dailyCap).bind fun cap =>
  if q.firstDay ≤ q.lastDay && q.tier ≤ 3 then
    some ⟨cls, q.account, cabins, sect, hours, q.firstDay, q.lastDay, privilege, q.tier, cap⟩
  else none

/-- The initial presence of a NEW put: EXPECTED or ABOARD (R7). -/
def initialPresenceOf : Nat → Option Presence
  | 0 => some .expected
  | 1 => some .aboard
  | _ => none

/-! ## Sales (R68) -/

/-- A line's fields are in range. -/
def Line.inRange (l : Line) : Bool :=
  decide (l.category ≤ 15) && decide (l.unitPrice ≤ 99999) &&
    decide (1 ≤ l.quantity) && decide (l.quantity ≤ 99)

/-- The line count and every line are in range. -/
def linesInRange (ls : List Line) : Bool :=
  decide (1 ≤ ls.length) && decide (ls.length ≤ 8) && ls.all Line.inRange

/-- A terminal id is in range. -/
def terminalInRange (t : Nat) : Bool := decide (t ≤ 63)

/-! ## Settings (R22, R23, Table 32) -/

/-- The settings; the per-lane ones carry their lane. -/
inductive SettingName where
  | relatchTime
  | ajarTime
  | strikeConfirmTime
  | relatchConfirmTime
  | busBudget
  | busWindow
  | refusalLimit
  | refusalWindow
  | blockTime
  | auditInterval
  | pollMissLimit
  | tabIdleLimit
  | tabDefaultHold
  | voidWindow
  | escortWindow
  | debounce
  | laneRole (lane : Nat)
  | flowWindow (lane : Nat)
  | flowLimit (lane : Nat)
  | tailgateTolerance
  | highWater
  deriving DecidableEq, Repr

/-- A per-lane setting is named with a lane of 0 to 3 (R23). -/
def onLane (lane : Nat) (f : Nat → SettingName) : Except Status SettingName :=
  if lane ≤ 3 then .ok (f lane) else .error .range

/-- The setting that an identifier and a lane name (Table 32, R23). -/
def settingOf (id lane : Nat) : Except Status SettingName :=
  match id with
  | 1 => .ok .relatchTime
  | 2 => .ok .ajarTime
  | 3 => .ok .strikeConfirmTime
  | 4 => .ok .relatchConfirmTime
  | 5 => .ok .busBudget
  | 6 => .ok .busWindow
  | 7 => .ok .refusalLimit
  | 8 => .ok .refusalWindow
  | 9 => .ok .blockTime
  | 10 => .ok .auditInterval
  | 11 => .ok .pollMissLimit
  | 12 => .ok .tabIdleLimit
  | 13 => .ok .tabDefaultHold
  | 14 => .ok .voidWindow
  | 15 => .ok .escortWindow
  | 16 => .ok .debounce
  | 17 => onLane lane .laneRole
  | 18 => onLane lane .flowWindow
  | 19 => onLane lane .flowLimit
  | 20 => .ok .tailgateTolerance
  | 21 => .ok .highWater
  | _ => .error .notFound

/-- The nearer bound of a range in place of a value outside it (R23). -/
def clampTo (low high v : Nat) : Nat := max low (min high v)

/-- A flow window value (R23): below 20 takes 10 s, 20 to 44 takes 30 s, 45 or more takes 60 s. -/
def flowWindowOf (v : Nat) : Nat := if v < 20 then 10 else if v < 45 then 30 else 60

/-- A lane role code; a code above 2 takes BOTH (R23). -/
def laneRoleOf : Nat → LaneRole
  | 0 => .board
  | 1 => .leave
  | _ => .both

/-- The code of a lane role (R23). -/
def LaneRole.code : LaneRole → Nat
  | .board => 0
  | .leave => 1
  | .both => 2

/-- The value in force of a setting, in its unit (R23). -/
def Settings.read (v : Settings) : SettingName → Nat
  | .relatchTime => v.relatchTime
  | .ajarTime => v.ajarTime
  | .strikeConfirmTime => v.strikeConfirmTime
  | .relatchConfirmTime => v.relatchConfirmTime
  | .busBudget => v.busBudget
  | .busWindow => v.busWindow
  | .refusalLimit => v.refusalLimit
  | .refusalWindow => v.refusalWindow
  | .blockTime => v.blockTime
  | .auditInterval => v.auditInterval
  | .pollMissLimit => v.pollMissLimit
  | .tabIdleLimit => v.tabIdleLimit
  | .tabDefaultHold => v.tabDefaultHold
  | .voidWindow => v.voidWindow
  | .escortWindow => v.escortWindow
  | .debounce => v.debounce
  | .laneRole n => (Four.get v.laneRole n).code
  | .flowWindow n => Four.get v.flowWindow n
  | .flowLimit n => Four.get v.flowLimit n
  | .tailgateTolerance => v.tailgateTolerance
  | .highWater => v.highWater

/-- The settings with one of them written; a value outside the range of R22 is replaced as R23 gives. -/
def Settings.write (v : Settings) (name : SettingName) (x : Nat) : Settings :=
  match name with
  | .relatchTime => { v with relatchTime := clampTo 2 30 x }
  | .ajarTime => { v with ajarTime := clampTo 10 600 x }
  | .strikeConfirmTime => { v with strikeConfirmTime := clampTo 1 10 x }
  | .relatchConfirmTime => { v with relatchConfirmTime := clampTo 1 10 x }
  | .busBudget => { v with busBudget := clampTo 1 8 x }
  | .busWindow => { v with busWindow := clampTo 200 2000 x }
  | .refusalLimit => { v with refusalLimit := clampTo 2 15 x }
  | .refusalWindow => { v with refusalWindow := clampTo 10 600 x }
  | .blockTime => { v with blockTime := clampTo 5 300 x }
  | .auditInterval => { v with auditInterval := clampTo 0 60 x }
  | .pollMissLimit => { v with pollMissLimit := clampTo 1 7 x }
  | .tabIdleLimit => { v with tabIdleLimit := clampTo 10 720 x }
  | .tabDefaultHold => { v with tabDefaultHold := clampTo 0 100000 x }
  | .voidWindow => { v with voidWindow := clampTo 0 600 x }
  | .escortWindow => { v with escortWindow := clampTo 0 600 x }
  | .debounce => { v with debounce := clampTo 5 50 x }
  | .laneRole n => { v with laneRole := Four.set v.laneRole n (laneRoleOf x) }
  | .flowWindow n => { v with flowWindow := Four.set v.flowWindow n (flowWindowOf x) }
  | .flowLimit n => { v with flowLimit := Four.set v.flowLimit n (clampTo 1 255 x) }
  | .tailgateTolerance => { v with tailgateTolerance := clampTo 0 15 x }
  | .highWater => { v with highWater := clampTo 1 1024 x }

end Sys2Proof.Machine
end

