-- ==== Sys2Proof/Machine/Gangway.lean ====
section
/-! DEFINITION. The Gangway Counter Unit's shared operations: the gate (R112, R113), the passage decoder
(R117, R118), counters (R119), the tailgate comparison (R123), the debouncers and the pairing of beam
changes (R110, R111). -/

namespace Sys2Proof.Machine

/-- A lane record. -/
def State.lane (s : State) (n : Nat) : Lane := Four.get s.lanes n

/-! ## The gate (R112, R113) -/

/-- The gate becomes effective: what the same event sets (R112). -/
def State.gateEffective (s : State) (n : Nat) : State :=
  let l := s.lane n
  s.setLane n { l with
    gate := true
    counters := ⟨0, 0, 0, 0, 0⟩
    decoder := .clear
    mark := false
    settling := l.s.level || l.i.level
    flowCount := 0
    flowEnd := some (s.clock.ms + Four.get s.store.settings.flowWindow n * 1000)
    crowdingArmed := true
    armedIn := true
    armedOut := true
    openTime := ⟨s.clock.runSeconds, s.clock.shipTime⟩ }

/-- The hold record written at a gate loss (R125). -/
def State.holdRecord (s : State) (l : Lane) (reason : HoldReason) : HoldRecord :=
  ⟨l.counters, l.openTime.shipTime, s.clock.shipTime, reason⟩

/-- The gate is lost: what the same event does (R113). -/
def State.gateLoss (s : State) (n : Nat) (reason : HoldReason) : State :=
  let l := s.lane n
  (s.setLane n { l with
    gate := false
    decoder := .clear
    mark := false
    settling := false
    flowEnd := none
    hold := some (s.holdRecord l reason) }).raise (.laneHeld n reason)

/-- The soft gate becomes SET; with the brace closed the gate becomes effective (R112, R114). A soft gate
already SET changes nothing. -/
def State.setSoftGate (s : State) (n : Nat) : State :=
  let l := s.lane n
  if l.softGate then s
  else
    let s1 := s.setLane n { l with softGate := true }
    if l.brace.level then s1.gateEffective n else s1

/-- The soft gate becomes CLEAR; an effective gate is lost with the reason given (R113, R115, R116). -/
def State.clearSoftGate (s : State) (n : Nat) (reason : HoldReason) : State :=
  let l := s.lane n
  let s1 := s.setLane n { l with softGate := false }
  if l.gate then s1.gateLoss n reason else s1

/-- SAIL and MODE.SET SECURE clear the four soft gates in ascending lane order (R116). -/
def State.closeLanes (s : State) (reason : HoldReason) : State :=
  [0, 1, 2, 3].foldl (fun x n => State.clearSoftGate x n reason) s

/-- The lanes whose gate is effective. -/
def State.effectiveLanes (s : State) : Nat := ([0, 1, 2, 3].filter fun n => (s.lane n).gate).length

/-! ## Counters and the tailgate comparison (R119, R123) -/

/-- A lane counter raised by 1; after 16,777,215 it is 0 (R119). -/
def bump (n : Nat) : Nat := (n + 1) % counterModulus

/-- The difference of two counters, modulo 16,777,216, as a signed number (R123). -/
def difference (beams scans : Nat) : Int :=
  let d := (beams + counterModulus - scans % counterModulus) % counterModulus
  if d < 8388608 then (d : Int) else (d : Int) - 16777216

/-- The difference of a direction (R123). -/
def LaneCounters.difference (c : LaneCounters) : Direction → Int
  | .inward => Machine.difference c.inbound c.scansIn
  | .outward => Machine.difference c.outbound c.scansOut

/-- The tailgate armed flag of a direction. -/
def Lane.armed (l : Lane) : Direction → Bool
  | .inward => l.armedIn
  | .outward => l.armedOut

/-- Replaces the tailgate armed flag of a direction. -/
def Lane.setArmed (l : Lane) (d : Direction) (v : Bool) : Lane :=
  match d with
  | .inward => { l with armedIn := v }
  | .outward => { l with armedOut := v }

/-- The tailgate comparison of a direction is evaluated (R123). -/
def State.tailgate (s : State) (n : Nat) (d : Direction) : State :=
  let l := s.lane n
  let x := l.counters.difference d
  if s.store.settings.tailgateTolerance < x.natAbs then
    if l.armed d then (s.setLane n (l.setArmed d false)).raise (.tailgate n d x) else s
  else s.setLane n (l.setArmed d true)

/-- An accepted scan is counted and its direction's comparison evaluated (R122). -/
def State.countScan (s : State) (n : Nat) (d : Direction) : State :=
  let l := s.lane n
  let c := match d with
    | .inward => { l.counters with scansIn := bump l.counters.scansIn }
    | .outward => { l.counters with scansOut := bump l.counters.scansOut }
  (s.setLane n { l with counters := c }).tailgate n d

/-! ## The passage decoder (R117, R118) -/

/-- An event at the decoder: S changes, I changes, or both at once. -/
inductive BeamEvent where
  | single (b : Beam)
  | double
  deriving DecidableEq, Repr

/-- What a transition counts. -/
inductive Passage where
  | inbound
  | outbound
  | ambiguous
  deriving DecidableEq, Repr

/-- A transition of the decoder: the next state, what it counts, and whether it sets the mark. -/
structure Transition where
  next : Decoder
  count : Option Passage
  mark : Bool
  deriving DecidableEq, Repr

/-- A transition with no entry in the count and mark column. -/
def goes (d : Decoder) : Transition := ⟨d, none, false⟩

/-- The two tables of R117. -/
def Decoder.step : Decoder → BeamEvent → Transition
  | .clear, .single .s => goes .in1
  | .clear, .single .i => goes .out1
  | .clear, .double => ⟨.spanX, none, true⟩
  | .in1, .single .s => goes .clear
  | .in1, .single .i => goes .in2
  | .in1, .double => ⟨.in3, none, true⟩
  | .in2, .single .s => goes .in3
  | .in2, .single .i => goes .in1
  | .in2, .double => ⟨.clear, some .ambiguous, false⟩
  | .in3, .single .i => ⟨.clear, some .inbound, false⟩
  | .in3, .single .s => goes .in2
  | .in3, .double => ⟨.in1, none, true⟩
  | .spanX, .single .s => goes .in3
  | .spanX, .single .i => goes .out3
  | .spanX, .double => ⟨.clear, some .ambiguous, false⟩
  | .out1, .single .i => goes .clear
  | .out1, .single .s => goes .out2
  | .out1, .double => ⟨.out3, none, true⟩
  | .out2, .single .i => goes .out3
  | .out2, .single .s => goes .out1
  | .out2, .double => ⟨.clear, some .ambiguous, false⟩
  | .out3, .single .s => ⟨.clear, some .outbound, false⟩
  | .out3, .single .i => goes .out2
  | .out3, .double => ⟨.out1, none, true⟩

/-- A completed passage: a marked one counts ambiguous; its counter and the flow count rise, and an
inbound or outbound one has its direction's comparison evaluated (R118, R120). -/
def State.countPassage (s : State) (n : Nat) (p : Passage) : State :=
  let l := s.lane n
  let counters := match p with
    | .inbound => { l.counters with inbound := bump l.counters.inbound }
    | .outbound => { l.counters with outbound := bump l.counters.outbound }
    | .ambiguous => { l.counters with ambiguous := bump l.counters.ambiguous }
  let s1 := s.setLane n { l with counters := counters, flowCount := min (l.flowCount + 1) 65535 }
  match p with
  | .inbound => s1.tailgate n .inward
  | .outbound => s1.tailgate n .outward
  | .ambiguous => s1

/-- An event drives the decoder; every transition into CLEAR clears the mark (R118). -/
def State.decodeBeams (s : State) (n : Nat) (e : BeamEvent) : State :=
  let l := s.lane n
  let t := l.decoder.step e
  let s1 := s.setLane n { l with
    decoder := t.next
    mark := if t.next = .clear then false else l.mark || t.mark }
  match t.count with
  | none => s1
  | some p => s1.countPassage n (if l.mark then .ambiguous else p)

/-! ## Beam changes (R110, R111) -/

/-- The debouncer of a beam. -/
def Lane.beam (l : Lane) : Beam → Debouncer
  | .s => l.s
  | .i => l.i

/-- Replaces the debouncer of a beam. -/
def Lane.setBeam (l : Lane) (b : Beam) (d : Debouncer) : Lane :=
  match b with
  | .s => { l with s := d }
  | .i => { l with i := d }

/-- The other beam of the lane. -/
def otherBeam : Beam → Beam
  | .s => .i
  | .i => .s

/-- The level that a beam's pin is compared with: the held level while its change is held (R111). -/
def Lane.reference (l : Lane) (b : Beam) : Bool :=
  if (l.held.map Held.beam) = some b then !(l.beam b).level else (l.beam b).level

/-- A taken change moves the debounced level of a beam. -/
def Debouncer.flip (d : Debouncer) : Debouncer := { d with level := !d.level }

/-- The beams of an event have their levels moved. -/
def Lane.moveLevels (l : Lane) : BeamEvent → Lane
  | .single b => l.setBeam b (l.beam b).flip
  | .double => { l with s := l.s.flip, i := l.i.flip }

/-- A beam change, single or double, is taken: the levels move, and while the gate is effective it drives
the decoder, or while settling is set clears it once both beams are CLEAR (R110, R118). -/
def State.takeBeams (s : State) (n : Nat) (e : BeamEvent) : State :=
  let l := (s.lane n).moveLevels e
  let s1 := s.setLane n l
  if l.gate then
    if l.settling then
      if !l.s.level && !l.i.level then s1.setLane n { l with settling := false } else s1
    else s1.decodeBeams n e
  else s1

/-- The held change is taken alone (R111). -/
def State.takeHeld (s : State) (n : Nat) : State :=
  match (s.lane n).held with
  | some h => (s.setLane n { s.lane n with held := none }).takeBeams n (.single h.beam)
  | none => s

/-- The change under way that a held change waits for is to be taken by itself from now on (R111). -/
def Lane.unpaired (l : Lane) : Lane :=
  { l with alone := l.held.bind fun h =>
      if (l.beam (otherBeam h.beam)).since.isSome then some (otherBeam h.beam) else none }

/-- The wait of the held change has run out: it is taken alone, and so will be the change that it waited for
(R111). -/
def State.expireHeld (s : State) (n : Nat) : State := (s.setLane n (s.lane n).unpaired).takeHeld n

/-- The change under way of a beam is no more: `alone` no longer names it. -/
def Lane.forget (l : Lane) (b : Beam) : Lane := { l with alone := if l.alone = some b then none else l.alone }

/-- The change under way of a beam is over: it has become stable. -/
def Lane.endChange (l : Lane) (b : Beam) : Lane :=
  (l.setBeam b { l.beam b with since := none }).forget b

/-- A held change is overdue at millisecond `t` for a change of beam `b`: the wait of one debounce time
has run out, or the held beam itself is the one (R111). -/
def State.heldOverdue (s : State) (n : Nat) (b : Beam) (t : Nat) : Bool :=
  match (s.lane n).held with
  | some h => decide (h.beam = b) || decide (h.since + s.store.settings.debounce < t)
  | none => false

/-- The millisecond at which the change under way of a debouncer is stable (R110). -/
def State.stableAt (s : State) (since : Nat) : Nat := max s.clock.ms (since + s.store.settings.debounce)

/-- The moment at which the change of a beam becomes stable, the end of its debounce; a held change whose wait
has run out by then has been taken alone before (R110, R111). -/
def State.beamStable (s : State) (n : Nat) (b : Beam) (since : Nat) : State :=
  let t := s.stableAt since
  let s1 := s.advanceTo t
  if s1.heldOverdue n b t then s1.expireHeld n else s1

/-- The pin of a debouncer moves; a level other than the reference begins a change under way, and the
reference level abandons one (R110). -/
def Debouncer.edge (d : Debouncer) (reference low : Bool) (now : Nat) : Debouncer :=
  { d with pin := low, since := if low = reference then none else some now }

/-- The beam pins of a lane move while the debouncers run; an abandoned change releases the other beam's
held change (R111). -/
def State.beamEdge (s : State) (n : Nat) (b : Beam) (low : Bool) : State :=
  let l := s.lane n
  let s1 := s.setLane n ((l.setBeam b ((l.beam b).edge (l.reference b) low s.clock.ms)).forget b)
  if (l.beam b).since.isSome && low == l.reference b && decide (l.held.map Held.beam = some (otherBeam b)) then
    s1.takeHeld n
  else s1

/-- A brace change is taken: the level moves, and the gate may become effective or be lost (R110, R112,
R113). -/
def State.takeBrace (s : State) (n : Nat) : State :=
  let l := s.lane n
  let brace : Debouncer := { l.brace.flip with since := none }
  let s1 := s.setLane n { l with brace := brace }
  if brace.level then (if l.softGate then s1.gateEffective n else s1)
  else if l.gate then s1.gateLoss n .brace
  else s1

end Sys2Proof.Machine
end

