-- ==== Sys2Proof/Decode.lean ====
section
/-! DEFINITION. From the bytes of SDI to commands: byte order, the CRC-16 of frames, the reception of a
frame (R153, R154), the message catalogue (Tables 29 and 31) and `decodeTableWord`. -/

namespace Sys2Proof

/-! ## Numbers on the wire (R170) -/

/-- An unsigned number sent most significant byte first. -/
def bytesToNat (bs : List Byte) : Nat := bs.foldl (fun a b => a * 256 + b.toNat) 0

/-- The low `width` bytes of a number, most significant first. -/
def natToBytes : (width : Nat) → Nat → List Byte
  | 0, _ => []
  | w + 1, n => BitVec.ofNat 8 (n / 256 ^ w) :: natToBytes w n

/-- A 4-byte two's-complement number (money, R170). -/
def signed32 (n : Nat) : Int := if n < 2147483648 then (n : Int) else (n : Int) - 4294967296

/-- The unsigned field of `width` bytes at an offset of a body. -/
def fieldAt (body : List Byte) (offset width : Nat) : Nat := bytesToNat ((body.drop offset).take width)

/-! ## Check words (R154, R167) -/

/-- One bit of the CRC-16 of frames, most significant bit first. -/
def crc16Bit (c : BitVec 16) : BitVec 16 := if c.msb then (c <<< 1) ^^^ 0x1021#16 else c <<< 1

/-- `n` bits of the CRC-16. -/
def crc16Bits : Nat → BitVec 16 → BitVec 16
  | 0, c => c
  | n + 1, c => crc16Bits n (crc16Bit c)

/-- The CRC-16 of a run of bytes: polynomial 0x1021, initial value 0xFFFF, nothing reflected, final
exclusive-or 0 (R154). -/
def crc16 (bs : List Byte) : BitVec 16 :=
  bs.foldl (fun c b => crc16Bits 8 (c ^^^ BitVec.shiftLeft (b.setWidth 16) 8)) 0xFFFF#16

/-- One bit of the CRC-32 of the retained image. -/
def crc32Bit (c : BitVec 32) : BitVec 32 := if c.msb then (c <<< 1) ^^^ 0x04C11DB7#32 else c <<< 1

/-- `n` bits of the CRC-32. -/
def crc32Bits : Nat → BitVec 32 → BitVec 32
  | 0, c => c
  | n + 1, c => crc32Bits n (crc32Bit c)

/-- The CRC-32 of a run of bytes: polynomial 0x04C11DB7, initial value 0xFFFFFFFF (R167). DEDUCED
(log 11): most significant bit first and no final exclusive-or, as for the CRC-16. -/
def crc32 (bs : List Byte) : BitVec 32 :=
  bs.foldl (fun c b => crc32Bits 8 (c ^^^ BitVec.shiftLeft (b.setWidth 32) 24)) 0xFFFFFFFF#32

/-! ## Frames (R153, R154, Table 29) -/

/-- The sync byte. -/
def syncByte : Byte := 0xC3#8

/-- The largest body length of a request frame. -/
def maxBody : Nat := 240

/-- The bytes after the sync byte; bytes before it are ignored (R153). -/
def afterSync : List Byte → Option (List Byte)
  | [] => none
  | b :: bs => if b = syncByte then some bs else afterSync bs

/-- A frame whose reception has ended, with its mark (R154). -/
inductive Frame where
  | sound (code tag : Byte) (body : List Byte)
  | badCrc (tag : Byte)
  | tooLong
  deriving DecidableEq, Repr

/-- The frame in the bytes of SDI, or `none` when no frame's reception has ended: there is no sync byte,
or fewer bytes than the frame has (R153). Bytes after the frame are ignored. -/
def receiveFrame (sdi : List Byte) : Option Frame :=
  match afterSync sdi with
  | some (h :: l :: rest) =>
    let n := bytesToNat [h, l]
    if maxBody < n then some .tooLong
    else if rest.length < n + 4 then none
    else
      match rest with
      | code :: tag :: more =>
        let body := more.take n
        let crc := (more.drop n).take 2
        if (crc16 (h :: l :: code :: tag :: body)).toNat = bytesToNat crc then
          some (.sound code tag body)
        else some (.badCrc tag)
      | _ => none
  | _ => none

/-- A frame as it is sent, from its sync byte to its CRC (Table 29). -/
def frameBytes (code tag : Byte) (body : List Byte) : List Byte :=
  let covered := natToBytes 2 body.length ++ code :: tag :: body
  syncByte :: covered ++ natToBytes 2 (crc16 covered).toNat

/-! ## The message catalogue (Table 31) -/

/-- A body of one fixed length (R156 step 3). -/
def fixed {α : Type} (length : Nat) (body : List Byte) (read : α) : Body α :=
  if body.length = length then .fit read else .misfit body.length

/-- `n` lines of 5 bytes from an offset of a body. -/
def readLines (body : List Byte) : (n offset : Nat) → List Line
  | 0, _ => []
  | n + 1, o =>
    ⟨fieldAt body o 1, fieldAt body (o + 1) 3, fieldAt body (o + 4) 1⟩ :: readLines body n (o + 5)

/-- A body with lines: its length is fixed by its line count field, the last byte of the `head` bytes,
whatever that holds; a body too short to hold the field does not fit (R156, R171). -/
def lined {α : Type} (head : Nat) (body : List Byte) (read : List Line → α) : Body α :=
  let n := fieldAt body (head - 1) 1
  if head ≤ body.length && body.length == head + 5 * n then .fit (read (readLines body n head))
  else .misfit body.length

/-- An optional pair of 2-byte numbers (5 bytes) at an offset. -/
def readPair (body : List Byte) (o : Nat) : OptField Span2 :=
  ⟨fieldAt body o 1, ⟨fieldAt body (o + 1) 2, fieldAt body (o + 3) 2⟩⟩

/-- The fields of a CARD.PUT body (40 bytes). -/
def readCardPut (b : List Byte) : CardPutReq where
  kind := fieldAt b 0 1
  uid := fieldAt b 1 7
  issue := fieldAt b 8 1
  presence := fieldAt b 9 1
  cls := fieldAt b 10 1
  account := fieldAt b 11 4
  cabinCount := fieldAt b 15 1
  cabin0 := fieldAt b 16 2
  cabin1 := fieldAt b 18 2
  section_ := readPair b 20
  hours := readPair b 25
  firstDay := fieldAt b 30 2
  lastDay := fieldAt b 32 2
  privilege := fieldAt b 34 1
  tier := fieldAt b 35 1
  dailyCap := ⟨fieldAt b 36 1, fieldAt b 37 3⟩

/-- The MODE.SET command of a body: the code of SECURE has a row of its own. -/
def readModeSet (tag : Byte) (b : List Byte) : Instr :=
  if b.length = 1 ∧ fieldAt b 0 1 = 1 then .modeSetSecure tag .whole
  else .modeSetService tag (fixed 1 b (fieldAt b 0 1))

/-- The RESTART command of a body: the code of COLD has a row of its own. -/
def readRestart (tag : Byte) (b : List Byte) : Instr :=
  if b.length = 1 ∧ fieldAt b 0 1 = 1 then .restartCold tag
  else .restartWarm tag (fixed 1 b (fieldAt b 0 1))

/-- The request that a sound frame spells. A code that Table 31 does not list names no message, and
neither does a code of 0x80 or above (R156 step 2). -/
def readRequest (code tag : Byte) (b : List Byte) : Instr :=
  match code.toNat with
  | 0x01 => .summary tag (fixed 0 b ())
  | 0x02 => .noticeFetch tag (fixed 0 b ())
  | 0x03 => .orderFetch tag (fixed 0 b ())
  | 0x10 => .loadBegin tag (fixed 2 b (fieldAt b 0 2))
  | 0x11 => .loadEnd tag (fixed 0 b ()) .whole
  | 0x12 => .cardPut tag (fixed 40 b (readCardPut b))
  | 0x13 => .cardRead tag (fixed 10 b ⟨fieldAt b 0 1, fieldAt b 1 7, fieldAt b 8 2⟩)
  | 0x14 => .cardReissue tag (fixed 7 b (fieldAt b 0 7))
  | 0x15 => .cardRetire tag (fixed 7 b (fieldAt b 0 7))
  | 0x16 => .accountPut tag
      (fixed 10 b ⟨fieldAt b 0 1, fieldAt b 1 4, signed32 (fieldAt b 5 4), fieldAt b 9 1⟩)
  | 0x17 => .accountRead tag (fixed 4 b (fieldAt b 0 4))
  | 0x18 => .accountCredit tag (fixed 8 b ⟨fieldAt b 0 4, signed32 (fieldAt b 4 4)⟩)
  | 0x19 => .accountRetire tag (fixed 4 b (fieldAt b 0 4))
  | 0x1A => .doorPut tag (fixed 6 b ⟨fieldAt b 0 2, fieldAt b 2 1, fieldAt b 3 2, fieldAt b 5 1⟩)
  | 0x1B => .doorRead tag (fixed 2 b (fieldAt b 0 2))
  | 0x1C => .categoryPut tag (fixed 5 b ⟨fieldAt b 0 1, fieldAt b 1 1, fieldAt b 2 1, fieldAt b 3 2⟩)
  | 0x1D => .regionPut tag (fixed 3 b ⟨fieldAt b 0 1, fieldAt b 1 2⟩)
  | 0x1E => .tierPut tag
      (fixed 7 b ⟨fieldAt b 0 1, BitVec.ofNat 16 (fieldAt b 1 2), fieldAt b 3 1, fieldAt b 4 3⟩) .whole
  | 0x1F => .settingPut tag (fixed 6 b ⟨fieldAt b 0 1, fieldAt b 1 1, fieldAt b 2 4⟩)
  | 0x20 => .settingRead tag (fixed 2 b ⟨fieldAt b 0 1, fieldAt b 1 1⟩)
  | 0x30 => .doorCard tag (fixed 10 b ⟨fieldAt b 0 2, fieldAt b 2 7, fieldAt b 9 1⟩)
  | 0x31 => .doorReport tag
      (fixed 6 b ⟨fieldAt b 0 2, fieldAt b 2 1, fieldAt b 3 1, fieldAt b 4 1, fieldAt b 5 1⟩)
  | 0x40 => .charge tag (lined 10 b fun ls => ⟨fieldAt b 0 1, fieldAt b 1 7, fieldAt b 8 1, ls⟩)
  | 0x41 => .void tag (fixed 5 b ⟨fieldAt b 0 1, fieldAt b 1 4⟩)
  | 0x42 => .tabOpen tag
      (fixed 13 b ⟨fieldAt b 0 1, fieldAt b 1 7, fieldAt b 8 1, signed32 (fieldAt b 9 4)⟩)
  | 0x43 => .tabAdd tag (lined 4 b fun ls => ⟨fieldAt b 0 1, fieldAt b 1 1, fieldAt b 2 1, ls⟩)
  | 0x44 => .tabClose tag (fixed 3 b ⟨fieldAt b 0 1, fieldAt b 1 1, fieldAt b 2 1⟩)
  | 0x45 => .tabRead tag (fixed 1 b (fieldAt b 0 1))
  | 0x46 => .postFetch tag (fixed 0 b ())
  | 0x47 => .postRelease tag (fixed 4 b (fieldAt b 0 4))
  | 0x48 => .postRewind tag (fixed 0 b ())
  | 0x50 => .laneOpen tag (fixed 1 b (fieldAt b 0 1))
  | 0x51 => .laneClose tag (fixed 1 b (fieldAt b 0 1))
  | 0x52 => .laneRead tag (fixed 1 b (fieldAt b 0 1))
  | 0x53 => .gangwayCard tag (fixed 9 b ⟨fieldAt b 0 1, fieldAt b 1 7, fieldAt b 8 1⟩)
  | 0x58 => .presenceSet tag (fixed 8 b ⟨fieldAt b 0 7, fieldAt b 7 1⟩)
  | 0x59 => .allaboardQuery tag (fixed 3 b ⟨fieldAt b 0 2, fieldAt b 2 1⟩)
  | 0x60 => .timeSet tag (fixed 3 b (fieldAt b 0 3))
  | 0x61 => .dayRoll tag (fixed 0 b ()) .whole
  | 0x62 => .portArrive tag (fixed 1 b (fieldAt b 0 1))
  | 0x63 => .sail tag (fixed 0 b ()) .whole
  | 0x64 => readModeSet tag b
  | 0x70 => .retain tag (fixed 0 b ())
  | 0x71 => readRestart tag b
  | _ => .unknownCode code tag

/-- The request that a received frame makes when its turn comes: a frame that is not SOUND is the row
BAD_FRAME, and its tag is 0 when it was TOO_LONG (R156). -/
def Frame.request : Frame → Instr
  | .sound code tag body => readRequest code tag body
  | .badCrc tag => .badFrame .badCrc tag
  | .tooLong => .badFrame .tooLong 0#8

/-! ## Request codes and tags -/

/-- The code of a request row (Table 31); a row that is no request has none. -/
def Instr.code : Instr → Option Byte
  | .summary .. => some 0x01#8
  | .noticeFetch .. => some 0x02#8
  | .orderFetch .. => some 0x03#8
  | .loadBegin .. => some 0x10#8
  | .loadEnd .. => some 0x11#8
  | .cardPut .. => some 0x12#8
  | .cardRead .. => some 0x13#8
  | .cardReissue .. => some 0x14#8
  | .cardRetire .. => some 0x15#8
  | .accountPut .. => some 0x16#8
  | .accountRead .. => some 0x17#8
  | .accountCredit .. => some 0x18#8
  | .accountRetire .. => some 0x19#8
  | .doorPut .. => some 0x1A#8
  | .doorRead .. => some 0x1B#8
  | .categoryPut .. => some 0x1C#8
  | .regionPut .. => some 0x1D#8
  | .tierPut .. => some 0x1E#8
  | .settingPut .. => some 0x1F#8
  | .settingRead .. => some 0x20#8
  | .doorCard .. => some 0x30#8
  | .doorReport .. => some 0x31#8
  | .charge .. => some 0x40#8
  | .void .. => some 0x41#8
  | .tabOpen .. => some 0x42#8
  | .tabAdd .. => some 0x43#8
  | .tabClose .. => some 0x44#8
  | .tabRead .. => some 0x45#8
  | .postFetch .. => some 0x46#8
  | .postRelease .. => some 0x47#8
  | .postRewind .. => some 0x48#8
  | .laneOpen .. => some 0x50#8
  | .laneClose .. => some 0x51#8
  | .laneRead .. => some 0x52#8
  | .gangwayCard .. => some 0x53#8
  | .presenceSet .. => some 0x58#8
  | .allaboardQuery .. => some 0x59#8
  | .timeSet .. => some 0x60#8
  | .dayRoll .. => some 0x61#8
  | .portArrive .. => some 0x62#8
  | .sail .. => some 0x63#8
  | .modeSetSecure .. => some 0x64#8
  | .modeSetService .. => some 0x64#8
  | .retain .. => some 0x70#8
  | .restartWarm .. => some 0x71#8
  | .restartCold .. => some 0x71#8
  | _ => none

/-- The tag that the reply to a request echoes. -/
def Instr.tag : Instr → Byte
  | .badFrame _ t => t
  | .unknownCode _ t => t
  | .summary t _ => t
  | .noticeFetch t _ => t
  | .orderFetch t _ => t
  | .loadBegin t _ => t
  | .loadEnd t _ _ => t
  | .cardPut t _ => t
  | .cardRead t _ => t
  | .cardReissue t _ => t
  | .cardRetire t _ => t
  | .accountPut t _ => t
  | .accountRead t _ => t
  | .accountCredit t _ => t
  | .accountRetire t _ => t
  | .doorPut t _ => t
  | .doorRead t _ => t
  | .categoryPut t _ => t
  | .regionPut t _ => t
  | .tierPut t _ _ => t
  | .settingPut t _ => t
  | .settingRead t _ => t
  | .doorCard t _ => t
  | .doorReport t _ => t
  | .charge t _ => t
  | .void t _ => t
  | .tabOpen t _ => t
  | .tabAdd t _ => t
  | .tabClose t _ => t
  | .tabRead t _ => t
  | .postFetch t _ => t
  | .postRelease t _ => t
  | .postRewind t _ => t
  | .laneOpen t _ => t
  | .laneClose t _ => t
  | .laneRead t _ => t
  | .gangwayCard t _ => t
  | .presenceSet t _ => t
  | .allaboardQuery t _ => t
  | .timeSet t _ => t
  | .dayRoll t _ _ => t
  | .portArrive t _ => t
  | .sail t _ _ => t
  | .modeSetSecure t _ => t
  | .modeSetService t _ => t
  | .retain t _ => t
  | .restartWarm t _ => t
  | .restartCold t => t
  | _ => 0#8

/-- A request as its frame spells it, whatever its execution takes (log 3). -/
def Instr.asFramed : Instr → Instr
  | .loadEnd t q _ => .loadEnd t q .whole
  | .tierPut t q _ => .tierPut t q .whole
  | .dayRoll t q _ => .dayRoll t q .whole
  | .sail t q _ => .sail t q .whole
  | .modeSetSecure t _ => .modeSetSecure t .whole
  | c => c

/-! ## The bodies of requests (Table 31) -/

/-- A money field: 4 bytes of two's complement (R170). -/
def signedBytes (i : Int) : List Byte := natToBytes 4 (i % 4294967296).toNat

/-- An optional pair: presence byte and two 2-byte numbers. -/
def pairField (f : OptField Span2) : List Byte :=
  natToBytes 1 f.presence ++ natToBytes 2 f.value.first ++ natToBytes 2 f.value.second

/-- The body of CARD.PUT. -/
def cardPutBytes (q : CardPutReq) : List Byte :=
  natToBytes 1 q.kind ++ natToBytes 7 q.uid ++ natToBytes 1 q.issue ++ natToBytes 1 q.presence ++
  natToBytes 1 q.cls ++ natToBytes 4 q.account ++ natToBytes 1 q.cabinCount ++ natToBytes 2 q.cabin0 ++
  natToBytes 2 q.cabin1 ++ pairField q.section_ ++ pairField q.hours ++ natToBytes 2 q.firstDay ++
  natToBytes 2 q.lastDay ++ natToBytes 1 q.privilege ++ natToBytes 1 q.tier ++
  natToBytes 1 q.dailyCap.presence ++ natToBytes 3 q.dailyCap.value

/-- The line count and the lines of a sale, 5 bytes a line. -/
def lineBytes (ls : List Line) : List Byte :=
  natToBytes 1 ls.length ++
    ls.flatMap fun l => natToBytes 1 l.category ++ natToBytes 3 l.unitPrice ++ natToBytes 1 l.quantity

/-- The bytes of a body that fits its message. -/
def Body.bytes {α : Type} (f : α → List Byte) : Body α → Option (List Byte)
  | .fit x => some (f x)
  | .misfit _ => none

/-- The body of a request whose fields fit its message, as Table 31 lays it out; `none` for a body that
does not fit and for a row that is no message of the catalogue. -/
def Instr.body : Instr → Option (List Byte)
  | .summary _ q => q.bytes fun _ => []
  | .noticeFetch _ q => q.bytes fun _ => []
  | .orderFetch _ q => q.bytes fun _ => []
  | .loadBegin _ q => q.bytes (natToBytes 2)
  | .loadEnd _ q _ => q.bytes fun _ => []
  | .cardPut _ q => q.bytes cardPutBytes
  | .cardRead _ q => q.bytes fun x => natToBytes 1 x.selector ++ natToBytes 7 x.uid ++ natToBytes 2 x.slot
  | .cardReissue _ q => q.bytes (natToBytes 7)
  | .cardRetire _ q => q.bytes (natToBytes 7)
  | .accountPut _ q => q.bytes fun x =>
      natToBytes 1 x.kind ++ natToBytes 4 x.account ++ signedBytes x.limit ++ natToBytes 1 x.status
  | .accountRead _ q => q.bytes (natToBytes 4)
  | .accountCredit _ q => q.bytes fun x => natToBytes 4 x.account ++ signedBytes x.amount
  | .accountRetire _ q => q.bytes (natToBytes 4)
  | .doorPut _ q => q.bytes fun x =>
      natToBytes 2 x.door ++ natToBytes 1 x.configured ++ natToBytes 2 x.label ++ natToBytes 1 x.bus
  | .doorRead _ q => q.bytes (natToBytes 2)
  | .categoryPut _ q => q.bytes fun x =>
      natToBytes 1 x.category ++ natToBytes 1 x.alcohol ++ natToBytes 1 x.taxable ++ natToBytes 2 x.gratuity
  | .regionPut _ q => q.bytes fun x => natToBytes 1 x.region ++ natToBytes 2 x.rate
  | .tierPut _ q _ => q.bytes fun x =>
      natToBytes 1 x.tier ++ natToBytes 2 x.covered.toNat ++ natToBytes 1 x.allowance ++
        natToBytes 3 x.coverCap
  | .settingPut _ q => q.bytes fun x => natToBytes 1 x.id ++ natToBytes 1 x.lane ++ natToBytes 4 x.value
  | .settingRead _ q => q.bytes fun x => natToBytes 1 x.id ++ natToBytes 1 x.lane
  | .doorCard _ q => q.bytes fun x => natToBytes 2 x.door ++ natToBytes 7 x.uid ++ natToBytes 1 x.issue
  | .doorReport _ q => q.bytes fun x =>
      natToBytes 2 x.door ++ natToBytes 1 x.contact ++ natToBytes 1 x.latch ++ natToBytes 1 x.dnd ++
        natToBytes 1 x.cause
  | .charge _ q => q.bytes fun x =>
      natToBytes 1 x.terminal ++ natToBytes 7 x.uid ++ natToBytes 1 x.issue ++ lineBytes x.lines
  | .void _ q => q.bytes fun x => natToBytes 1 x.terminal ++ natToBytes 4 x.posting
  | .tabOpen _ q => q.bytes fun x =>
      natToBytes 1 x.terminal ++ natToBytes 7 x.uid ++ natToBytes 1 x.issue ++ signedBytes x.hold
  | .tabAdd _ q => q.bytes fun x =>
      natToBytes 1 x.slot ++ natToBytes 1 x.generation ++ natToBytes 1 x.terminal ++ lineBytes x.lines
  | .tabClose _ q => q.bytes fun x =>
      natToBytes 1 x.slot ++ natToBytes 1 x.generation ++ natToBytes 1 x.terminal
  | .tabRead _ q => q.bytes (natToBytes 1)
  | .postFetch _ q => q.bytes fun _ => []
  | .postRelease _ q => q.bytes (natToBytes 4)
  | .postRewind _ q => q.bytes fun _ => []
  | .laneOpen _ q => q.bytes (natToBytes 1)
  | .laneClose _ q => q.bytes (natToBytes 1)
  | .laneRead _ q => q.bytes (natToBytes 1)
  | .gangwayCard _ q => q.bytes fun x => natToBytes 1 x.lane ++ natToBytes 7 x.uid ++ natToBytes 1 x.issue
  | .presenceSet _ q => q.bytes fun x => natToBytes 7 x.uid ++ natToBytes 1 x.presence
  | .allaboardQuery _ q => q.bytes fun x => natToBytes 2 x.start ++ natToBytes 1 x.count
  | .timeSet _ q => q.bytes (natToBytes 3)
  | .dayRoll _ q _ => q.bytes fun _ => []
  | .portArrive _ q => q.bytes (natToBytes 1)
  | .sail _ q _ => q.bytes fun _ => []
  | .modeSetSecure _ _ => some (natToBytes 1 1)
  | .modeSetService _ q => q.bytes (natToBytes 1)
  | .retain _ q => q.bytes fun _ => []
  | .restartWarm _ q => q.bytes (natToBytes 1)
  | .restartCold _ => some (natToBytes 1 1)
  | _ => none

/-- The frame of a request of the catalogue whose body fits. -/
def Instr.frame (c : Instr) : Option (List Byte) :=
  match c.code, c.body with
  | some code, some b => some (frameBytes code c.tag b)
  | _, _ => none

/-! ## The opcode table -/

/-- The command that a word spells by the table's bits. No row of `spec/opcode_table.json` gives bits, so
no word spells a command. -/
def decodeTableWord (_nbits _w : Nat) : Option Instr := none

end Sys2Proof
end

