-- ==== Sys2Proof/Machine/Flags.lean ====
section
/-! DEFINITION. Flags and figures computed from the state: the output lines RRDY and ATTN, the operating
state gate, queue depths, an account's available amount and the presence counts. -/

namespace Sys2Proof.Machine

/-! ## Output lines (R158, R165, R166) -/

/-- RRDY: the head place of the reply queue holds a REPLY. Deasserted during retention and in reset. -/
def State.rrdy (s : State) : Bool :=
  s.takesFrames &&
    match s.link.places with
    | .reply _ :: _ => true
    | _ => false

/-- A PENDING posting record (R100). -/
def Posting.isPending (p : Posting) : Bool := !p.delivered

/-- The number of PENDING records. -/
def Engine.pendingCount (e : Engine) : Nat := (e.postings.filter Posting.isPending).length

/-- The number of DELIVERED records. -/
def Engine.deliveredCount (e : Engine) : Nat := (e.postings.filter fun p => p.delivered).length

/-- ATTN: notices, a set lost flag, orders, PENDING postings or waiting tabs. Deasserted during retention
and in reset. -/
def State.attn (s : State) : Bool :=
  s.takesFrames &&
    (!s.link.notices.isEmpty || s.link.lost || !s.scheduler.orders.isEmpty ||
      s.engine.postings.any Posting.isPending || !s.engine.waiting.isEmpty)

/-! ## The operating-state gate (R2) -/

/-- The rows of the gate's table, by the operating states that take the request. -/
inductive Gate where
  | always
  | whenUnloaded
  | whenLoading
  | fromLoading
  | whenLoaded
  deriving DecidableEq, Repr

/-- The status of a request that the gate refuses, or `none` for one it takes (R2). -/
def Gate.refusal : Gate → OpState → Option Status
  | .always, _ => none
  | .whenUnloaded, .unloaded => none
  | .whenUnloaded, _ => some .state
  | .whenLoading, .loading => none
  | .whenLoading, _ => some .state
  | .fromLoading, .unloaded => some .notReady
  | .fromLoading, _ => none
  | .whenLoaded, .unloaded => some .notReady
  | .whenLoaded, .loading => some .notReady
  | .whenLoaded, _ => none

/-! ## Accounts -/

/-- The available amount of an account (R80). -/
def Account.available (a : Account) : Nat := ((a.limit : Int) - a.balance - (a.held : Int)).toNat

/-- The balance lowered by an amount, saturating at -10,000,000 (R106, R107). -/
def lowerBalance (balance : Int) (amount : Nat) : Int := max (balance - (amount : Int)) (-10000000)

/-! ## Presence counts (R128, R129) -/

/-- The column a presence is counted in. -/
inductive Column where
  | expected
  | aboard
  | ashore
  | missed
  deriving DecidableEq, Repr

/-- The column of a presence: ABOARD and UNVERIFIED count as aboard (R128). -/
def Presence.column : Presence → Column
  | .expected => .expected
  | .aboard => .aboard
  | .ashore => .ashore
  | .unverified => .aboard
  | .missed => .missed

/-- The counts of a class. -/
def PresenceCounts.ofClass (p : PresenceCounts) : CardClass → ColumnCounts
  | .guest => p.guest
  | .child => p.child
  | .crew => p.crew
  | .security => p.security

/-- The counts with those of one class changed. -/
def PresenceCounts.change (p : PresenceCounts) (c : CardClass) (f : ColumnCounts → ColumnCounts) :
    PresenceCounts :=
  match c with
  | .guest => { p with guest := f p.guest }
  | .child => { p with child := f p.child }
  | .crew => { p with crew := f p.crew }
  | .security => { p with security := f p.security }

/-- The count of one column. -/
def ColumnCounts.of (n : ColumnCounts) : Column → Nat
  | .expected => n.expected
  | .aboard => n.aboard
  | .ashore => n.ashore
  | .missed => n.missed

/-- One more card in a column. -/
def ColumnCounts.add (k : Column) (n : ColumnCounts) : ColumnCounts :=
  match k with
  | .expected => { n with expected := n.expected + 1 }
  | .aboard => { n with aboard := n.aboard + 1 }
  | .ashore => { n with ashore := n.ashore + 1 }
  | .missed => { n with missed := n.missed + 1 }

/-- One card fewer in a column. -/
def ColumnCounts.drop (k : Column) (n : ColumnCounts) : ColumnCounts :=
  match k with
  | .expected => { n with expected := n.expected - 1 }
  | .aboard => { n with aboard := n.aboard - 1 }
  | .ashore => { n with ashore := n.ashore - 1 }
  | .missed => { n with missed := n.missed - 1 }

/-- A card is counted under its class and its presence. -/
def PresenceCounts.count (p : PresenceCounts) (cls : CardClass) (x : Presence) : PresenceCounts :=
  p.change cls (ColumnCounts.add x.column)

/-- A card is taken from the count of its class and presence. -/
def PresenceCounts.uncount (p : PresenceCounts) (cls : CardClass) (x : Presence) : PresenceCounts :=
  p.change cls (ColumnCounts.drop x.column)

/-- The counts taken afresh from a card table (R5). -/
def PresenceCounts.ofCards (cards : Table Card) : PresenceCounts :=
  cards.foldl (fun p e => p.count e.2.config.cls e.2.presence) PresenceCounts.zero

/-- The tab slots in OPEN or CLOSING (R163). -/
def Engine.tabsInUse (e : Engine) : Nat :=
  (e.tabs.filter fun t => decide (t.2.state ≠ .free)).length

/-- The tab a slot holds, in OPEN or CLOSING. -/
def TabState.tab : TabState → Option Tab
  | .free => none
  | .opened t _ => some t
  | .closing t _ => some t

/-- A card slot has a tab in OPEN or CLOSING. -/
def Engine.cardHasTab (e : Engine) (cardSlot : Nat) : Bool :=
  e.tabs.any fun t => (TabState.tab t.2.state).any fun x => x.cardSlot == cardSlot

/-- A CLOSING tab names an account slot (R98). -/
def Engine.accountCloses (e : Engine) (accountSlot : Nat) : Bool :=
  e.tabs.any fun t =>
    match t.2.state with
    | .closing x _ => x.accountSlot == accountSlot
    | _ => false

end Sys2Proof.Machine
end

