-- ==== Sys2Proof/Machine/Link.lean ====
section
/-! DEFINITION. The Message Link Unit's shared operations: the reply queue and request buffer (R155), the
turn of a request and its reply (R156), the operating-state gate in front of an owning block (R2), and
what entering retention does to the link (R166). -/

namespace Sys2Proof.Machine

/-! ## The reply queue (R155) -/

/-- The request in a place that is in EXECUTION. -/
def Place.executing? : Place → Option Instr
  | .executing c => some c
  | _ => none

/-- The request in execution. -/
def Link.executing (l : Link) : Option Instr := l.places.findSome? Place.executing?

/-- The places with the oldest WAITING one made EXECUTION, and the request in it. -/
def beginOldest : List Place → Option (Instr × List Place)
  | [] => none
  | .waiting c :: ps => some (c, .executing c :: ps)
  | p :: ps => (beginOldest ps).map fun x => (x.1, p :: x.2)

/-- When no request is in execution, the oldest WAITING place becomes EXECUTION and its frame moves into
the request buffer (R156). -/
def Link.beginNext (l : Link) : Link :=
  match l.executing with
  | some _ => l
  | none =>
    match beginOldest l.places with
    | some (c, ps) => { l with places := ps, buffer := some c }
    | none => l

/-- A received frame is offered to the reply queue: it takes a FREE place at the tail, waits in the empty
request buffer, or is discarded (R155). -/
def Link.offer (l : Link) (c : Instr) : Link :=
  if l.places.length < replyPlaces then
    Link.beginNext { l with places := l.places ++ [.waiting c] }
  else if l.buffer.isNone then { l with buffer := some c }
  else l

/-- A reply is read: its place becomes FREE, and a frame waiting in the request buffer takes the freed
place (R155, R157). The buffer holds a waiting frame when no request is in execution. -/
def Link.readHead (l : Link) : Link :=
  let freed := { l with places := l.places.tail }
  match l.executing, l.buffer with
  | none, some c => Link.beginNext { freed with places := freed.places ++ [.waiting c], buffer := none }
  | _, _ => freed

/-- The reply code of a request: its code plus 0x80, or 0xFF for FRAME and UNKNOWN (R156). -/
def replyCode (c : Instr) : Byte :=
  match c.code with
  | some k => k + 0x80#8
  | none => 0xFF#8

/-- The reply of a request (R156). -/
def replyTo (c : Instr) (a : Answer) : Reply := ⟨replyCode c, c.tag, a⟩

/-- The place in EXECUTION becomes the reply. -/
def Place.answered (r : Reply) : Place → Place
  | .executing _ => .reply r
  | p => p

/-- The request in execution ends. In RUNNING its reply is written into its place, the buffer is freed
and the oldest WAITING request begins (R156); while retention is entered the reply is not placed (R166).
A request that emptied the queue (RETAIN, RESTART) has no place left and no reply. -/
def State.complete (s : State) (r : Reply) : State :=
  match s.link.executing with
  | none => s
  | some _ =>
    if s.takesFrames then
      s.setLink (Link.beginNext
        { s.link with places := s.link.places.map (Place.answered r), buffer := none })
    else s.setLink { s.link with places := [], buffer := none }

/-! ## The turn of a request (R156) -/

/-- What becomes of a request command: its request is in execution in the state given, or its frame went
where that state has it (WAITING, in the buffer, discarded). -/
inductive Turn where
  | runs (s : State)
  | waits (s : State)

/-- A request command in a state (log 1). When its request is the one in execution, it runs. Otherwise
its frame arrives: frames are discarded unless the part takes them (R165, R166), and a frame that is
taken goes by R155; it runs at once when that makes it the request in execution. -/
def State.turn (s : State) (c : Instr) : Turn :=
  if s.takesEvents then
    if s.link.executing = some c.asFramed then .runs s
    else if s.takesFrames then
      let s1 := s.setLink (s.link.offer c.asFramed)
      if s.link.executing.isNone && decide (s1.link.executing = some c.asFramed) then .runs s1
      else .waits s1
    else .waits s
  else .waits s

/-- A request command: when its turn has come, `run` executes it whole and its reply is placed. -/
def serve (c : Instr) (run : State → State × Answer) (s : State) : Host.Outcome State Fault Refusal :=
  match s.turn c with
  | .waits s1 => .next s1
  | .runs s1 =>
    let r := run s1
    .next (r.1.complete (replyTo c r.2))

/-- A request command whose execution may take time: it runs whole, or stays in execution until
REQUEST_COMPLETION (R156, log 3). -/
def serveFor (span : Span) (c : Instr) (run : State → State × Answer) (s : State) :
    Host.Outcome State Fault Refusal :=
  match span with
  | .whole => serve c run s
  | .takesTime =>
    match s.turn c with
    | .waits s1 => .next s1
    | .runs s1 => .next s1

/-- The link's judgement of a sound request of the catalogue: its length (R156 step 3), then the
operating-state gate (step 4). One that passes is handed to its owning block. -/
def judged {α : Type} (gate : Gate) (q : Body α) (block : α → State → State × Answer) (s : State) :
    State × Answer :=
  match q with
  | .misfit _ => (s, .refused .length)
  | .fit x =>
    match gate.refusal s.store.opState with
    | some st => (s, .refused st)
    | none => block x s

/-! ## Entering retention (R166) -/

/-- A transfer under way clocks out only idle bytes from now on. -/
def Transfer.muted (t : Transfer) : Transfer := { t with sending := none }

/-- The link as retention is entered: WAITING requests, unread replies and a waiting frame are gone, and
the request in execution stays. -/
def Link.entered (l : Link) : Link :=
  match l.executing with
  | some c => { l with transfer := l.transfer.map Transfer.muted, places := [.executing c], buffer := some c }
  | none => { l with transfer := l.transfer.map Transfer.muted, places := [], buffer := none }

/-- The link emptied, as in reset. -/
def Link.emptied (l : Link) : Link :=
  { l with transfer := l.transfer.map Transfer.muted, places := [], buffer := none }

end Sys2Proof.Machine
end

