-- ==== Sys2Proof/Machine/Strike.lean ====
section
/-! DEFINITION. The Door Channel Unit and the Strike Scheduler: orders and owed relatches (R47, R61), the
release of a bus (R58, R59, R60), the channel's transitions at a report and at a grant (R48 to R56), the
deliveries of ORDER.FETCH (R62), the audit step (R64) and the entry into SECURE (R57). -/

namespace Sys2Proof.Machine

/-! ## Orders (R61) -/

/-- The order queue holds fewer than 64 orders. -/
def State.orderRoom (s : State) : Bool := decide (s.scheduler.orders.length < orderQueueRoom)

/-- Places an order at the tail of the order queue, stamped with the present run-seconds. -/
def State.placeOrder (s : State) (kind : OrderKind) (door : Nat) : State :=
  { s with scheduler := { s.scheduler with
      orders := s.scheduler.orders ++ [⟨kind, door, s.clock.runSeconds⟩] } }

/-- A RELATCH order is called for at a door (R47). With room it is placed and the channel becomes
RELATCHING; with the order queue full the relatch is owed and the channel takes the state `owing`. -/
def State.callRelatch (s : State) (door : Nat) (owing : ChannelState) : State :=
  let c := s.channel door
  if s.orderRoom then
    (s.placeOrder .relatch door).setChannel door
      { c with state := .relatching .awaitingFetch, relatchOwed := false }
  else s.setChannel door { c with state := owing, relatchOwed := true }

/-! ## Buses (R58, R59, R60) -/

/-- A release counts while its age is less than the bus window in force (R59). -/
def State.counts (s : State) (t : Nat) : Bool := decide (s.clock.ms - t < s.store.settings.busWindow)

/-- The counted releases of a bus. -/
def State.countedReleases (s : State) (b : Nat) : Nat :=
  ((s.bus b).history.filter s.counts).length

/-- A bus may release: its queue is not empty, its counted releases are fewer than the bus budget count,
and the order queue has room (R59). -/
def State.mayRelease (s : State) (b : Nat) : Bool :=
  !(s.bus b).queue.isEmpty && decide (s.countedReleases b < s.store.settings.busBudget) && s.orderRoom

/-- A release history with one more release; the oldest of 8 makes way (R59). -/
def appendRelease (history : List Nat) (t : Nat) : List Nat :=
  (if history.length < 8 then history else history.drop 1) ++ [t]

/-- The release of a bus's head (R59), and the move of its door to RELEASED with the relatch timer started
and strike confirm AWAITING_FETCH (R50). -/
def State.release (s : State) (b : Nat) : State :=
  match (s.bus b).queue with
  | [] => s
  | door :: rest =>
    let s1 := s.setBus b ⟨rest, appendRelease (s.bus b).history s.clock.ms⟩
    let s2 := s1.placeOrder .strike door
    let s3 := { s2 with scheduler := { s2.scheduler with latestBus := b } }
    s3.setChannelState door
      (.released (some (s.clock.ms + s.store.settings.relatchTime * 1000)) .awaitingFetch)

/-- A bus is considered for release and goes on releasing while it may (R60); `fuel` bounds the releases
by the entries its queue holds. -/
def State.considerFor (fuel : Nat) (s : State) (b : Nat) : State :=
  match fuel with
  | 0 => s
  | n + 1 => if s.mayRelease b then State.considerFor n (s.release b) b else s

/-- A bus is considered for release (R60). -/
def State.consider (s : State) (b : Nat) : State := s.considerFor (s.bus b).queue.length b

/-- The bus numbers in the order of the rotation: from the one after the latest release (R60). -/
def rotation (latest : Nat) : List Nat := (List.range busCount).map fun k => (latest + 1 + k) % busCount

/-- The buses are served one release at a time in the rotation, until none may release (R60); `fuel`
bounds the releases by the room of the order queue. -/
def State.rotateFor : Nat → State → State
  | 0, s => s
  | n + 1, s =>
    match (rotation s.scheduler.latestBus).find? s.mayRelease with
    | some b => State.rotateFor n (s.release b)
    | none => s

/-- Every bus is considered, in the rotation. -/
def State.considerAll (s : State) : State := s.rotateFor orderQueueRoom

/-- A RELATCH order is placed for a door that owes one, if there is room (R47, R60). -/
def State.serveOwed (s : State) (door : Nat) : State :=
  if s.orderRoom && (s.channel door).relatchOwed then
    s.callRelatch door (s.channel door).state
  else s

/-- The doors that owe a relatch, in ascending door id. -/
def State.owingDoors (s : State) : List Nat :=
  (s.doorUnit.channels.filter fun e => e.2.relatchOwed).map Prod.fst

/-- The order queue has gained room: owed relatches first, in ascending door id, then the buses (R60). -/
def State.refill (s : State) : State := (s.owingDoors.foldl State.serveOwed s).considerAll

/-- Removes a door's strike request from wherever it stands in its bus queue (R58). -/
def State.withdraw (s : State) (door : Nat) : State :=
  let b := (s.doorConfig door).bus
  s.setBus b { s.bus b with queue := (s.bus b).queue.filter fun d => d != door }

/-! ## Reports (R46 to R55) -/

/-- The channel becomes OPEN: the ajar timer starts with the ajar time in force, and a relatch owed is
cleared (R47, R53). -/
def State.openDoor (s : State) (door : Nat) : State :=
  s.setChannel door { s.channel door with
    state := .opened (s.clock.ms + s.store.settings.ajarTime * 1000), relatchOwed := false }

/-- The channel becomes SECURED, and a relatch owed is cleared (R47). -/
def State.secureDoor (s : State) (door : Nat) : State :=
  s.setChannel door { s.channel door with state := .secured, relatchOwed := false }

/-- A report of contact OPEN (R48 to R55). -/
def State.reportOpen (s : State) (door : Nat) : State :=
  match (s.channel door).state with
  | .pending => (s.withdraw door).openDoor door
  | .opened _ => s
  | .ajar => s
  | _ => s.openDoor door

/-- A report of CLOSED and LATCHED (R48 to R55). -/
def State.reportLatched (s : State) (door : Nat) : State :=
  match (s.channel door).state with
  | .pending => s
  | .released _ confirm =>
    if confirm = .satisfied ∨ (s.channel door).relatchOwed = true then s.secureDoor door else s
  | _ => s.secureDoor door

/-- A report of CLOSED and UNLATCHED (R47 to R55). -/
def State.reportUnlatched (s : State) (door : Nat) : State :=
  match (s.channel door).state with
  | .unknown => if (s.channel door).relatchOwed then s else s.callRelatch door .unknown
  | .secured => s.callRelatch door .unknown
  | .opened _ => s.callRelatch door .unknown
  | .ajar => s.callRelatch door .unknown
  | .released timer _ => s.setChannelState door (.released timer .satisfied)
  | .pending => s
  | .relatching _ => s
  | .fault => s

/-- The transition of a channel at a report (R46 step 4). -/
def State.reportTransition (s : State) (door : Nat) (contact : Contact) (latch : Latch) : State :=
  match contact, latch with
  | .opened, _ => s.reportOpen door
  | .closed, .latched => s.reportLatched door
  | .closed, .unlatched => s.reportUnlatched door

/-- A report for a configured door is taken (R46). -/
def State.takeReport (s : State) (door : Nat) (contact : Contact) (latch : Latch) (dnd pollReply : Bool) :
    State :=
  let c := s.channel door
  let c1 := { c with dnd := dnd, lastReport := some (contact, latch) }
  let c2 := if pollReply then { c1 with pollOutstanding := false, missCount := 0 } else c1
  (s.setChannel door c2).reportTransition door contact latch

/-! ## Grants (R36, R56) -/

/-- What check 9 makes of a grant: the outcome, the channel state as the decision hands over, and the
queue position of a new strike request (R25, R36, R37, R56). -/
structure GrantResult where
  state : State
  outcome : JobOutcome
  channel : ChannelState
  position : Option Nat

/-- A strike request joins the tail of the door's bus queue and the channel becomes PENDING; a queue of 8
gives BUS_FULL and leaves the channel as it was. The bus is then considered for release (R58, R60). -/
def State.strikeRequest (s : State) (door : Nat) : GrantResult :=
  let b := (s.doorConfig door).bus
  let queue := (s.bus b).queue
  if queue.length < busQueueRoom then
    let s1 := s.setBus b { s.bus b with queue := queue ++ [door] }
    let s2 := s1.setChannel door { s1.channel door with state := .pending, relatchOwed := false }
    ⟨s2.consider b, .grantQueued, .pending, some (queue.length + 1)⟩
  else ⟨s, .busFull, (s.channel door).state, none⟩

/-- The channel at the grant of a GUEST, CHILD or CREW card (R56). -/
def State.grantAt (s : State) (door : Nat) : GrantResult :=
  match (s.channel door).state with
  | .pending => ⟨s, .grantPending, .pending, none⟩
  | .opened t => ⟨s, .grantOpen, .opened t, none⟩
  | .ajar => ⟨s, .grantOpen, .ajar, none⟩
  | .released _ confirm =>
    let st := ChannelState.released (some (s.clock.ms + s.store.settings.relatchTime * 1000)) confirm
    ⟨s.setChannel door { s.channel door with state := st, relatchOwed := false }, .grantOpen, st, none⟩
  | _ => s.strikeRequest door

/-! ## Deliveries (R62) -/

/-- The delivery of an order at its door (R62). -/
def State.deliver (s : State) (o : Order) : State :=
  match o.kind, (s.channel o.door).state with
  | .strike, .released timer .awaitingFetch =>
    s.setChannelState o.door
      (.released timer (.running (s.clock.ms + s.store.settings.strikeConfirmTime * 1000)))
  | .relatch, .relatching .awaitingFetch =>
    s.setChannelState o.door
      (.relatching (.running (s.clock.ms + s.store.settings.relatchConfirmTime * 1000)))
  | _, _ => s

/-! ## The audit poll (R63, R64) -/

/-- A door the audit step may visit: configured, with its channel SECURED. -/
def State.auditable (s : State) (e : Nat × DoorConfig) : Bool :=
  e.2.configured && decide ((s.channel e.1).state = .secured)

/-- The first door to visit, upward from the pointer and wrapping from 4,095 to 0 (R64). -/
def State.auditDoor (s : State) : Option Nat :=
  let doors := (s.store.doors.filter s.auditable).map Prod.fst
  match doors.find? fun d => decide (s.doorUnit.auditPointer ≤ d) with
  | some d => some d
  | none => doors.head?

/-- The visit to a door: a POLL order, or a counted miss and FAULT at the poll miss limit (R64). -/
def State.auditVisit (s : State) (door : Nat) : State :=
  let c := s.channel door
  if c.pollOutstanding then
    if s.store.settings.pollMissLimit ≤ c.missCount + 1 then
      (s.setChannel door { c with state := .fault, pollOutstanding := false, missCount := 0 }).raise
        (.doorFault door .poll)
    else s.setChannel door { c with missCount := c.missCount + 1 }
  else (s.placeOrder .poll door).setChannel door { c with pollOutstanding := true }

/-- What an audit step does (R64). -/
def State.auditAct (s : State) : State :=
  if s.store.mode = .secure then s
  else if s.orderRoom then
    match s.auditDoor with
    | none => s
    | some d =>
      State.auditVisit
        { s with doorUnit := { s.doorUnit with auditPointer := (d + 1) % doorCount } } d
  else s

/-- Each step schedules the next one audit interval in force later; an interval of 0 stops the timer
(R63). -/
def State.auditSchedule (s : State) : State :=
  { s with doorUnit := { s.doorUnit with
      auditNext := if s.store.settings.auditInterval = 0 then none
        else some (s.clock.runSeconds + s.store.settings.auditInterval) } }

/-! ## Entry into SECURE (R57) -/

/-- The doors as the entry goes, and the RELATCH orders it has placed (R150). -/
structure Lockdown where
  state : State
  placed : Nat

/-- The channel of a PENDING door whose request is cancelled: SECURED if its last report was CLOSED and
LATCHED, else UNKNOWN (R57). -/
def Channel.cancelled (c : Channel) : Channel :=
  { c with state := if c.lastReport = some (.closed, .latched) then .secured else .unknown }

/-- The strike requests standing in every bus queue. -/
def State.standingRequests (s : State) : Nat :=
  (s.scheduler.buses.map fun e => e.2.queue.length).sum

/-- A bus with its queue emptied; its release history stays (R57). -/
def Bus.emptied (b : Bus) : Bus := { b with queue := [] }

/-- Step 1 of R57: every strike request is cancelled and each PENDING door becomes SECURED or UNKNOWN. -/
def State.cancelRequests (s : State) : State :=
  let emptied := { s with scheduler := { s.scheduler with
    buses := s.scheduler.buses.foldl
      (fun t e => Table.set Bus.start t e.1 e.2.emptied) s.scheduler.buses } }
  let pendingDoors :=
    (s.doorUnit.channels.filter fun e => decide (e.2.state = .pending)).map Prod.fst
  pendingDoors.foldl (fun x d => x.setChannel d (x.channel d).cancelled) emptied

/-- Step 2 of R57 at one RELEASED door that does not owe its relatch. -/
def Lockdown.visit (l : Lockdown) (door : Nat) : Lockdown :=
  match (l.state.channel door).state with
  | .released _ confirm =>
    ⟨l.state.callRelatch door (.released none confirm),
      if l.state.orderRoom then l.placed + 1 else l.placed⟩
  | _ => l

/-- A channel that is RELEASED. -/
def ChannelState.isReleased : ChannelState → Bool
  | .released .. => true
  | _ => false

/-- The RELEASED doors that do not already owe their relatch, in ascending door id. -/
def State.releasedDoors (s : State) : List Nat :=
  (s.doorUnit.channels.filter fun e => e.2.state.isReleased && !e.2.relatchOwed).map Prod.fst

/-- The doors at the entry into SECURE (R57). -/
def State.lockDoors (s : State) : Lockdown :=
  let s1 := s.cancelRequests
  s1.releasedDoors.foldl Lockdown.visit ⟨s1, 0⟩

end Sys2Proof.Machine
end

