-- ==== Sys2Proof/Machine/Money.lean ====
section
/-! DEFINITION. The Charge Engine's shared operations: the card presented (R71), the preconditions of a
sale (R69 to R74), the computation of lines (R75 to R78), the posting queue (R100, R101) and the
settlement of tabs (R96, R97, R98). -/

namespace Sys2Proof.Machine

/-! ## The card presented (R29, R71, R132) -/

/-- What a UID and an issue find in the card table. -/
inductive Presented where
  | unknown
  | superseded
  | current (slot : Nat) (card : Card)

/-- The card presented: an unknown UID or an issue above the stored one is unknown, an issue below it is
superseded (R29, R71). -/
def State.present (s : State) (uid issue : Nat) : Presented :=
  match s.cardByUid uid with
  | none => .unknown
  | some (slot, c) =>
    if c.issue < issue then .unknown
    else if issue < c.issue then .superseded
    else .current slot c

/-! ## Rate tables (R20, R21) -/

/-- A category entry; after a cold start it is all zero (R20). -/
def State.category (s : State) (c : Nat) : Category := Table.get ⟨false, false, 0⟩ s.store.categories c

/-- The tax rate of the region in force (R77). -/
def State.taxRate (s : State) : Nat := Table.get 0 s.store.regions s.clock.region

/-- A tier entry. Tier 0 has none: it covers nothing and its allowance is 0 (R21). -/
def State.tier (s : State) (t : Nat) : Tier := Table.get ⟨0#16, 0, 0⟩ s.store.tiers t

/-- The daily allowance of a tier; 0 for tier 0. -/
def State.tierAllowance (s : State) (t : Nat) : Nat := if t = 0 then 0 else (s.tier t).allowance

/-- A tier covers a category; tier 0 covers none. -/
def State.tierCovers (s : State) (t c : Nat) : Bool := t != 0 && (s.tier t).covered.getLsbD c

/-! ## Lines (R75 to R78) -/

/-- The working allowance of a request (R75). -/
def State.workingAllowance (s : State) (c : Card) : Nat :=
  s.tierAllowance c.config.tier - c.allowanceUsed

/-- The whole part of (payable × rate + 5,000) ÷ 10,000: half a cent rounds up (R77). -/
def rounded (payable rate : Nat) : Nat := (payable * rate + 5000) / 10000

/-- A line takes cover: its tier covers the category, and a CHILD card takes none for alcohol (R76). -/
def State.takesCover (s : State) (c : Card) (l : Line) : Bool :=
  s.tierCovers c.config.tier l.category &&
    (decide (c.config.cls ≠ .child) || !(s.category l.category).alcohol)

/-- The covered units of a line: the smaller of quantity and working allowance, or 0 (R76). -/
def State.lineUnits (s : State) (c : Card) (allowance : Nat) (l : Line) : Nat :=
  if s.takesCover c l then min l.quantity allowance else 0

/-- The amounts of one line, as sums of its own (R76, R77). -/
def State.lineSums (s : State) (c : Card) (allowance : Nat) (l : Line) : Sums :=
  let gross := l.unitPrice * l.quantity
  let units := s.lineUnits c allowance l
  let covered := units * min l.unitPrice (s.tier c.config.tier).coverCap
  let payable := gross - covered
  let gratuity := rounded payable (s.category l.category).gratuity
  let tax := if (s.category l.category).taxable then rounded payable s.taxRate else 0
  ⟨gross, covered, units, gratuity, tax, payable + gratuity + tax⟩

/-- The amounts of the lines in their order, each seeing the working allowance the lines before it left
(R75). -/
def State.linesSums (s : State) (c : Card) : (allowance : Nat) → List Line → List Sums
  | _, [] => []
  | a, l :: ls =>
    let x := s.lineSums c a l
    x :: State.linesSums s c (a - x.units) ls

/-- No amounts. -/
def Sums.zero : Sums := ⟨0, 0, 0, 0, 0, 0⟩

/-- The sums of two (R78). -/
def Sums.add (x y : Sums) : Sums :=
  ⟨x.gross + y.gross, x.covered + y.covered, x.units + y.units, x.gratuity + y.gratuity, x.tax + y.tax,
    x.total + y.total⟩

/-- The sums of a request over its lines (R78). -/
def sumAll (xs : List Sums) : Sums := xs.foldl Sums.add Sums.zero

/-- What a reply says of each line (R83). -/
def lineViews (xs : List Sums) : List LineView := xs.map fun x => ⟨x.units, x.total⟩

/-! ## Preconditions (R72, R73, R74) -/

/-- The position, from 1, of the first line in an alcohol category (R83). -/
def State.alcoholLine (s : State) (ls : List Line) : Option Nat :=
  (ls.findIdx? fun l => (s.category l.category).alcohol).map (· + 1)

/-- Preconditions 4 to 8 of R69 on a card, its account and the lines of the request: the state after the
notice they may raise, and the refusing answer, if any. -/
def State.salePreconditions (s : State) (c : Card) (a : Account) (terminal : Nat) (ls : List Line) :
    State × Option Answer :=
  match c.presence with
  | .expected => (s, some (.outcome .notBoarded))
  | .missed => (s, some (.outcome .missed))
  | .ashore => (s.raise (.presence c.uid terminal), some (.outcome .presence))
  | _ =>
    if s.clock.shipDay < c.config.firstDay ∨ c.config.lastDay < s.clock.shipDay then
      (s, some (.outcome .expired))
    else if !c.config.privilege then (s, some (.outcome .noCharge))
    else if a.status = .frozen then (s, some (.outcome .frozen))
    else if c.config.cls = .child then (s, (s.alcoholLine ls).map .alcoholLine)
    else (s, none)

/-- The cap check of a CHILD card with a daily cap (R79): the cap that a total exceeds. -/
def Card.capExceeded (c : Card) (total : Nat) : Option Nat :=
  match c.config.cls, c.config.dailyCap with
  | .child, some cap => if c.daySpent + total ≤ cap then none else some cap
  | _, _ => none

/-- The card's counters after an accepted request (R84). -/
def Card.spend (c : Card) (x : Sums) : Card :=
  { c with allowanceUsed := c.allowanceUsed + x.units, daySpent := min (c.daySpent + x.total) maxDaySpent }

/-! ## The posting queue (R100, R101) -/

/-- The posting number after another: after 4,294,967,295 comes 1 (R100). -/
def nextNumber (n : Nat) : Nat := if maxNat32 ≤ n then 1 else n + 1

/-- The posting queue has room. -/
def State.postRoom (s : State) : Bool := decide (s.engine.postings.length < postingQueueRoom)

/-- A record is appended under the next posting number, and the high-water flag is judged (R100, R101). -/
def State.appendPosting (s : State) (p : Posting) : State :=
  let ps := s.engine.postings ++ [{ p with number := s.engine.nextPosting }]
  let s1 := { s with engine := { s.engine with postings := ps, nextPosting := nextNumber s.engine.nextPosting } }
  if s.engine.highWaterArmed && decide (s.store.settings.highWater ≤ ps.length) then
    State.raise { s1 with engine := { s1.engine with highWaterArmed := false } } (.postingsHigh ps.length)
  else s1

/-! ## Settlement (R96, R97, R98) -/

/-- The account's held amount falls by the hold and its open tab count by 1, and its balance rises by the
total (R96). -/
def Account.settled (a : Account) (t : Tab) : Account :=
  { a with balance := a.balance + (t.sums.total : Int), held := a.held - t.hold, openTabs := a.openTabs - 1 }

/-- The TAB_SETTLE record of a tab (R96), its number to be given by the append. A tab names a card and an
account that exist; the zeros are never read (log 20). -/
def State.settleRecord (s : State) (t : Tab) (reason : CloseReason) : Posting where
  number := 0
  kind := .tabSettle reason
  terminal := t.terminal
  uid := ((Table.find s.store.cards t.cardSlot).map Card.uid).getD 0
  issue := ((Table.find s.store.cards t.cardSlot).map Card.issue).getD 0
  account := ((Table.find s.store.accounts t.accountSlot).map Account.number).getD 0
  shipDay := s.clock.shipDay
  shipTime := s.clock.shipTime
  lineCount := t.lineCount
  sums := t.sums
  delivered := false
  voided := false
  acceptedAt := s.clock.runSeconds
  voidable := false

/-- A tab leaves its slot: the account is settled, both open tab counts fall and the slot becomes FREE
and keeps its generation (R96). -/
def State.releaseTab (s : State) (slot : Nat) (t : Tab) : State :=
  let s1 := match Table.find s.store.accounts t.accountSlot with
    | some a => s.setAccount t.accountSlot (a.settled t)
    | none => s
  let s2 := s1.setTerminalTabs t.terminal (s1.terminalTabs t.terminal - 1)
  s2.setTabSlot slot { s2.tabSlot slot with state := .free }

/-- A tab settles: a posting when its total is above 0, and its release (R96). -/
def State.settle (s : State) (slot : Nat) (t : Tab) (reason : CloseReason) : State :=
  (if t.sums.total = 0 then s else s.appendPosting (s.settleRecord t reason)).releaseTab slot t

/-- A tab of total 0 settles whatever room there is; another needs room in the posting queue (R96). -/
def State.canSettle (s : State) (t : Tab) : Bool := decide (t.sums.total = 0) || s.postRoom

/-- A forced settlement (EXPIRED or DEPARTED) of an OPEN tab: it settles, or becomes CLOSING and joins the
tail of the settlement waiting list (R96). -/
def State.forceSettle (s : State) (slot : Nat) (t : Tab) (reason : CloseReason) : State :=
  if s.canSettle t then s.settle slot t reason
  else
    let s1 := s.setTabSlot slot { s.tabSlot slot with state := .closing t reason }
    { s1 with engine := { s1.engine with waiting := s1.engine.waiting ++ [slot] } }

/-- The departure settlement as it goes: the state, the tabs settled and the tabs sent to the list. -/
structure Departed where
  state : State
  settled : Nat
  waiting : Nat

/-- One OPEN tab of a departing card (R97). -/
def Departed.tab (d : Departed) (slot : Nat) : Departed :=
  match (d.state.tabSlot slot).state with
  | .opened t _ =>
    if d.state.canSettle t then ⟨d.state.forceSettle slot t .departed, d.settled + 1, d.waiting⟩
    else ⟨d.state.forceSettle slot t .departed, d.settled, d.waiting + 1⟩
  | _ => d

/-- The slots of the OPEN tabs that name a card slot, ascending. -/
def State.openTabsOf (s : State) (cardSlot : Nat) : List Nat :=
  (s.engine.tabs.filter fun e =>
    match e.2.state with
    | .opened t _ => t.cardSlot == cardSlot
    | _ => false).map Prod.fst

/-- A card's OPEN tabs are settled with reason DEPARTED, in ascending tab slot (R97). -/
def State.settleDeparted (s : State) (cardSlot : Nat) : Departed :=
  (s.openTabsOf cardSlot).foldl Departed.tab ⟨s, 0, 0⟩

/-- The settlement waiting list as it is served. -/
structure Served where
  state : State
  settled : Nat

/-- Tabs settle from the head of the waiting list while it holds an entry and the queue has room (R98). -/
def Served.go : List Nat → Served → Served
  | [], v => v
  | slot :: rest, v =>
    match (v.state.tabSlot slot).state with
    | .closing t reason =>
      if v.state.canSettle t then
        Served.go rest
          ⟨State.settle { v.state with engine := { v.state.engine with waiting := rest } } slot t reason,
            v.settled + 1⟩
      else v
    | _ => v

/-- The waiting list is served (R98). -/
def State.serveWaiting (s : State) : Served := Served.go s.engine.waiting ⟨s, 0⟩

end Sys2Proof.Machine
end

