-- ==== Sys2Proof/Machine/Tracker.lean ====
section
/-! DEFINITION. The Presence Tracker's shared operations: the presence move (R131), the direction of a scan
(R133) and the card fields of a reply. -/

namespace Sys2Proof.Machine

/-- ABOARD or UNVERIFIED: the presences that hold open tabs (R97). -/
def Presence.aboardShip : Presence → Bool
  | .aboard => true
  | .unverified => true
  | _ => false

/-- Steps 1 to 4 of a presence move (R131): the card, its counts, the ashore list and the departure
record. -/
def State.relocate (s : State) (slot : Nat) (c : Card) (new : Presence) (lane : Option Nat) : State :=
  let departure : Option Departure :=
    if new = .ashore then some ⟨s.clock.runSeconds, s.clock.shipTime, lane⟩ else none
  let left := if c.presence = .ashore then s.tracker.ashore.filter fun x => x != slot
    else s.tracker.ashore
  let s1 := s.setCard slot { c with presence := new, departure := departure }
  { s1 with tracker := {
      counts := if c.presence.column = new.column then s.tracker.counts
        else (s.tracker.counts.uncount c.config.cls c.presence).count c.config.cls new
      ashore := if new = .ashore then left ++ [slot] else left } }

/-- A presence move from the presence a card holds to a new one (R131), with the numbers of tabs settled
and sent to the waiting list. A move to the presence already held is none. -/
def State.movePresence (s : State) (slot : Nat) (c : Card) (new : Presence) (lane : Option Nat) :
    Departed :=
  if c.presence = new then ⟨s, 0, 0⟩
  else
    let s1 := s.relocate slot c new lane
    if c.presence.aboardShip && !new.aboardShip then s1.settleDeparted slot else ⟨s1, 0, 0⟩

/-- The direction of a scan at a lane: `true` is boarding (R133). -/
def boards (role : LaneRole) (p : Presence) : Bool :=
  match role with
  | .board => true
  | .leave => false
  | .both => !p.aboardShip

/-- The card fields of a reply, with the card as the request left it (R25, R137). -/
def State.cardView (s : State) (slot : Nat) (c : Card) : CardView :=
  match Table.find s.store.cards slot with
  | some x => ⟨slot, x.config.cls, x.presence⟩
  | none => ⟨slot, c.config.cls, c.presence⟩

/-- An account's last adult departure becomes the present run-seconds (R135). -/
def State.markAdultDeparture (s : State) (number : Nat) : State :=
  match s.accountByNumber number with
  | some (slot, a) => s.setAccount slot { a with lastAdultDeparture := some s.clock.runSeconds }
  | none => s

/-- The age of an account's last adult departure, when it has one (R136). -/
def State.adultDepartureAge (s : State) (number : Nat) : Option Nat :=
  (s.accountByNumber number).bind fun e => e.2.lastAdultDeparture.map fun t => s.clock.runSeconds - t

/-- The escort test of R136 fails a leaving scan: a CHILD card, an escort window other than 0, and no
adult departure younger than it. -/
def State.needsEscort (s : State) (c : Card) : Bool :=
  decide (c.config.cls = .child) && decide (s.store.settings.escortWindow ≠ 0) &&
    match s.adultDepartureAge c.config.account with
    | some age => decide (s.store.settings.escortWindow ≤ age)
    | none => true

end Sys2Proof.Machine
end

