-- ==== Sys2Proof/Machine/ClockCommands.lean ====
section
/-! DEFINITION. The requests and the event of the Ship Clock: TIME.SET, DAY.ROLL, PORT.ARRIVE and SAIL (R146
to R149), MODE.SET (R150, R151) and the rise of run-seconds (R145). -/

namespace Sys2Proof.Machine

/-! ## The calendar (R146, R147, R148) -/

/-- TIME.SET (R146). -/
def blockTimeSet (t : Nat) (s : State) : State × Answer :=
  if 86399 < t then (s, .refused .range)
  else ({ s with clock := { s.clock with shipTime := some t } }, .shipTime t)

/-- A card on a new ship day (R85). -/
def Card.newDay (c : Card) : Card := { c with allowanceUsed := 0, daySpent := 0 }

/-- DAY.ROLL (R147). -/
def blockDayRoll (_ : Unit) (s : State) : State × Answer :=
  if 65535 ≤ s.clock.shipDay then (s, .refused .range)
  else
    ({ s with
      store := { s.store with cards := Table.mapEntries Card.newDay s.store.cards }
      clock := { s.clock with shipDay := s.clock.shipDay + 1 } },
      .shipDay (s.clock.shipDay + 1))

/-- PORT.ARRIVE (R148). -/
def blockPortArrive (region : Nat) (s : State) : State × Answer :=
  if region = 0 ∨ 7 < region then (s, .refused .range)
  else ({ s with clock := { s.clock with port := .inPort, region := region } }, .port .inPort region)

/-! ## SAIL (R140, R149) -/

/-- The cards of a class in the ashore list. -/
def State.ashoreOf (s : State) (cls : CardClass) : Nat :=
  (s.tracker.ashore.filter fun slot =>
    (Table.find s.store.cards slot).any fun c => decide (c.config.cls = cls)).length

/-- One card of the ashore list becomes MISSED (R140). -/
def State.missCard (s : State) (slot : Nat) : State :=
  match Table.find s.store.cards slot with
  | some c => (s.movePresence slot c .missed none).state
  | none => s

/-- The ashore cards become MISSED, head first, and the notice of R140 is raised. -/
def State.missAshore (s : State) : State :=
  (s.tracker.ashore.foldl State.missCard s).raise
    (.missedAtSail (s.ashoreOf .guest) (s.ashoreOf .child) (s.ashoreOf .crew) (s.ashoreOf .security))

/-- SAIL (R149). -/
def blockSail (_ : Unit) (s : State) : State × Answer :=
  match s.clock.port with
  | .atSea => (s, .refused .state)
  | .inPort =>
    let s1 := { s with clock := { s.clock with port := .atSea, region := 0 } }
    ((s1.closeLanes .sail).missAshore,
      .sailed (s.ashoreOf .guest) (s.ashoreOf .child) (s.ashoreOf .crew) (s.ashoreOf .security)
        s.effectiveLanes)

/-! ## MODE.SET (R57, R150, R151) -/

/-- Sets the mode and the operating state of a loaded part (R1). -/
def State.setMode (s : State) (op : OpState) (mode : Mode) : State :=
  { s with store := { s.store with opState := op, mode := mode } }

/-- MODE.SET SECURE (R150). A mode already in force changes nothing and carries no numbers (log 17); log
18 says which relatches are counted as left owed. -/
def blockSecure (_ : Unit) (s : State) : State × Answer :=
  match s.store.mode with
  | .secure => (s, .outcome .accepted)
  | .service =>
    let l := (s.setMode .secure .secure).lockDoors
    (l.state.closeLanes .secure,
      .lockdown s.standingRequests l.placed l.state.owingDoors.length s.effectiveLanes)

/-- MODE.SET SERVICE (R151), and MODE.SET with a value of neither mode. -/
def blockModeCode (code : Nat) (s : State) : State × Answer :=
  if code ≠ 0 then (s, .refused .range)
  else match s.store.mode with
    | .service => (s, .outcome .accepted)
    | .secure =>
      let s1 := s.setMode .service .service
      ({ s1 with doorUnit := { s1.doorUnit with auditPointer := 0 } }, .outcome .accepted)

/-! ## The rise of run-seconds (R145) -/

/-- The millisecond timer completes another 1,000 ms. -/
def secondRises (s : State) : Option State := some (s.advanceTo ((s.clock.ms / 1000 + 1) * 1000))

/-! ## Meanings -/

/-- TIME_SET. -/
def execTimeSet (tag : Byte) (q : Body Nat) (s : State) : Host.Outcome State Fault Refusal :=
  serve (.timeSet tag q) (judged .always q blockTimeSet) s

/-- DAY_ROLL. -/
def execDayRoll (tag : Byte) (q : Body Unit) (span : Span) (s : State) :
    Host.Outcome State Fault Refusal :=
  serveFor span (.dayRoll tag q span) (judged .whenLoaded q blockDayRoll) s

/-- PORT_ARRIVE. -/
def execPortArrive (tag : Byte) (q : Body Nat) (s : State) : Host.Outcome State Fault Refusal :=
  serve (.portArrive tag q) (judged .whenLoaded q blockPortArrive) s

/-- SAIL. -/
def execSail (tag : Byte) (q : Body Unit) (span : Span) (s : State) : Host.Outcome State Fault Refusal :=
  serveFor span (.sail tag q span) (judged .whenLoaded q blockSail) s

/-- MODE_SET_SECURE: MODE.SET whose body is the code of SECURE. -/
def execModeSetSecure (tag : Byte) (span : Span) (s : State) : Host.Outcome State Fault Refusal :=
  serveFor span (.modeSetSecure tag span) (judged .whenLoaded (.fit ()) blockSecure) s

/-- MODE_SET_SERVICE: MODE.SET with any other body. -/
def execModeSetService (tag : Byte) (q : Body Nat) (s : State) : Host.Outcome State Fault Refusal :=
  serve (.modeSetService tag q) (judged .whenLoaded q blockModeCode) s

/-- RUN_SECONDS_RISE. -/
def execRunSecondsRise (s : State) : Host.Outcome State Fault Refusal := happens secondRises s

end Sys2Proof.Machine
end

