-- ==== Sys2Proof/Machine/DoorCommands.lean ====
section
/-! DEFINITION. The requests and events at the doors: DOOR.CARD of the Access Decision Unit (R25 to R44),
DOOR.REPORT, ORDER.FETCH, the timers of a channel, the audit step and the bus window (R45 to R67). -/

namespace Sys2Proof.Machine

/-! ## The refusal history and the reader block (R39, R40) -/

/-- An outcome is entered in the refusal history (R39). -/
def JobOutcome.entered : JobOutcome → Bool
  | .unknownCard => true
  | .superseded => true
  | .secured => true
  | .notBoarded => true
  | .missed => true
  | .expired => true
  | .notThisDoor => true
  | .hours => true
  | .privacy => true
  | _ => false

/-- An entry of a refusal history is younger than the refusal window in force (R40). -/
def State.youngRefusal (s : State) (t : Nat) : Bool :=
  decide (s.clock.runSeconds - t < s.store.settings.refusalWindow)

/-- The refusal history after one more refusal: aged entries leave the head, the present run-seconds joins
the tail (R40). -/
def State.refusalsWith (s : State) (history : List Nat) : List Nat :=
  history.dropWhile (fun t => !s.youngRefusal t) ++ [s.clock.runSeconds]

/-- A refusal is entered in the door's history; at the refusal limit it blocks the reader (R40). -/
def State.enterRefusal (s : State) (door : Nat) : State :=
  let h := s.refusalsWith (s.reader door).history
  if s.store.settings.refusalLimit ≤ h.length then
    (s.setReader door ⟨[], some (s.clock.runSeconds + s.store.settings.blockTime)⟩).raise
      (.readerBlocked door s.store.settings.blockTime)
  else s.setReader door { s.reader door with history := h }

/-! ## Checks 5 to 8 (R31 to R35) -/

/-- The ship time is set and its minute lies inside the hours (R6, R35). -/
def insideHours (hours : Option Span2) (shipTime : Option Nat) : Bool :=
  match hours, shipTime with
  | some h, some t =>
    let m := t / 60
    if h.first < h.second then decide (h.first ≤ m) && decide (m < h.second)
    else decide (h.first ≤ m) || decide (m < h.second)
  | _, _ => false

/-- The door lies within the section (R35). -/
def insideSection (sect : Option Span2) (door : Nat) : Bool :=
  match sect with
  | some p => decide (p.first ≤ door) && decide (door ≤ p.second)
  | none => false

/-- Check 8, the class rules (R34, R35): the failing outcome, if any. -/
def State.classRefusal (s : State) (c : Card) (door : Nat) : Option JobOutcome :=
  if c.config.cabins.contains door then none
  else if c.config.cls = .crew then
    if !insideSection c.config.section_ door then some .notThisDoor
    else if !insideHours c.config.hours s.clock.shipTime then some .hours
    else if (s.channel door).dnd then some .privacy
    else none
  else some .notThisDoor

/-- Checks 5 to 8 (R31 to R35): the first failing outcome. -/
def State.doorRefusal (s : State) (c : Card) (door : Nat) : Option JobOutcome :=
  if s.store.mode = .secure then some .secured
  else if c.presence = .expected then some .notBoarded
  else if c.presence = .missed then some .missed
  else if s.clock.shipDay < c.config.firstDay ∨ c.config.lastDay < s.clock.shipDay then some .expired
  else s.classRefusal c door

/-! ## The decision (R25 to R38) -/

/-- Check 10: a granted card that was ASHORE becomes UNVERIFIED (R38). -/
def State.presenceNote (s : State) (slot : Nat) (c : Card) (door : Nat) : State :=
  if c.presence = .ashore then
    ((s.movePresence slot c .unverified none).state).raise (.presence c.uid door)
  else s

/-- A refusal at a door: its entry in the history and its reply (R25, R39). -/
def State.refuseAt (s : State) (door : Nat) (o : JobOutcome) (card : Option CardView) : State × Answer :=
  let s1 := if o.entered then s.enterRefusal door else s
  (s1, .doorCard o (s1.channel door).state card none)

/-- Check 4: the unmetered grant of a SECURITY card (R30), and check 10. -/
def State.grantSecurity (s : State) (door slot : Nat) (c : Card) : State × Answer :=
  let s1 := if (s.channel door).dnd || decide (s.store.mode = .secure) then s.raise (.override c.uid door)
    else s
  let s2 := s1.presenceNote slot c door
  (s2, .doorCard .grant (s2.channel door).state (some (s2.cardView slot c)) none)

/-- Check 9, and check 10 after a grant (R36, R37, R38). -/
def State.grantCard (s : State) (door slot : Nat) (c : Card) : State × Answer :=
  let g := s.grantAt door
  let s2 := if g.outcome = .busFull then g.state else g.state.presenceNote slot c door
  (s2, .doorCard g.outcome g.channel (some (s2.cardView slot c)) g.position)

/-- Checks 3 to 10 of the card presented (R29 to R38). -/
def State.decideCard (s : State) (door uid issue : Nat) : State × Answer :=
  match s.present uid issue with
  | .unknown => s.refuseAt door .unknownCard none
  | .superseded => (s.raise (.supersededCard uid issue)).refuseAt door .superseded none
  | .current slot c =>
    if c.config.cls = .security then s.grantSecurity door slot c
    else match s.doorRefusal c door with
      | some o => s.refuseAt door o (some (s.cardView slot c))
      | none => s.grantCard door slot c

/-- Check 2 at a blocked reader: only a current SECURITY card passes (R28). -/
def State.decideBlocked (s : State) (door uid issue : Nat) : State × Answer :=
  match s.present uid issue with
  | .current slot c =>
    if c.config.cls = .security then s.grantSecurity door slot c
    else (s, .doorCard .blocked (s.channel door).state (some (s.cardView slot c)) none)
  | _ => (s, .doorCard .blocked (s.channel door).state none none)

/-- Check 2 (R28): a block that runs holds; one that has run out is cleared and the decision goes on. -/
def State.decideAt (s : State) (door uid issue : Nat) : State × Answer :=
  match (s.reader door).blockedUntil with
  | none => s.decideCard door uid issue
  | some t =>
    if s.clock.runSeconds < t then s.decideBlocked door uid issue
    else (s.setReader door { s.reader door with blockedUntil := none }).decideCard door uid issue

/-- DOOR.CARD (R25 to R38). -/
def blockDoorCard (q : DoorCardReq) (s : State) : State × Answer :=
  if doorCount ≤ q.door ∨ 15 < q.issue then (s, .refused .range)
  else if !(s.doorConfig q.door).configured then (s, .doorCard .unknownDoor .unknown none none)
  else s.decideAt q.door q.uid q.issue

/-! ## Reports and orders (R46, R62) -/

/-- DOOR.REPORT (R46). -/
def blockDoorReport (q : DoorReportReq) (s : State) : State × Answer :=
  match contactOf q.contact, latchOf q.latch, flagOf q.dnd, isPollReplyOf q.cause with
  | some contact, some latch, some dnd, some pollReply =>
    if doorCount ≤ q.door then (s, .refused .range)
    else if !(s.doorConfig q.door).configured then (s, .outcome .unknownDoor)
    else
      let s1 := s.takeReport q.door contact latch dnd pollReply
      (s1, .doorReport (s1.channel q.door).state (s1.channel q.door).relatchOwed)
  | _, _, _, _ => (s, .refused .range)

/-- The orders fetched leave the queue and are delivered in their order (R62). -/
def State.fetchOrders (s : State) : State :=
  (s.scheduler.orders.take 8).foldl State.deliver
    { s with scheduler := { s.scheduler with orders := s.scheduler.orders.drop 8 } }

/-- ORDER.FETCH (R62): the number left is counted before the room is filled (log 9). -/
def blockOrderFetch (_ : Unit) (s : State) : State × Answer :=
  let taken := s.scheduler.orders.take 8
  let s1 := s.fetchOrders
  (if taken.isEmpty then s1 else s1.refill, .orders taken s1.scheduler.orders.length)

/-! ## Timers of a channel (R47, R52, R53, R54) -/

/-- The relatch timer of a RELEASED door expires (R52). -/
def relatchExpires (door : Nat) (s : State) : Option State :=
  match s.loaded, (s.channel door).state with
  | true, .released (some t) confirm => some ((s.advanceTo t).callRelatch door (.released none confirm))
  | _, _ => none

/-- A door becomes FAULT with a notice; its timers and an owed relatch go with the state (R52, R54). -/
def State.faultDoor (s : State) (door : Nat) (v : DoorFault) : State :=
  (s.setChannel door { s.channel door with state := .fault, relatchOwed := false }).raise
    (.doorFault door v)

/-- The strike confirm of a RELEASED door expires (R52). -/
def strikeConfirmExpires (door : Nat) (s : State) : Option State :=
  match s.loaded, (s.channel door).state with
  | true, .released _ (.running t) => some ((s.advanceTo t).faultDoor door .strikeConfirm)
  | _, _ => none

/-- The ajar timer of an OPEN door expires (R53). -/
def ajarExpires (door : Nat) (s : State) : Option State :=
  match s.loaded, (s.channel door).state with
  | true, .opened t =>
    some (((s.advanceTo t).setChannelState door .ajar).raise (.doorAjar door s.store.settings.ajarTime))
  | _, _ => none

/-- The relatch confirm of a RELATCHING door expires (R54). -/
def relatchConfirmExpires (door : Nat) (s : State) : Option State :=
  match s.loaded, (s.channel door).state with
  | true, .relatching (.running t) => some ((s.advanceTo t).faultDoor door .relatchConfirm)
  | _, _ => none

/-! ## The audit step and the bus window (R60, R63, R64) -/

/-- The scheduled audit step is made, and schedules the next (R63, R64). -/
def auditSteps (s : State) : Option State :=
  match s.loaded, s.doorUnit.auditNext with
  | true, some t => some (s.advanceToSecond t).auditAct.auditSchedule
  | _, _ => none

/-- An entry of a bus history reaches the age of the bus window in force and the bus is considered (R60).
The entry is the oldest that still counts; a bus that may release already has an entry whose time came
while the clock passed for another event (log 4), and is considered at once. -/
def windowAgesOut (bus : Nat) (s : State) : Option State :=
  if s.mayRelease bus then some (s.consider bus)
  else ((s.bus bus).history.find? s.counts).map fun t =>
    (s.advanceTo (t + s.store.settings.busWindow)).consider bus

/-! ## Meanings -/

/-- DOOR_CARD. -/
def execDoorCard (tag : Byte) (q : Body DoorCardReq) (s : State) : Host.Outcome State Fault Refusal :=
  serve (.doorCard tag q) (judged .whenLoaded q blockDoorCard) s

/-- DOOR_REPORT. -/
def execDoorReport (tag : Byte) (q : Body DoorReportReq) (s : State) :
    Host.Outcome State Fault Refusal :=
  serve (.doorReport tag q) (judged .whenLoaded q blockDoorReport) s

/-- ORDER_FETCH. -/
def execOrderFetch (tag : Byte) (q : Body Unit) (s : State) : Host.Outcome State Fault Refusal :=
  serve (.orderFetch tag q) (judged .always q blockOrderFetch) s

/-- RELATCH_TIMER_EXPIRY. -/
def execRelatchTimerExpiry (door : Nat) (s : State) : Host.Outcome State Fault Refusal :=
  happens (relatchExpires door) s

/-- STRIKE_CONFIRM_EXPIRY. -/
def execStrikeConfirmExpiry (door : Nat) (s : State) : Host.Outcome State Fault Refusal :=
  happens (strikeConfirmExpires door) s

/-- AJAR_TIMER_EXPIRY. -/
def execAjarTimerExpiry (door : Nat) (s : State) : Host.Outcome State Fault Refusal :=
  happens (ajarExpires door) s

/-- RELATCH_CONFIRM_EXPIRY. -/
def execRelatchConfirmExpiry (door : Nat) (s : State) : Host.Outcome State Fault Refusal :=
  happens (relatchConfirmExpires door) s

/-- AUDIT_STEP. -/
def execAuditStep (s : State) : Host.Outcome State Fault Refusal := happens auditSteps s

/-- BUS_WINDOW_AGE_OUT. -/
def execBusWindowAgeOut (bus : Nat) (s : State) : Host.Outcome State Fault Refusal :=
  happens (windowAgesOut bus) s

end Sys2Proof.Machine
end

