-- ==== Sys2Proof/Machine/LaneCommands.lean ====
section
/-! DEFINITION. The requests and events of the Gangway Counter Unit: LANE.OPEN, LANE.CLOSE, LANE.READ (R114,
R115, R124), the lane inputs and their debouncers (R110, R111) and the flow window (R120, R121). -/

namespace Sys2Proof.Machine

/-! ## Requests (R114, R115, R124) -/

/-- LANE.OPEN (R114). DESIGN CHOICE (log 29): a reply with outcome SECURED or AT_SEA carries the outcome alone,
without the soft gate, brace level and gate. -/
def blockLaneOpen (n : Nat) (s : State) : State × Answer :=
  if 3 < n then (s, .refused .range)
  else if s.store.opState = .secure then (s, .outcome .secured)
  else if s.clock.port = .atSea then (s, .outcome .atSea)
  else
    let s1 := s.setSoftGate n
    (s1, .laneOpened (s1.lane n).softGate (s1.lane n).brace.level (s1.lane n).gate)

/-- LANE.CLOSE (R115): the hold record is in the reply when the request lost the gate. -/
def blockLaneClose (n : Nat) (s : State) : State × Answer :=
  if 3 < n then (s, .refused .range)
  else
    let s1 := s.clearSoftGate n .close
    (s1, .laneClosed (if (s.lane n).gate then (s1.lane n).hold else none))

/-- What LANE.READ returns (R124). -/
def State.laneView (s : State) (n : Nat) : LaneView :=
  let l := s.lane n
  { softGate := l.softGate
    brace := l.brace.level
    gate := l.gate
    s := l.s.level
    i := l.i.level
    decoder := l.decoder
    mark := l.mark
    settling := l.settling
    counters := l.counters
    openTime := l.openTime
    effectiveFor := if l.gate then some (s.clock.runSeconds - l.openTime.runSeconds) else none
    flow := if l.gate then l.flowEnd.map fun e => (l.flowCount, e - s.clock.ms, l.crowdingArmed) else none
    differenceIn := l.counters.difference .inward
    differenceOut := l.counters.difference .outward
    armedIn := l.armedIn
    armedOut := l.armedOut
    role := Four.get s.store.settings.laneRole n
    flowWindow := Four.get s.store.settings.flowWindow n
    flowLimit := Four.get s.store.settings.flowLimit n
    hold := l.hold }

/-- LANE.READ (R124). -/
def blockLaneRead (n : Nat) (s : State) : State × Answer :=
  if 3 < n then (s, .refused .range) else (s, .laneRead (s.laneView n))

/-! ## Inputs (R110) -/

/-- The pin of an input, `true` when low. -/
def Lane.pin (l : Lane) : LaneInput → Bool
  | .beam b => (l.beam b).pin
  | .brace => l.brace.pin

/-- A pin moves while no debouncer runs (retention, reset): the start that follows reads it (R109). -/
def Lane.movePin (l : Lane) (input : LaneInput) (low : Bool) : Lane :=
  match input with
  | .beam b => l.setBeam b { l.beam b with pin := low }
  | .brace => { l with brace := { l.brace with pin := low } }

/-- A pin moves while the debouncers run (R110, R111). -/
def State.inputEdge (s : State) (n : Nat) (input : LaneInput) (low : Bool) : State :=
  match input with
  | .beam b => s.beamEdge n b low
  | .brace =>
    let l := s.lane n
    s.setLane n { l with brace := l.brace.edge l.brace.level low s.clock.ms }

/-- An edge at a lane input: a level the pin already has is no edge. -/
def State.laneEdge (s : State) (n : Nat) (input : LaneInput) (low : Bool) : State :=
  if 3 < n ∨ (s.lane n).pin input = low then s
  else if s.takesEvents then s.inputEdge n input low
  else s.setLane n ((s.lane n).movePin input low)

/-! ## Stable changes (R110, R111) -/

/-- The change under way of a beam is stable by now, and may be taken together with the other beam's
(R111). -/
def State.pairable (s : State) (n : Nat) (b : Beam) : Bool :=
  match ((s.lane n).beam b).since with
  | some since =>
    decide (since + s.store.settings.debounce ≤ s.clock.ms) && decide ((s.lane n).alone ≠ some b)
  | none => false

/-- A stable change of a beam is taken (R111): by itself when the other beam's held change has waited for it
in vain, as a double change with the other beam's held or equally stable change, alone when the other beam
has no change under way; a change that is to be held is not taken. -/
def beamTaken (n : Nat) (b : Beam) (s : State) : Option State :=
  (((s.lane n).beam b).since).bind fun since =>
    let s1 := s.beamStable n b since
    let l := (s1.lane n).endChange b
    let s2 := s1.setLane n l
    if (s1.lane n).alone = some b then some (s2.takeBeams n (.single b))
    else if l.held.map Held.beam = some (otherBeam b) then
      some ((s2.setLane n { l with held := none }).takeBeams n .double)
    else if (l.beam (otherBeam b)).since = none then some (s2.takeBeams n (.single b))
    else if s2.pairable n (otherBeam b) then
      some ((s2.setLane n (l.endChange (otherBeam b))).takeBeams n .double)
    else none

/-- A stable change of a beam is held because the other beam has a change under way (R111); where that change
is to be taken by itself, log 32 says what follows. -/
def beamHeld (n : Nat) (b : Beam) (s : State) : Option State :=
  (((s.lane n).beam b).since).bind fun since =>
    let s1 := s.beamStable n b since
    let l := (s1.lane n).endChange b
    let s2 := s1.setLane n l
    if (s1.lane n).alone ≠ some b ∧ l.held = none ∧ (l.beam (otherBeam b)).since ≠ none ∧
        s2.pairable n (otherBeam b) = false then
      some (s2.setLane n { l with held := some ⟨b, s2.clock.ms⟩ })
    else none

/-- The wait of a held change runs out, and the change is taken alone (R111). DESIGN CHOICE (log 34): it is taken
alone also where the other beam's change is stable by then and has not been taken. -/
def pairingExpires (n : Nat) (s : State) : Option State :=
  (s.lane n).held.map fun h => (s.advanceTo (h.since + s.store.settings.debounce)).expireHeld n

/-- A stable change of the brace is taken (R110). -/
def braceTaken (n : Nat) (s : State) : Option State :=
  (s.lane n).brace.since.map fun since => (s.advanceTo (s.stableAt since)).takeBrace n

/-! ## The flow window (R120, R121) -/

/-- The comparison at a window close (R121). -/
def State.crowding (s : State) (n : Nat) : State :=
  let l := s.lane n
  if Four.get s.store.settings.flowLimit n < l.flowCount then
    if l.crowdingArmed then
      (s.setLane n { l with crowdingArmed := false }).raise (.crowding n l.flowCount)
    else s
  else s.setLane n { l with crowdingArmed := true }

/-- The flow window in progress closes and the next starts at its end (R120, log 22). -/
def flowCloses (n : Nat) (s : State) : Option State :=
  match (s.lane n).gate, (s.lane n).flowEnd with
  | true, some e =>
    let s1 := (s.advanceTo e).crowding n
    some (s1.setLane n { s1.lane n with
      flowCount := 0, flowEnd := some (e + Four.get s.store.settings.flowWindow n * 1000) })
  | _, _ => none

/-- Lanes are numbered 0 to 3; an event at another number is none. -/
def onlyLanes (n : Nat) (event : State → Option State) (s : State) : Option State :=
  if 3 < n then none else event s

/-! ## Meanings -/

/-- LANE_OPEN. -/
def execLaneOpen (tag : Byte) (q : Body Nat) (s : State) : Host.Outcome State Fault Refusal :=
  serve (.laneOpen tag q) (judged .whenLoaded q blockLaneOpen) s

/-- LANE_CLOSE. -/
def execLaneClose (tag : Byte) (q : Body Nat) (s : State) : Host.Outcome State Fault Refusal :=
  serve (.laneClose tag q) (judged .whenLoaded q blockLaneClose) s

/-- LANE_READ. -/
def execLaneRead (tag : Byte) (q : Body Nat) (s : State) : Host.Outcome State Fault Refusal :=
  serve (.laneRead tag q) (judged .always q blockLaneRead) s

/-- LANE_INPUT_EDGE: the pins move whatever the part does; the debouncers follow while events are taken. -/
def execLaneInputEdge (lane : Nat) (input : LaneInput) (level : PinLevel) (s : State) :
    Host.Outcome State Fault Refusal :=
  .next (s.laneEdge lane input (decide (level = .low)))

/-- BEAM_CHANGE_TAKEN. -/
def execBeamChangeTaken (lane : Nat) (beam : Beam) (s : State) : Host.Outcome State Fault Refusal :=
  happens (onlyLanes lane (beamTaken lane beam)) s

/-- BEAM_CHANGE_HELD. -/
def execBeamChangeHeld (lane : Nat) (beam : Beam) (s : State) : Host.Outcome State Fault Refusal :=
  happens (onlyLanes lane (beamHeld lane beam)) s

/-- PAIRING_WAIT_EXPIRY. -/
def execPairingWaitExpiry (lane : Nat) (s : State) : Host.Outcome State Fault Refusal :=
  happens (onlyLanes lane (pairingExpires lane)) s

/-- BRACE_CHANGE_TAKEN. -/
def execBraceChangeTaken (lane : Nat) (s : State) : Host.Outcome State Fault Refusal :=
  happens (onlyLanes lane (braceTaken lane)) s

/-- FLOW_WINDOW_CLOSE. -/
def execFlowWindowClose (lane : Nat) (s : State) : Host.Outcome State Fault Refusal :=
  happens (onlyLanes lane (flowCloses lane)) s

end Sys2Proof.Machine
end

