-- ==== Sys2Proof/Machine/Start.lean ====
section
/-! DEFINITION. The starts of the part: the retained image and its check word (R167), the cold start
(R165), the matched wake (R168, R169) and the check at a wake. -/

namespace Sys2Proof.Machine

/-! ## The retained image (R167) -/

/-- The retained image of a state. -/
def State.image (s : State) : Image where
  store := s.store
  tracker := s.tracker
  tabs := s.engine.tabs
  terminalTabs := s.engine.terminalTabs
  waiting := s.engine.waiting
  postings := s.engine.postings
  nextPosting := s.engine.nextPosting
  holds := Four.map Lane.hold s.lanes
  shipDay := s.clock.shipDay
  port := s.clock.port
  region := s.clock.region

/-- The check word over the image (R167). -/
def State.imageCheckWord (s : State) : BitVec 32 := crc32 (Config.imageOrder s.image)

/-! ## What every start has in common -/

/-- A lane at a start: its pins stay as the outside world holds them (R109, R110). -/
def Lane.restart (l : Lane) (hold : Option HoldRecord) : Lane :=
  Lane.start l.s.pin l.i.pin l.brace.pin hold

/-- The Retention Unit at a start; the PFAIL line stays as it is (R164). -/
def Retention.restart (r : Retention) : Retention := { Retention.start with pfail := r.pfail }

/-- The link at a start: emptied, with the WAKE_RESULT notice (R161, R165, R168). DESIGN CHOICE (log 31): a
reply that is being clocked out as the start comes sends idle bytes from then on. -/
def Link.restart (l : Link) (value : WakeResult) : Link :=
  Link.start (l.transfer.map Transfer.muted) value

/-- The audit step timer at a start: one audit interval from run-seconds 0, if the part is loaded and the
interval is not 0 (R63). -/
def Store.firstAudit (v : Store) : Option Nat :=
  if (v.opState = .service ∨ v.opState = .secure) ∧ v.settings.auditInterval ≠ 0 then
    some v.settings.auditInterval
  else none

/-! ## The cold start (R165) -/

/-- The cold start: every block takes its cold start values. -/
def State.coldStart (s : State) (value : WakeResult) : State where
  store := Store.cold
  tracker := ⟨PresenceCounts.zero, []⟩
  engine := Engine.cold
  doorUnit := ⟨[], 0, none⟩
  scheduler := Scheduler.start
  readers := []
  lanes := Four.map (fun l => Lane.restart l none) s.lanes
  clock := Clock.cold
  retention := s.retention.restart
  link := s.link.restart value
  freeCount := s.freeCount
  pending := s.pending

/-! ## The matched wake (R168) -/

/-- A card at a wake: its departure record keeps ship time and lane, its run-seconds becomes 0 (R128). -/
def Card.awoken (c : Card) : Card :=
  { c with departure := c.departure.map fun d => { d with runSeconds := 0 } }

/-- An account at a wake: its last adult departure is absent (R136). -/
def Account.awoken (a : Account) : Account := { a with lastAdultDeparture := none }

/-- A tab slot at a wake: an OPEN tab's last activity is 0 and its idle deadline is set afresh (R108). -/
def TabSlot.awoken (idleLimit : Nat) (t : TabSlot) : TabSlot :=
  match t.state with
  | .opened tab _ => { t with state := .opened { tab with lastActivity := 0 } (idleLimit * 60) }
  | _ => t

/-- A posting at a wake: it can no longer be voided (R106). -/
def Posting.awoken (p : Posting) : Posting := { p with voidable := false }

/-- The wake start that every block makes when the image stands (R168), from the present state. -/
def State.wakeStart (s : State) : State where
  store := { s.store with
    cards := Table.mapEntries Card.awoken s.store.cards
    accounts := Table.mapEntries Account.awoken s.store.accounts }
  tracker := s.tracker
  engine := { s.engine with
    tabs := Table.mapEntries (TabSlot.awoken s.store.settings.tabIdleLimit) s.engine.tabs
    postings := s.engine.postings.map Posting.awoken
    highWaterArmed := decide (s.engine.postings.length < s.store.settings.highWater) }
  doorUnit := ⟨[], 0, s.store.firstAudit⟩
  scheduler := Scheduler.start
  readers := []
  lanes := Four.map (fun l => Lane.restart l l.hold) s.lanes
  clock := { s.clock with shipTime := none, runSeconds := 0, ms := 0 }
  retention := s.retention.restart
  link := s.link.restart .retained
  freeCount := s.freeCount
  pending := s.pending

/-- The wake of a part that holds a retention mark: the check word is verified over the held image. A
match is the wake start, a mismatch the cold start with CHECK_FAILED; a mark lost with its supply leaves
a store with nothing retained, a cold start with COLD (R165, R167, R168). -/
def State.verifyAndStart (s : State) : State :=
  match s.retention.store with
  | .kept =>
    if s.retention.checkWord = some s.imageCheckWord then s.wakeStart else s.coldStart .checkFailed
  | .lost true => s.coldStart .checkFailed
  | .lost false => s.coldStart .cold

/-! ## Entering retention (R166) -/

/-- The phase becomes ENTERING and the link discards what R166 lists. -/
def State.enter (s : State) : State :=
  { s with
    retention := { s.retention with phase := .entering }
    link := s.link.entered }

/-- A start made by a RESTART in execution. A retention supply that has failed stays failed (log 14). When
PFAIL was asserted first, the entry of R166 follows from the started state, and the PFAIL-seen flag of that
assertion stands (R169). -/
def State.restartInto (old new : State) : State :=
  let started := { new with retention := { new.retention with vretFailed := old.retention.vretFailed } }
  match old.retention.phase with
  | .entering =>
    let entered := started.enter
    { entered with retention := { entered.retention with pfailSeen := old.retention.pfailSeen } }
  | _ => started

/-- A lane at the capture: pending debounce changes are abandoned (R166). -/
def Lane.captured (l : Lane) : Lane :=
  { l with
    s := { l.s with since := none }
    i := { l.i with since := none }
    brace := { l.brace with since := none }
    held := none
    alone := none }

end Sys2Proof.Machine
end

