-- ==== Sys2Proof/Machine/StoreCommands.lean ====
section
/-! DEFINITION. The requests owned by the Credential Store (R3 to R24) and ACCOUNT.CREDIT (R107): for each
request its block, which judges the fields and acts, and its meaning, which puts the link in front. -/

namespace Sys2Proof.Machine

/-! ## Loading (R3, R4, R5) -/

/-- LOAD.BEGIN (R3). -/
def blockLoadBegin (day : Nat) (s : State) : State × Answer :=
  ({ s with store := { s.store with opState := .loading }, clock := { s.clock with shipDay := day } },
    .loadBegun day)

/-- The first of the three tests that a card fails (R4). -/
def State.cardFailure (s : State) (c : Card) : Option LoadFailure :=
  if (s.accountByNumber c.config.account).isNone then some .noAccount
  else if c.config.cabins.any fun d => !(s.doorConfig d).configured then some .noDoor
  else match c.config.section_ with
    | some p => if p.second < p.first then some .section_ else none
    | none => none

/-- The consistency check: the first failure in ascending slot number (R4). -/
def State.loadCheck (s : State) : Option (Nat × LoadFailure) :=
  s.store.cards.findSome? fun e => (s.cardFailure e.2).map fun r => (e.1, r)

/-- The ashore list that holds every ASHORE card: those already in it keep their order (R5, R130). -/
def State.ashoreAfresh (s : State) : List Nat :=
  let cards := (s.store.cards.filter fun e => decide (e.2.presence = .ashore)).map Prod.fst
  let kept := s.tracker.ashore.filter fun x => cards.contains x
  kept ++ cards.filter fun x => !kept.contains x

/-- The entry into service (R5), with the first audit step one audit interval later (R63). -/
def State.enterService (s : State) : State :=
  State.auditSchedule
    { s with
      store := { s.store with opState := .service, mode := .service }
      tracker := ⟨PresenceCounts.ofCards s.store.cards, s.ashoreAfresh⟩
      doorUnit := ⟨[], 0, none⟩
      readers := [] }

/-- LOAD.END (R4, R5). -/
def blockLoadEnd (_ : Unit) (s : State) : State × Answer :=
  match s.loadCheck with
  | some (slot, reason) => (s, .loadFailed slot reason)
  | none => (s.enterService, .loadPassed s.store.cards.length)

/-! ## Cards (R7 to R12) -/

/-- The references of a configuration in SERVICE and SECURE (R7 step 4). -/
def State.badReference (s : State) (g : CardConfig) : Option Status :=
  if (s.accountByNumber g.account).isNone then some .notFound
  else if g.cabins.any fun d => !(s.doorConfig d).configured then some .notFound
  else match g.section_ with
    | some p => if p.second < p.first then some .range else none
    | none => none

/-- The references are checked once loaded, and left to the consistency check in LOADING (R7). -/
def State.referenceFailure (s : State) (g : CardConfig) : Option Status :=
  if s.loaded then s.badReference g else none

/-- A NEW put that passes (R8). -/
def State.newCard (s : State) (slot uid issue : Nat) (g : CardConfig) (p : Presence) : State :=
  let s1 := s.setCard slot ⟨uid, issue, g, 0, 0, p, none⟩
  { s1 with tracker := { s1.tracker with counts := s1.tracker.counts.count g.cls p } }

/-- A CARD.PUT of kind NEW whose configuration is in range (R7, R8). -/
def State.putNewCard (s : State) (uid issue presence : Nat) (g : CardConfig) : State × Answer :=
  match initialPresenceOf presence with
  | none => (s, .refused .range)
  | some p =>
    if 15 < issue then (s, .refused .range)
    else match s.cardByUid uid with
      | some _ => (s, .refused .exists_)
      | none =>
        match Table.freeSlot cardSlots s.store.cards with
        | none => (s, .refused .full)
        | some slot =>
          match s.referenceFailure g with
          | some st => (s, .refused st)
          | none => (s.newCard slot uid issue g p, .cardPut slot issue p)

/-- A card with another configuration; a changed tier brings allowance used down to its daily allowance
(R9). -/
def State.reconfigured (s : State) (c : Card) (g : CardConfig) : Card :=
  { c with
    config := g
    allowanceUsed := if c.config.tier = g.tier then c.allowanceUsed
      else min c.allowanceUsed (s.tierAllowance g.tier) }

/-- A CHANGE put that passes: the record, and the counts when the class changed (R9). -/
def State.changeCard (s : State) (slot : Nat) (c : Card) (g : CardConfig) : State :=
  let s1 := s.setCard slot (s.reconfigured c g)
  { s1 with tracker := { s1.tracker with
      counts := if c.config.cls = g.cls then s1.tracker.counts
        else (s1.tracker.counts.uncount c.config.cls c.presence).count g.cls c.presence } }

/-- A CARD.PUT of kind CHANGE whose configuration is in range (R7, R9). -/
def State.putChangedCard (s : State) (uid : Nat) (g : CardConfig) : State × Answer :=
  match s.cardByUid uid with
  | none => (s, .refused .notFound)
  | some (slot, c) =>
    match s.referenceFailure g with
    | some st => (s, .refused st)
    | none =>
      if c.config.account ≠ g.account ∧ s.engine.cardHasTab slot = true then (s, .outcome .tabOpen)
      else (s.changeCard slot c g, .cardPut slot c.issue c.presence)

/-- CARD.PUT (R7, R8, R9). -/
def blockCardPut (q : CardPutReq) (s : State) : State × Answer :=
  match isNewOf q.kind, cardConfigOf q with
  | some true, some g => s.putNewCard q.uid q.issue q.presence g
  | some false, some g => s.putChangedCard q.uid g
  | _, _ => (s, .refused .range)

/-- The reply of a card read (R10). -/
def State.cardAnswer (s : State) (slot : Nat) (c : Card) : Answer :=
  .cardRead slot c ((s.accountByNumber c.config.account).map Prod.fst)

/-- CARD.READ (R10). -/
def blockCardRead (q : CardReadReq) (s : State) : State × Answer :=
  match q.selector with
  | 0 =>
    match s.cardByUid q.uid with
    | some (slot, c) => (s, s.cardAnswer slot c)
    | none => (s, .refused .notFound)
  | 1 =>
    if q.slot < cardSlots then
      match Table.find s.store.cards q.slot with
      | some c => (s, s.cardAnswer q.slot c)
      | none => (s, .refused .notFound)
    else (s, .refused .range)
  | _ => (s, .refused .range)

/-- CARD.REISSUE (R11). -/
def blockCardReissue (uid : Nat) (s : State) : State × Answer :=
  match s.cardByUid uid with
  | none => (s, .refused .notFound)
  | some (slot, c) =>
    if 15 ≤ c.issue then (s, .refused .range)
    else (s.setCard slot { c with issue := c.issue + 1 }, .issueNow (c.issue + 1))

/-- A card leaves the table, its count and the ashore list (R12). -/
def State.removeCard (s : State) (slot : Nat) (c : Card) : State :=
  { s with
    store := { s.store with cards := Table.erase s.store.cards slot }
    tracker := ⟨s.tracker.counts.uncount c.config.cls c.presence,
      s.tracker.ashore.filter fun x => x != slot⟩ }

/-- CARD.RETIRE (R12). -/
def blockCardRetire (uid : Nat) (s : State) : State × Answer :=
  match s.cardByUid uid with
  | none => (s, .refused .notFound)
  | some (slot, c) =>
    if s.engine.cardHasTab slot then (s, .outcome .tabOpen)
    else (s.removeCard slot c, .outcome .accepted)

/-! ## Accounts (R14, R15, R16, R107) -/

/-- A credit limit of 0 to 10,000,000 cents (R14). -/
def limitOf (limit : Int) : Option Nat :=
  if 0 ≤ limit ∧ limit ≤ 10000000 then some limit.toNat else none

/-- An ACCOUNT.PUT of kind NEW in range (R14). -/
def State.putNewAccount (s : State) (number limit : Nat) (status : AccountStatus) : State × Answer :=
  match s.accountByNumber number with
  | some _ => (s, .refused .exists_)
  | none =>
    match Table.freeSlot accountSlots s.store.accounts with
    | none => (s, .refused .full)
    | some slot => (s.setAccount slot ⟨number, limit, status, 0, 0, 0, none⟩, .accountPut slot)

/-- An ACCOUNT.PUT of kind CHANGE in range (R14). -/
def State.putChangedAccount (s : State) (number limit : Nat) (status : AccountStatus) :
    State × Answer :=
  match s.accountByNumber number with
  | none => (s, .refused .notFound)
  | some (slot, a) => (s.setAccount slot { a with limit := limit, status := status }, .accountPut slot)

/-- ACCOUNT.PUT (R14). -/
def blockAccountPut (q : AccountPutReq) (s : State) : State × Answer :=
  match isNewOf q.kind, limitOf q.limit, accountStatusOf q.status with
  | some true, some limit, some status => s.putNewAccount q.account limit status
  | some false, some limit, some status => s.putChangedAccount q.account limit status
  | _, _, _ => (s, .refused .range)

/-- The number of cards that name an account (R15, R16). -/
def State.cardsNaming (s : State) (number : Nat) : Nat :=
  (s.store.cards.filter fun e => e.2.config.account == number).length

/-- ACCOUNT.READ (R15). -/
def blockAccountRead (number : Nat) (s : State) : State × Answer :=
  match s.accountByNumber number with
  | none => (s, .refused .notFound)
  | some (slot, a) => (s, .accountRead slot a (s.cardsNaming number) a.available)

/-- ACCOUNT.CREDIT (R107). -/
def blockAccountCredit (q : AccountCreditReq) (s : State) : State × Answer :=
  if 1 ≤ q.amount ∧ q.amount ≤ 10000000 then
    match s.accountByNumber q.account with
    | none => (s, .refused .notFound)
    | some (slot, a) =>
      let balance := lowerBalance a.balance q.amount.toNat
      (s.setAccount slot { a with balance := balance }, .credited (a.balance - balance).toNat balance)
  else (s, .refused .range)

/-- ACCOUNT.RETIRE (R16, R98). DESIGN CHOICE (log 33): an account that a card and a CLOSING tab both name is
refused with the STATE of R16 or the TAB_OPEN of R98, which a free value settles. Every other account is judged
in the order of R16, and that of a CLOSING tab no card names has the TAB_OPEN of both rules. -/
def blockAccountRetire (number : Nat) (s : State) : State × Answer :=
  match s.accountByNumber number with
  | none => (s, .refused .notFound)
  | some (slot, a) =>
    if s.cardsNaming number ≠ 0 then
      if s.engine.accountCloses slot && Config.closingTabAnswersFirst then (s, .outcome .tabOpen)
      else (s, .refused .state)
    else if s.engine.accountCloses slot ∨ a.held ≠ 0 ∨ a.openTabs ≠ 0 then (s, .outcome .tabOpen)
    else ({ s with store := { s.store with accounts := Table.erase s.store.accounts slot } },
      .outcome .accepted)

/-! ## Doors (R18, R19) -/

/-- Replaces a door's configuration record. -/
def State.setDoorConfig (s : State) (door : Nat) (g : DoorConfig) : State :=
  { s with store := { s.store with doors := Table.set DoorConfig.cold s.store.doors door g } }

/-- The put is refused for the door's use (R18). -/
def State.doorInUse (s : State) (door : Nat) (g : DoorConfig) : Bool :=
  let channelPending := decide ((s.channel door).state = .pending)
  (!g.configured &&
      (s.store.cards.any (fun e => e.2.config.cabins.contains door) || channelPending)) ||
    (decide ((s.doorConfig door).bus ≠ g.bus) && channelPending)

/-- What the store hands to the door units after a put in SERVICE or SECURE: a door newly configured or
made unconfigured starts afresh (R18). -/
def State.handDoor (s : State) (door : Nat) (was now : Bool) : State :=
  match was, now with
  | false, true => s.setChannel door Channel.start
  | true, false => (s.setChannel door Channel.start).setReader door Reader.start
  | _, _ => s

/-- DOOR.PUT (R18). -/
def blockDoorPut (q : DoorPutReq) (s : State) : State × Answer :=
  match flagOf q.configured with
  | none => (s, .refused .range)
  | some configured =>
    if doorCount ≤ q.door ∨ 65535 < q.label ∨ busCount ≤ q.bus then (s, .refused .range)
    else
      let g : DoorConfig := ⟨configured, q.label, q.bus⟩
      if s.loaded then
        if s.doorInUse q.door g then (s, .refused .state)
        else ((s.setDoorConfig q.door g).handDoor q.door (s.doorConfig q.door).configured configured,
          .outcome .accepted)
      else (s.setDoorConfig q.door g, .outcome .accepted)

/-- The reader of a door is blocked: run-seconds are less than its blocked-until time (R43). -/
def State.readerBlocked (s : State) (door : Nat) : Bool :=
  match (s.reader door).blockedUntil with
  | some t => decide (s.clock.runSeconds < t)
  | none => false

/-- DOOR.READ (R19). -/
def blockDoorRead (door : Nat) (s : State) : State × Answer :=
  if door < doorCount then
    let c := s.channel door
    (s, .doorRead ⟨s.doorConfig door, c.state, c.dnd, c.relatchOwed, c.pollOutstanding, c.missCount,
      (s.reader door).history.length, s.readerBlocked door⟩)
  else (s, .refused .range)

/-! ## Rate tables (R20, R21) -/

/-- CATEGORY.PUT (R20). -/
def blockCategoryPut (q : CategoryPutReq) (s : State) : State × Answer :=
  match flagOf q.alcohol, flagOf q.taxable with
  | some alcohol, some taxable =>
    if q.category ≤ 15 ∧ q.gratuity ≤ 2500 then
      ({ s with store := { s.store with
          categories := Table.set ⟨false, false, 0⟩ s.store.categories q.category
            ⟨alcohol, taxable, q.gratuity⟩ } },
        .outcome .accepted)
    else (s, .refused .range)
  | _, _ => (s, .refused .range)

/-- REGION.PUT (R20). -/
def blockRegionPut (q : RegionPutReq) (s : State) : State × Answer :=
  if q.region ≤ 7 ∧ q.rate ≤ 3000 then
    ({ s with store := { s.store with regions := Table.set 0 s.store.regions q.region q.rate } },
      .outcome .accepted)
  else (s, .refused .range)

/-- A card of the tier has its allowance used brought down to a lowered allowance (R21). -/
def Card.trimmed (tier allowance : Nat) (c : Card) : Card :=
  if c.config.tier = tier then { c with allowanceUsed := min c.allowanceUsed allowance } else c

/-- TIER.PUT (R21). -/
def blockTierPut (q : TierPutReq) (s : State) : State × Answer :=
  if 1 ≤ q.tier ∧ q.tier ≤ 3 ∧ q.allowance ≤ 31 ∧ q.coverCap ≤ 99999 then
    ({ s with store := { s.store with
        tiers := Table.set ⟨0#16, 0, 0⟩ s.store.tiers q.tier ⟨q.covered, q.allowance, q.coverCap⟩
        cards := if q.allowance < (s.tier q.tier).allowance then
            Table.mapEntries (Card.trimmed q.tier q.allowance) s.store.cards
          else s.store.cards } },
      .outcome .accepted)
  else (s, .refused .range)

/-! ## Settings (R23, R24) -/

/-- What follows a put at once: an audit interval set from 0 makes the next step one interval after the put,
and any other change leaves the step that is scheduled its time (R24, R63, log 7); a bus budget count or
window has the buses considered (R60, log 8). -/
def State.afterSetting (s : State) (name : SettingName) (old : Nat) : State :=
  match name with
  | .auditInterval =>
    if s.loaded && decide (old = 0) && decide (s.store.settings.auditInterval ≠ 0) then s.auditSchedule
    else s
  | .busBudget => s.considerAll
  | .busWindow => s.considerAll
  | _ => s

/-- SETTING.PUT (R23). -/
def blockSettingPut (q : SettingPutReq) (s : State) : State × Answer :=
  match settingOf q.id q.lane with
  | .error st => (s, .refused st)
  | .ok name =>
    let v := s.store.settings.write name q.value
    ((s.setSettings v).afterSetting name (s.store.settings.read name), .setting (v.read name))

/-- SETTING.READ (R23). -/
def blockSettingRead (q : SettingReadReq) (s : State) : State × Answer :=
  match settingOf q.id q.lane with
  | .error st => (s, .refused st)
  | .ok name => (s, .setting (s.store.settings.read name))

/-! ## Meanings -/

/-- LOAD_BEGIN. -/
def execLoadBegin (tag : Byte) (q : Body Nat) (s : State) : Host.Outcome State Fault Refusal :=
  serve (.loadBegin tag q) (judged .whenUnloaded q blockLoadBegin) s

/-- LOAD_END. -/
def execLoadEnd (tag : Byte) (q : Body Unit) (span : Span) (s : State) :
    Host.Outcome State Fault Refusal :=
  serveFor span (.loadEnd tag q span) (judged .whenLoading q blockLoadEnd) s

/-- CARD_PUT. -/
def execCardPut (tag : Byte) (q : Body CardPutReq) (s : State) : Host.Outcome State Fault Refusal :=
  serve (.cardPut tag q) (judged .fromLoading q blockCardPut) s

/-- CARD_READ. -/
def execCardRead (tag : Byte) (q : Body CardReadReq) (s : State) : Host.Outcome State Fault Refusal :=
  serve (.cardRead tag q) (judged .always q blockCardRead) s

/-- CARD_REISSUE. -/
def execCardReissue (tag : Byte) (q : Body Nat) (s : State) : Host.Outcome State Fault Refusal :=
  serve (.cardReissue tag q) (judged .fromLoading q blockCardReissue) s

/-- CARD_RETIRE. -/
def execCardRetire (tag : Byte) (q : Body Nat) (s : State) : Host.Outcome State Fault Refusal :=
  serve (.cardRetire tag q) (judged .fromLoading q blockCardRetire) s

/-- ACCOUNT_PUT. -/
def execAccountPut (tag : Byte) (q : Body AccountPutReq) (s : State) :
    Host.Outcome State Fault Refusal :=
  serve (.accountPut tag q) (judged .fromLoading q blockAccountPut) s

/-- ACCOUNT_READ. -/
def execAccountRead (tag : Byte) (q : Body Nat) (s : State) : Host.Outcome State Fault Refusal :=
  serve (.accountRead tag q) (judged .always q blockAccountRead) s

/-- ACCOUNT_CREDIT. -/
def execAccountCredit (tag : Byte) (q : Body AccountCreditReq) (s : State) :
    Host.Outcome State Fault Refusal :=
  serve (.accountCredit tag q) (judged .fromLoading q blockAccountCredit) s

/-- ACCOUNT_RETIRE. -/
def execAccountRetire (tag : Byte) (q : Body Nat) (s : State) : Host.Outcome State Fault Refusal :=
  serve (.accountRetire tag q) (judged .fromLoading q blockAccountRetire) s

/-- DOOR_PUT. -/
def execDoorPut (tag : Byte) (q : Body DoorPutReq) (s : State) : Host.Outcome State Fault Refusal :=
  serve (.doorPut tag q) (judged .fromLoading q blockDoorPut) s

/-- DOOR_READ. -/
def execDoorRead (tag : Byte) (q : Body Nat) (s : State) : Host.Outcome State Fault Refusal :=
  serve (.doorRead tag q) (judged .always q blockDoorRead) s

/-- CATEGORY_PUT. -/
def execCategoryPut (tag : Byte) (q : Body CategoryPutReq) (s : State) :
    Host.Outcome State Fault Refusal :=
  serve (.categoryPut tag q) (judged .always q blockCategoryPut) s

/-- REGION_PUT. -/
def execRegionPut (tag : Byte) (q : Body RegionPutReq) (s : State) : Host.Outcome State Fault Refusal :=
  serve (.regionPut tag q) (judged .always q blockRegionPut) s

/-- TIER_PUT. -/
def execTierPut (tag : Byte) (q : Body TierPutReq) (span : Span) (s : State) :
    Host.Outcome State Fault Refusal :=
  serveFor span (.tierPut tag q span) (judged .always q blockTierPut) s

/-- SETTING_PUT. -/
def execSettingPut (tag : Byte) (q : Body SettingPutReq) (s : State) :
    Host.Outcome State Fault Refusal :=
  serve (.settingPut tag q) (judged .always q blockSettingPut) s

/-- SETTING_READ. -/
def execSettingRead (tag : Byte) (q : Body SettingReadReq) (s : State) :
    Host.Outcome State Fault Refusal :=
  serve (.settingRead tag q) (judged .always q blockSettingRead) s

end Sys2Proof.Machine
end

