-- ==== Sys2Proof/Machine/Wire.lean ====
section
/-! DEFINITION. The bytes of replies: codes (Table 30), records (Table 33) and reply bodies, each field in
the order its owning rule lists it and encoded by R170 and R171. Where R170 and Table 30 leave a field's
form open, log 10, log 13 or log 25 says what stands here. -/

namespace Sys2Proof.Machine

/-! ## Fields (R170) -/

/-- A one-byte code. -/
def byte (n : Nat) : List Byte := [BitVec.ofNat 8 n]

/-- A flag: 1 for YES or ON (R170), and for SET; DESIGN CHOICE (log 13): R170 codes SET and CLEAR nowhere. -/
def flagByte (b : Bool) : List Byte := byte (if b then 1 else 0)

/-- A two's-complement number of `width` bytes. -/
def intToBytes (width : Nat) (i : Int) : List Byte :=
  natToBytes width (i % ((256 ^ width : Nat) : Int)).toNat

/-- Money: 4 bytes, signed. -/
def money (i : Int) : List Byte := intToBytes 4 i

/-- An optional number: a presence byte, then `width` bytes, 0 when absent. -/
def optBytes (width : Nat) : Option Nat → List Byte
  | none => byte 0 ++ natToBytes width 0
  | some n => byte 1 ++ natToBytes width n

/-- An optional ship time: presence byte and 3 bytes. -/
def shipTimeBytes (t : Option Nat) : List Byte := optBytes 3 t

/-- An optional pair of 2-byte numbers: section or hours. -/
def pairBytes : Option Span2 → List Byte
  | none => byte 0 ++ natToBytes 4 0
  | some p => byte 1 ++ natToBytes 2 p.first ++ natToBytes 2 p.second

/-! ## Codes (Table 30) -/

def Status.code : Status → Nat
  | .ok => 0
  | .frame => 1
  | .unknown => 2
  | .length => 3
  | .range => 4
  | .notReady => 5
  | .state => 6
  | .full => 7
  | .notFound => 8
  | .exists_ => 9

def JobOutcome.code : JobOutcome → Nat
  | .grantQueued => 0
  | .grantOpen => 1
  | .grantPending => 2
  | .grant => 3
  | .unknownDoor => 4
  | .blocked => 5
  | .unknownCard => 6
  | .superseded => 7
  | .secured => 8
  | .notBoarded => 9
  | .missed => 10
  | .expired => 11
  | .notThisDoor => 12
  | .hours => 13
  | .privacy => 14
  | .busFull => 15
  | .presence => 16
  | .noCharge => 17
  | .frozen => 18
  | .age => 19
  | .cap => 20
  | .limit => 21
  | .postFull => 22
  | .tabPool => 23
  | .tabLimit => 24
  | .notOwner => 25
  | .closed => 26
  | .delivered => 27
  | .laneShut => 28
  | .atSea => 29
  | .escort => 30
  | .boardRepeat => 31
  | .leaveRepeat => 32
  | .tabOpen => 33
  | .accepted => 34

def CardClass.code : CardClass → Nat
  | .guest => 0
  | .child => 1
  | .crew => 2
  | .security => 3

def Presence.code : Presence → Nat
  | .expected => 0
  | .aboard => 1
  | .ashore => 2
  | .unverified => 3
  | .missed => 4

def ChannelState.code : ChannelState → Nat
  | .unknown => 0
  | .secured => 1
  | .pending => 2
  | .released .. => 3
  | .opened _ => 4
  | .ajar => 5
  | .relatching _ => 6
  | .fault => 7

def OrderKind.code : OrderKind → Nat
  | .strike => 0
  | .relatch => 1
  | .poll => 2

def OpState.code : OpState → Nat
  | .unloaded => 0
  | .loading => 1
  | .service => 2
  | .secure => 3

def Mode.code : Mode → Nat
  | .service => 0
  | .secure => 1

def Port.code : Port → Nat
  | .atSea => 0
  | .inPort => 1

def AccountStatus.code : AccountStatus → Nat
  | .opened => 0
  | .frozen => 1

def PostingKind.code : PostingKind → Nat
  | .charge => 0
  | .tabSettle _ => 1

def CloseReason.code : CloseReason → Nat
  | .closed => 1
  | .expired => 2
  | .departed => 3

/-- The reason byte of a posting: none for a CHARGE record. -/
def PostingKind.reasonCode : PostingKind → Nat
  | .charge => 0
  | .tabSettle r => r.code

def Direction.code : Direction → Nat
  | .inward => 0
  | .outward => 1

def HoldReason.code : HoldReason → Nat
  | .brace => 0
  | .close => 1
  | .sail => 2
  | .secure => 3

def LoadFailure.code : LoadFailure → Nat
  | .noAccount => 1
  | .noDoor => 2
  | .section_ => 3

def DoorFault.code : DoorFault → Nat
  | .strikeConfirm => 0
  | .relatchConfirm => 1
  | .poll => 2

def WakeResult.code : WakeResult → Nat
  | .cold => 0
  | .retained => 1
  | .checkFailed => 2

/-! ## Records (Table 33) -/

/-- The optional departure record: 11 bytes. -/
def departureBytes : Option Departure → List Byte
  | none => byte 0 ++ natToBytes 10 0
  | some d => byte 1 ++ natToBytes 4 d.runSeconds ++ shipTimeBytes d.shipTime ++ optBytes 1 d.lane

/-- The cabins: a count byte and room for two door ids. -/
def cabinsBytes (cs : List Nat) : List Byte :=
  byte cs.length ++ natToBytes 2 (cs.getD 0 0) ++ natToBytes 2 (cs.getD 1 0)

/-- The card record of CARD.READ: 60 bytes. -/
def cardBytes (slot : Nat) (c : Card) (accountSlot : Option Nat) : List Byte :=
  natToBytes 2 slot ++ natToBytes 7 c.uid ++ byte c.issue ++ byte c.config.cls.code ++
  natToBytes 4 c.config.account ++ optBytes 2 accountSlot ++ cabinsBytes c.config.cabins ++
  pairBytes c.config.section_ ++ pairBytes c.config.hours ++
  natToBytes 2 c.config.firstDay ++ natToBytes 2 c.config.lastDay ++ flagByte c.config.privilege ++
  byte c.config.tier ++ optBytes 3 c.config.dailyCap ++ byte c.allowanceUsed ++
  natToBytes 4 c.daySpent ++ byte c.presence.code ++ departureBytes c.departure

/-- The account record of ACCOUNT.READ: 31 bytes. -/
def accountBytes (slot : Nat) (a : Account) (cards available : Nat) : List Byte :=
  natToBytes 2 slot ++ natToBytes 4 a.number ++ money (a.limit : Int) ++ byte a.status.code ++
  money a.balance ++ money (a.held : Int) ++ byte a.openTabs ++ optBytes 4 a.lastAdultDeparture ++
  natToBytes 2 cards ++ money (available : Int)

/-- Gross, covered, covered units, gratuity, tax and total. -/
def sumsBytes (x : Sums) : List Byte :=
  money x.gross ++ money x.covered ++ natToBytes 2 x.units ++ money x.gratuity ++ money x.tax ++
  money x.total

/-- The posting record: 50 bytes. -/
def postingBytes (p : Posting) : List Byte :=
  natToBytes 4 p.number ++ byte p.kind.code ++ byte p.kind.reasonCode ++ byte p.terminal ++
  natToBytes 7 p.uid ++ byte p.issue ++ natToBytes 4 p.account ++ natToBytes 2 p.shipDay ++
  shipTimeBytes p.shipTime ++ byte p.lineCount ++ sumsBytes p.sums ++ flagByte p.delivered ++
  flagByte p.voided

/-- The order record: 7 bytes. -/
def orderBytes (o : Order) : List Byte :=
  byte o.kind.code ++ natToBytes 2 o.door ++ natToBytes 4 o.placedAt

/-- Code of a notice's kind. -/
def NoticeBody.kindCode : NoticeBody → Nat
  | .presence .. => 0
  | .presenceMismatch .. => 1
  | .supersededCard .. => 2
  | .readerBlocked .. => 3
  | .override .. => 4
  | .doorAjar .. => 5
  | .doorFault .. => 6
  | .postingsHigh _ => 7
  | .tabExpired .. => 8
  | .crowding .. => 9
  | .tailgate .. => 10
  | .laneHeld .. => 11
  | .missedAtSail .. => 12
  | .wakeResult _ => 13

/-- A notice's subject: its kind (none, door, lane, card, tab) and its number in the last bytes of 7. -/
def NoticeBody.subject : NoticeBody → Nat × Nat
  | .presence uid _ => (3, uid)
  | .presenceMismatch uid _ => (3, uid)
  | .supersededCard uid _ => (3, uid)
  | .readerBlocked door _ => (1, door)
  | .override uid _ => (3, uid)
  | .doorAjar door _ => (1, door)
  | .doorFault door _ => (1, door)
  | .postingsHigh _ => (0, 0)
  | .tabExpired slot _ => (4, slot)
  | .crowding lane _ => (2, lane)
  | .tailgate lane _ _ => (2, lane)
  | .laneHeld lane _ => (2, lane)
  | .missedAtSail .. => (0, 0)
  | .wakeResult _ => (0, 0)

/-- The 8 bytes of a notice's value: a number in the last bytes, but for TAILGATE and MISSED_AT_SAIL. -/
def NoticeBody.valueBytes : NoticeBody → List Byte
  | .presence _ place => natToBytes 8 place
  | .presenceMismatch _ lane => natToBytes 8 lane
  | .supersededCard _ issue => natToBytes 8 issue
  | .readerBlocked _ seconds => natToBytes 8 seconds
  | .override _ door => natToBytes 8 door
  | .doorAjar _ seconds => natToBytes 8 seconds
  | .doorFault _ v => natToBytes 8 v.code
  | .postingsHigh n => natToBytes 8 n
  | .tabExpired _ total => natToBytes 8 total
  | .crowding _ n => natToBytes 8 n
  | .tailgate _ dir d => byte dir.code ++ natToBytes 4 0 ++ intToBytes 3 d
  | .laneHeld _ r => natToBytes 8 r.code
  | .missedAtSail g c w x => natToBytes 2 g ++ natToBytes 2 c ++ natToBytes 2 w ++ natToBytes 2 x
  | .wakeResult v => natToBytes 8 v.code

/-- The notice record: 25 bytes. -/
def noticeBytes (n : Notice) : List Byte :=
  byte n.body.kindCode ++ natToBytes 4 n.runSeconds ++ shipTimeBytes n.shipTime ++
  byte n.body.subject.1 ++ natToBytes 7 n.body.subject.2 ++ n.body.valueBytes

/-- The five lane counters, 3 bytes each. -/
def countersBytes (c : LaneCounters) : List Byte :=
  natToBytes 3 c.inbound ++ natToBytes 3 c.outbound ++ natToBytes 3 c.ambiguous ++
  natToBytes 3 c.scansIn ++ natToBytes 3 c.scansOut

/-- The lane hold record: 25 bytes, the first its presence. -/
def holdBytes : Option HoldRecord → List Byte
  | none => byte 0 ++ natToBytes 24 0
  | some h => byte 1 ++ countersBytes h.counters ++ shipTimeBytes h.openTime ++
      shipTimeBytes h.closeTime ++ byte h.reason.code

/-- The all-aboard entry: 18 bytes. -/
def ashoreBytes (e : AshoreEntry) : List Byte :=
  natToBytes 7 e.uid ++ natToBytes 4 e.account ++ byte e.cls.code ++ shipTimeBytes e.shipTime ++
  optBytes 1 e.lane

/-- Expected, aboard, ashore and missed of a class, 2 bytes each. -/
def columnBytes (n : ColumnCounts) : List Byte :=
  natToBytes 2 n.expected ++ natToBytes 2 n.aboard ++ natToBytes 2 n.ashore ++ natToBytes 2 n.missed

/-- The sixteen presence counts in class order. -/
def countsBytes (p : PresenceCounts) : List Byte :=
  columnBytes p.guest ++ columnBytes p.child ++ columnBytes p.crew ++ columnBytes p.security

/-- The card fields of a door or gangway reply, each optional (log 10). -/
def cardViewBytes (v : Option CardView) : List Byte :=
  optBytes 2 (v.map CardView.slot) ++ optBytes 1 (v.map fun c => c.cls.code) ++
  optBytes 1 (v.map fun c => c.presence.code)

/-- The results of the lines: covered units and total of each, 6 bytes a line. DESIGN CHOICE (log 35): no count
byte stands before them and no room is kept for lines that the request did not carry. -/
def linesBytes (ls : List LineView) : List Byte :=
  ls.flatMap fun l => natToBytes 2 l.units ++ money l.total

/-- A field that a reply carries in some outcomes or cases only. DESIGN CHOICE (log 10): it has no byte in the
others. -/
def whenSome {α : Type} (f : α → List Byte) : Option α → List Byte
  | none => []
  | some x => f x

/-- A lane's gate and brace level in a SUMMARY reply. -/
def gateBraceBytes (p : Bool × Bool) : List Byte := [Config.gateCode p.1, Config.braceCode p.2]

/-- What SUMMARY returns (R163). -/
def summaryBytes (v : SummaryView) : List Byte :=
  byte v.opState.code ++ byte v.mode.code ++ byte v.port.code ++ byte v.region ++
  natToBytes 2 v.shipDay ++ shipTimeBytes v.shipTime ++ countsBytes v.counts ++
  natToBytes 2 v.orderDepth ++ natToBytes 2 v.noticeDepth ++ natToBytes 2 v.pendingPostings ++
  natToBytes 2 v.deliveredPostings ++ natToBytes 2 v.waitingDepth ++ flagByte v.lost ++
  natToBytes 2 v.openTabs ++ gateBraceBytes v.lanes.l0 ++ gateBraceBytes v.lanes.l1 ++
  gateBraceBytes v.lanes.l2 ++ gateBraceBytes v.lanes.l3

/-- What DOOR.READ returns (R19). -/
def doorBytes (v : DoorView) : List Byte :=
  flagByte v.config.configured ++ natToBytes 2 v.config.label ++ byte v.config.bus ++
  byte v.state.code ++ flagByte v.dnd ++ flagByte v.relatchOwed ++ flagByte v.pollOutstanding ++
  natToBytes 2 v.missCount ++ natToBytes 2 v.refusals ++ flagByte v.blocked

/-- The code of a tab slot's state. -/
def tabStateCode : Option TabView → Nat
  | none => 0
  | some t => if t.reason.isSome then 2 else 1

/-- What TAB.READ returns of a tab (R89, R90). -/
def tabBytes (t : TabView) : List Byte :=
  byte t.terminal ++ natToBytes 7 t.uid ++ natToBytes 4 t.account ++ money t.hold ++ sumsBytes t.sums ++
  byte t.lineCount ++ natToBytes 4 t.lastActivity ++ whenSome (natToBytes 4) t.idleDeadline ++
  whenSome (fun r => byte (CloseReason.code r)) t.reason ++ whenSome (natToBytes 4) t.secondsLeft ++
  whenSome (natToBytes 2) t.place

/-- What LANE.READ returns (R124). DESIGN CHOICE (log 35): R170 sends a setting value in 4 bytes and an enumerated
value in 1, and the lane role in force is both; it is sent in 1 byte, and the flow window and the flow limit in
4 each. -/
def laneBytes (v : LaneView) : List Byte :=
  flagByte v.softGate ++ [Config.braceCode v.brace, Config.gateCode v.gate, Config.beamCode v.s,
    Config.beamCode v.i, Config.decoderCode v.decoder] ++ flagByte v.mark ++ flagByte v.settling ++
  countersBytes v.counters ++ natToBytes 4 v.openTime.runSeconds ++ shipTimeBytes v.openTime.shipTime ++
  whenSome (natToBytes 4) v.effectiveFor ++
  whenSome (fun x => natToBytes 2 x.1 ++ natToBytes 4 x.2.1 ++ flagByte x.2.2) v.flow ++
  intToBytes 3 v.differenceIn ++ intToBytes 3 v.differenceOut ++ flagByte v.armedIn ++
  flagByte v.armedOut ++ byte v.role.code ++ natToBytes 4 v.flowWindow ++ natToBytes 4 v.flowLimit ++
  holdBytes v.hold

/-! ## Reply bodies (R171) -/

/-- Status OK followed by the fields of a reply without an outcome. -/
def okBytes (fields : List Byte) : List Byte := byte Status.ok.code ++ fields

/-- Status OK and an outcome, followed by the fields of a job reply. -/
def jobBytes (o : JobOutcome) (fields : List Byte) : List Byte :=
  byte Status.ok.code ++ byte o.code ++ fields

/-- The body of a reply. DESIGN CHOICE (log 10): a failing LOAD.END reply gives the card slot and then the
reason, as R4 lists them, though Table 30 makes the reason the load check result. DESIGN CHOICE (log 25): the
daily cap of a CAP reply (R83) is money of R170, 4 bytes; Tables 31 and 33 give the cap of a request and of a
card record as a presence byte and 3 bytes. DESIGN CHOICE (log 35): POST.RELEASE gives the PENDING records left
and then the DELIVERED ones; the payable sum stands after the total in a CHARGE reply, and in a TAB.ADD reply it
is that of the lines added and stands after the working allowance. DESIGN CHOICE (log 35): the posting number of an
accepted TAB.CLOSE, or none (R95), is an optional field of R170, a presence byte and 4 bytes, which stand as 0 when
the total was 0. -/
def Answer.bytes : Answer → List Byte
  | .refused st => byte st.code
  | .outcome o => jobBytes o []
  | .summary v => okBytes (summaryBytes v)
  | .notices ns left lost =>
    okBytes (byte ns.length ++ byte left ++ flagByte lost ++ ns.flatMap noticeBytes)
  | .orders os left => okBytes (byte os.length ++ byte left ++ os.flatMap orderBytes)
  | .loadBegun day => okBytes (natToBytes 2 day)
  | .loadPassed n => okBytes (byte 0 ++ natToBytes 2 n)
  | .loadFailed slot r => okBytes (natToBytes 2 slot ++ byte r.code)
  | .cardPut slot issue p => jobBytes .accepted (natToBytes 2 slot ++ byte issue ++ byte p.code)
  | .cardRead slot c a => okBytes (cardBytes slot c a)
  | .issueNow n => okBytes (byte n)
  | .accountPut slot => jobBytes .accepted (natToBytes 2 slot)
  | .accountRead slot a cards available => okBytes (accountBytes slot a cards available)
  | .credited applied balance => jobBytes .accepted (money applied ++ money balance)
  | .doorRead v => okBytes (doorBytes v)
  | .setting v => okBytes (natToBytes 4 v)
  | .doorCard o ch card pos =>
    jobBytes o (byte ch.code ++ cardViewBytes card ++ whenSome (natToBytes 2) pos)
  | .doorReport ch owed => jobBytes .accepted (byte ch.code ++ flagByte owed)
  | .charged n x ls allowance available =>
    jobBytes .accepted (natToBytes 4 n ++ sumsBytes x ++ money (x.gross - x.covered) ++ linesBytes ls ++
      natToBytes 2 allowance ++ money available)
  | .overCap total spent cap => jobBytes .cap (money total ++ money spent ++ money cap)
  | .overLimit total available => jobBytes .limit (money total ++ money available)
  | .postingsFull total => jobBytes .postFull (money total)
  | .alcoholLine p => jobBytes .age (natToBytes 2 p)
  | .tabOpened slot gen hold available =>
    jobBytes .accepted (byte slot ++ byte gen ++ money hold ++ money available)
  | .tabOpenLimit hold available => jobBytes .limit (money hold ++ money available)
  | .tabAdded x ls allowance running hold available =>
    jobBytes .accepted (linesBytes ls ++ natToBytes 2 allowance ++ money (x.gross - x.covered) ++
      sumsBytes running ++ money hold ++ money available)
  | .tabAddLimit total increase available =>
    jobBytes .limit (money total ++ money increase ++ money available)
  | .tabClosed n x => jobBytes .accepted (optBytes 4 n ++ sumsBytes x)
  | .tabRead gen t => okBytes (byte (tabStateCode t) ++ byte gen ++ whenSome tabBytes t)
  | .postings ps pending delivered =>
    okBytes (byte ps.length ++ natToBytes 2 pending ++ natToBytes 2 delivered ++ ps.flatMap postingBytes)
  | .released removed pending delivered settled =>
    okBytes (natToBytes 2 removed ++ natToBytes 2 pending ++ natToBytes 2 delivered ++
      natToBytes 2 settled)
  | .rewound n => okBytes (natToBytes 2 n)
  | .voided taken balance spent allowance =>
    jobBytes .accepted (money taken ++ money balance ++ money spent ++ natToBytes 2 allowance)
  | .laneOpened soft brace gate =>
    jobBytes .accepted (flagByte soft ++ [Config.braceCode brace, Config.gateCode gate])
  | .laneClosed h => jobBytes .accepted (whenSome (fun r => holdBytes (some r)) h)
  | .laneRead v => okBytes (laneBytes v)
  | .scanned o card dir tabs =>
    jobBytes o (cardViewBytes (some card) ++ byte dir.code ++
      whenSome (fun x => natToBytes 2 x.1 ++ natToBytes 2 x.2) tabs)
  | .scanRefused o card => jobBytes o (cardViewBytes card)
  | .escort card age => jobBytes .escort (cardViewBytes (some card) ++ optBytes 4 age)
  | .presenceSet slot before after settled waiting =>
    jobBytes .accepted (natToBytes 2 slot ++ byte before.code ++ byte after.code ++
      natToBytes 2 settled ++ natToBytes 2 waiting)
  | .allAboard counts length start es =>
    okBytes (countsBytes counts ++ natToBytes 2 length ++ natToBytes 2 start ++ byte es.length ++
      es.flatMap ashoreBytes)
  | .shipTime t => okBytes (natToBytes 3 t)
  | .shipDay d => okBytes (natToBytes 2 d)
  | .port c r => okBytes (byte c.code ++ byte r)
  | .sailed g c w x lanes =>
    okBytes (natToBytes 2 g ++ natToBytes 2 c ++ natToBytes 2 w ++ natToBytes 2 x ++ natToBytes 2 lanes)
  | .lockdown cancelled placed owed lanes =>
    jobBytes .accepted (natToBytes 2 cancelled ++ natToBytes 2 placed ++ natToBytes 2 owed ++
      natToBytes 2 lanes)
  | .done => okBytes []

/-- A reply as it is clocked out, from its sync byte to its CRC (Table 29). -/
def Reply.bytes (r : Reply) : List Byte := frameBytes r.code r.tag r.answer.bytes

/-- The byte on SDO when there is nothing to send (R153). -/
def idleByte : Byte := 0x00#8

/-- The bytes of the reply sent in a transfer: the one that stood at the head when SCS was asserted, or
none (R153). -/
def Transfer.bytes (t : Transfer) : List Byte := (t.sending.map Reply.bytes).getD []

/-- The first `n` bytes that the target sends on SDO in the transfer under way: the reply, then idle bytes
(R153). Outside a transfer it sends none. -/
def State.sdo (s : State) (n : Nat) : List Byte :=
  match s.link.transfer with
  | some t => t.bytes.take n ++ List.replicate (n - t.bytes.length) idleByte
  | none => []

end Sys2Proof.Machine
end

