-- ==== Sys2Proof/Machine/LinkCommands.lean ====
section
/-! DEFINITION. The events and requests of the Message Link Unit: transfers and frames (R153 to R157),
frames that are not executed (R156), the end of a request that takes time, NOTICE.FETCH (R162) and SUMMARY
(R163). -/

namespace Sys2Proof.Machine

/-! ## Transfers (R153, R155, R157) -/

/-- The reply at the head of the reply queue. -/
def Link.headReply (l : Link) : Option Reply :=
  match l.places with
  | .reply r :: _ => some r
  | _ => none

/-- The transfer that begins when SCS is asserted: the reply that stands at the head then is the one sent
(R153, R157). -/
def State.newTransfer (s : State) : Transfer :=
  ⟨if s.takesFrames then s.link.headReply else none, false⟩

/-- The transfer under way; a command that needs one begins it (log 6). -/
def State.transfer (s : State) : Transfer := s.link.transfer.getD s.newTransfer

/-- SCS is asserted. -/
def State.beginTransfer (s : State) : State := s.setLink { s.link with transfer := some s.transfer }

/-- A whole frame has been received in the transfer and is offered to the reply queue (R154, R155). -/
def State.acceptFrame (s : State) (f : Frame) : State :=
  s.setLink { s.link.offer f.request with transfer := some { s.transfer with framed := true } }

/-- A whole frame has been received in the transfer and is discarded (R153, R165, R166). -/
def State.discardFrame (s : State) : State :=
  s.setLink { s.link with transfer := some { s.transfer with framed := true } }

/-- The reception of a frame (R153): only the first frame of a transfer counts. It is taken in operation, when
its reception began there, and otherwise discarded (R165, R166). Bytes without a whole frame change
nothing. -/
def State.receive (s : State) (began : Reception) (sdi : List Byte) : State :=
  match receiveFrame sdi with
  | none => s
  | some f =>
    if s.transfer.framed then s
    else if s.takesFrames && decide (began = .inOperation) then s.acceptFrame f
    else s.discardFrame

/-- The head reply has been clocked out in full. -/
def Transfer.readsOut (t : Transfer) (clocked : Nat) (head : Option Reply) : Bool :=
  match t.sending with
  | some r => decide (r.bytes.length ≤ clocked) && decide (head = some r)
  | none => false

/-- SCS is deasserted (R157). -/
def State.endTransfer (s : State) (clocked : Nat) : State :=
  let l := { s.link with transfer := none }
  s.setLink (if s.transfer.readsOut clocked s.link.headReply then l.readHead else l)

/-! ## Frames answered by the link (R156) -/

/-- A frame marked BAD_CRC or TOO_LONG (R156 step 1). -/
def answerFrame (s : State) : State × Answer := (s, .refused .frame)

/-- A code that names no message (R156 step 2). -/
def answerUnknown (s : State) : State × Answer := (s, .refused .unknown)

/-! ## Requests that take time (R156) -/

/-- What a request whose execution takes time does when it ends. -/
def endOf : Instr → Option (State → State × Answer)
  | .loadEnd _ q _ => some (judged .whenLoading q blockLoadEnd)
  | .tierPut _ q _ => some (judged .always q blockTierPut)
  | .dayRoll _ q _ => some (judged .whenLoaded q blockDayRoll)
  | .sail _ q _ => some (judged .whenLoaded q blockSail)
  | .modeSetSecure _ _ => some (judged .whenLoaded (.fit ()) blockSecure)
  | _ => none

/-- The request in execution, if it is one that takes time, ends: it has its effect, and its reply is
placed (R156, log 3). -/
def requestEnds (s : State) : Option State :=
  s.link.executing.bind fun c =>
    (endOf c).map fun run =>
      let r := run s
      r.1.complete (replyTo c r.2)

/-! ## NOTICE.FETCH and SUMMARY (R162, R163) -/

/-- NOTICE.FETCH (R162). -/
def blockNoticeFetch (_ : Unit) (s : State) : State × Answer :=
  let left := s.link.notices.drop 8
  (s.setLink { s.link with notices := left, lost := false },
    .notices (s.link.notices.take 8) left.length s.link.lost)

/-- SUMMARY (R163). -/
def State.summary (s : State) : SummaryView where
  opState := s.store.opState
  mode := s.store.mode
  port := s.clock.port
  region := s.clock.region
  shipDay := s.clock.shipDay
  shipTime := s.clock.shipTime
  counts := s.tracker.counts
  orderDepth := s.scheduler.orders.length
  noticeDepth := s.link.notices.length
  pendingPostings := s.engine.pendingCount
  deliveredPostings := s.engine.deliveredCount
  waitingDepth := s.engine.waiting.length
  lost := s.link.lost
  openTabs := s.engine.tabsInUse
  lanes := Four.map (fun l => (l.gate, l.brace.level)) s.lanes

/-- SUMMARY changes no state (R163). -/
def blockSummary (_ : Unit) (s : State) : State × Answer := (s, .summary s.summary)

/-! ## Meanings -/

/-- TRANSFER_START. -/
def execTransferStart (s : State) : Host.Outcome State Fault Refusal := .next s.beginTransfer

/-- FRAME_RECEIVED. -/
def execFrameReceived (began : Reception) (sdi : List Byte) (s : State) :
    Host.Outcome State Fault Refusal :=
  .next (s.receive began sdi)

/-- TRANSFER_END. -/
def execTransferEnd (clocked : Nat) (s : State) : Host.Outcome State Fault Refusal :=
  .next (s.endTransfer clocked)

/-- BAD_FRAME. -/
def execBadFrame (mark : BadMark) (tag : Byte) (s : State) : Host.Outcome State Fault Refusal :=
  serve (.badFrame mark tag) answerFrame s

/-- UNKNOWN_CODE. -/
def execUnknownCode (code tag : Byte) (s : State) : Host.Outcome State Fault Refusal :=
  serve (.unknownCode code tag) answerUnknown s

/-- REQUEST_COMPLETION. -/
def execRequestCompletion (s : State) : Host.Outcome State Fault Refusal := happens requestEnds s

/-- NOTICE_FETCH. -/
def execNoticeFetch (tag : Byte) (q : Body Unit) (s : State) : Host.Outcome State Fault Refusal :=
  serve (.noticeFetch tag q) (judged .always q blockNoticeFetch) s

/-- SUMMARY. -/
def execSummary (tag : Byte) (q : Body Unit) (s : State) : Host.Outcome State Fault Refusal :=
  serve (.summary tag q) (judged .always q blockSummary) s

end Sys2Proof.Machine
end

