-- ==== Sys2Proof/Machine/PresenceCommands.lean ====
section
/-! DEFINITION. The requests of the Presence Tracker: GANGWAY.CARD (R132 to R137), PRESENCE.SET (R138) and
ALLABOARD.QUERY (R141). -/

namespace Sys2Proof.Machine

/-! ## GANGWAY.CARD (R132 to R137) -/

/-- An accepted boarding scan (R134, R137). -/
def State.boardScan (s : State) (n slot : Nat) (c : Card) : State × Answer :=
  let s1 := (s.movePresence slot c .aboard none).state.countScan n .inward
  (s1, .scanned .accepted (s1.cardView slot c) .inward none)

/-- A BOARD_REPEAT (R134, R137). -/
def State.boardRepeat (s : State) (n slot : Nat) (c : Card) : State × Answer :=
  let s1 := (s.raise (.presenceMismatch c.uid n)).countScan n .inward
  (s1, .scanned .boardRepeat (s1.cardView slot c) .inward none)

/-- A scan with direction boarding (R134). -/
def State.scanBoarding (s : State) (n slot : Nat) (c : Card) : State × Answer :=
  if c.presence.aboardShip then s.boardRepeat n slot c else s.boardScan n slot c

/-- An accepted leaving scan of a GUEST marks its account's last adult departure (R135). -/
def State.markGuest (s : State) (c : Card) : State :=
  if c.config.cls = .guest then s.markAdultDeparture c.config.account else s

/-- An accepted leaving scan: the move, the adult departure, the count (R135, R137). -/
def State.leaveScan (s : State) (n slot : Nat) (c : Card) : State × Answer :=
  let d := s.movePresence slot c .ashore (some n)
  let s1 := (d.state.markGuest c).countScan n .outward
  (s1, .scanned .accepted (s1.cardView slot c) .outward (some (d.settled, d.waiting)))

/-- A LEAVE_REPEAT (R135, R137). -/
def State.leaveRepeat (s : State) (n slot : Nat) (c : Card) : State × Answer :=
  let s1 := ((s.raise (.presenceMismatch c.uid n)).markGuest c).countScan n .outward
  (s1, .scanned .leaveRepeat (s1.cardView slot c) .outward none)

/-- A scan with direction leaving (R135, R136). -/
def State.scanLeaving (s : State) (n slot : Nat) (c : Card) : State × Answer :=
  match c.presence with
  | .expected => (s, .scanRefused .notBoarded (some (s.cardView slot c)))
  | .missed => (s, .scanRefused .missed (some (s.cardView slot c)))
  | .ashore => s.leaveRepeat n slot c
  | _ =>
    if s.needsEscort c then (s, .escort (s.cardView slot c) (s.adultDepartureAge c.config.account))
    else s.leaveScan n slot c

/-- The scan of a current card at a lane in service (R133). -/
def State.scan (s : State) (n slot : Nat) (c : Card) : State × Answer :=
  if boards (Four.get s.store.settings.laneRole n) c.presence then s.scanBoarding n slot c
  else s.scanLeaving n slot c

/-- GANGWAY.CARD (R132). -/
def blockGangwayCard (q : GangwayCardReq) (s : State) : State × Answer :=
  if 3 < q.lane ∨ 15 < q.issue then (s, .refused .range)
  else if !(s.lane q.lane).gate then (s, .scanRefused .laneShut none)
  else match s.present q.uid q.issue with
    | .unknown => (s, .scanRefused .unknownCard none)
    | .superseded => (s.raise (.supersededCard q.uid q.issue), .scanRefused .superseded none)
    | .current slot c => s.scan q.lane slot c

/-! ## PRESENCE.SET (R138) -/

/-- The presences that PRESENCE.SET may carry (R138). -/
def settablePresence (code : Nat) : Option Presence :=
  match presenceOf code with
  | some .unverified => none
  | p => p

/-- PRESENCE.SET (R138). -/
def blockPresenceSet (q : PresenceSetReq) (s : State) : State × Answer :=
  match settablePresence q.presence with
  | none => (s, .refused .range)
  | some p =>
    match s.cardByUid q.uid with
    | none => (s, .refused .notFound)
    | some (slot, c) =>
      let d := s.movePresence slot c p none
      (d.state, .presenceSet slot c.presence p d.settled d.waiting)

/-! ## ALLABOARD.QUERY (R141) -/

/-- The entry of a card of the ashore list (R141). -/
def Card.ashoreEntry (c : Card) : AshoreEntry :=
  ⟨c.uid, c.config.account, c.config.cls, c.departure.bind Departure.shipTime,
    c.departure.bind Departure.lane⟩

/-- ALLABOARD.QUERY (R141). -/
def blockAllAboard (q : AllAboardReq) (s : State) : State × Answer :=
  if 8191 < q.start ∨ q.count = 0 ∨ 16 < q.count then (s, .refused .range)
  else (s, .allAboard s.tracker.counts s.tracker.ashore.length q.start
    (((s.tracker.ashore.drop q.start).take q.count).filterMap fun slot =>
      (Table.find s.store.cards slot).map Card.ashoreEntry))

/-! ## Meanings -/

/-- GANGWAY_CARD. -/
def execGangwayCard (tag : Byte) (q : Body GangwayCardReq) (s : State) :
    Host.Outcome State Fault Refusal :=
  serve (.gangwayCard tag q) (judged .whenLoaded q blockGangwayCard) s

/-- PRESENCE_SET. -/
def execPresenceSet (tag : Byte) (q : Body PresenceSetReq) (s : State) :
    Host.Outcome State Fault Refusal :=
  serve (.presenceSet tag q) (judged .whenLoaded q blockPresenceSet) s

/-- ALLABOARD_QUERY. -/
def execAllaboardQuery (tag : Byte) (q : Body AllAboardReq) (s : State) :
    Host.Outcome State Fault Refusal :=
  serve (.allaboardQuery tag q) (judged .whenLoaded q blockAllAboard) s

end Sys2Proof.Machine
end

