-- ==== Sys2Proof/Machine/RetentionCommands.lean ====
section
/-! DEFINITION. The requests and events of the Retention Unit: RETAIN, PFAIL, the capture, the wake, the
starts and RESTART (R164 to R169). -/

namespace Sys2Proof.Machine

/-! ## Requests (R164, R169) -/

/-- RETAIN: the entry begins, and RETAIN is the request in execution that completes (R164, R166). -/
def blockRetain (_ : Unit) (s : State) : State × Answer := (s.enter, .done)

/-- RESTART WARM, and RESTART with a value of neither kind (R169). -/
def blockRestartCode (code : Nat) (s : State) : State × Answer :=
  if code ≠ 0 then (s, .refused .range) else (s.restartInto s.wakeStart, .done)

/-- RESTART COLD (R169). -/
def blockRestartCold (_ : Unit) (s : State) : State × Answer := (s.restartInto (s.coldStart .cold), .done)

/-! ## The power-fail line and the capture (R164, R166) -/

/-- The level of PFAIL, `true` when asserted. -/
def State.setPfail (s : State) (level : Bool) : State :=
  { s with retention := { s.retention with pfail := level } }

/-- The PFAIL-seen flag is set. -/
def State.seePfail (s : State) : State := { s with retention := { s.retention with pfailSeen := true } }

/-- PFAIL is asserted (R164, R166); in reset only the line's level is kept (log 16). -/
def State.pfailFalls (s : State) : State :=
  let s1 := s.setPfail true
  if s.retention.resetHeld then s1
  else match s.retention.phase with
    | .running => s1.enter.seePfail
    | _ => s1.seePfail

/-- What becomes of the store of an image as it is captured: without its supply it is not kept, and what
its mark then reads is a free value (R165, R167, log 12). -/
def State.captureStore (s : State) : ImageStore × Nat :=
  if s.retention.vretFailed then (.lost (Config.decayedMarkReads s.freeCount), s.freeCount + 1)
  else (.kept, s.freeCount)

/-- The image is captured (R166): no event is taken from now on, pending debounce changes are abandoned,
and the check word is written with the retention mark. -/
def State.captured (s : State) : State :=
  let s1 := { s with lanes := Four.map Lane.captured s.lanes }
  { s1 with
    retention := { s1.retention with
      phase := .retained
      checkWord := some s1.imageCheckWord
      mark := true
      store := s1.captureStore.1 }
    freeCount := s1.captureStore.2 }

/-- The capture takes place once the request in execution has completed (R166). -/
def State.capture (s : State) : State :=
  if !s.retention.resetHeld && decide (s.retention.phase = .entering) && s.link.executing.isNone then
    s.captured
  else s

/-- PFAIL is deasserted with VDD valid (R164, R168). In ENTERING the entry goes on. -/
def State.pfailRises (s : State) : State :=
  let s1 := s.setPfail false
  if !s.retention.resetHeld && decide (s.retention.phase = .retained) && s.retention.pfailSeen then
    s1.verifyAndStart
  else s1

/-- VDD becomes valid with PFAIL deasserted (R165, log 15): with the retention mark the part wakes,
otherwise it starts cold; held in reset it waits for RESETN. -/
def State.powersUp (s : State) : State :=
  let s1 := s.setPfail false
  if s.retention.resetHeld then s1
  else if decide (s.retention.phase = .retained) && s.retention.mark then s1.verifyAndStart
  else s1.coldStart .cold

/-- The retention supply fails (R167): in RETAINED the image is lost; before that the loss is found at the
capture. -/
def State.supplyFails (s : State) : State :=
  if !s.retention.resetHeld && decide (s.retention.phase = .retained) then
    { s with
      retention := { s.retention with store := .lost (Config.decayedMarkReads s.freeCount) }
      freeCount := s.freeCount + 1 }
  else { s with retention := { s.retention with vretFailed := true } }

/-! ## RESETN (R165) -/

/-- RESETN is asserted: the part is held in reset and a request in execution ends without a reply. -/
def State.resets (s : State) : State :=
  { s with
    retention := { s.retention with resetHeld := true }
    link := s.link.emptied }

/-- RESETN is deasserted: a cold start with value COLD. -/
def State.leavesReset (s : State) : State := if s.retention.resetHeld then s.coldStart .cold else s

/-! ## Meanings -/

/-- RETAIN. -/
def execRetain (tag : Byte) (q : Body Unit) (s : State) : Host.Outcome State Fault Refusal :=
  serve (.retain tag q) (judged .always q blockRetain) s

/-- RESTART_WARM: RESTART with any body but the code of COLD. -/
def execRestartWarm (tag : Byte) (q : Body Nat) (s : State) : Host.Outcome State Fault Refusal :=
  serve (.restartWarm tag q) (judged .always q blockRestartCode) s

/-- RESTART_COLD: RESTART whose body is the code of COLD. -/
def execRestartCold (tag : Byte) (s : State) : Host.Outcome State Fault Refusal :=
  serve (.restartCold tag) (judged .always (.fit ()) blockRestartCold) s

/-- PFAIL_ASSERTED. -/
def execPfailAsserted (s : State) : Host.Outcome State Fault Refusal := .next s.pfailFalls

/-- RETENTION_CAPTURE. -/
def execRetentionCapture (s : State) : Host.Outcome State Fault Refusal := .next s.capture

/-- WAKE. -/
def execWake (s : State) : Host.Outcome State Fault Refusal := .next s.pfailRises

/-- POWER_UP. -/
def execPowerUp (s : State) : Host.Outcome State Fault Refusal := .next s.powersUp

/-- RETENTION_SUPPLY_FAILURE. -/
def execRetentionSupplyFailure (s : State) : Host.Outcome State Fault Refusal := .next s.supplyFails

/-- RESETN_ASSERTED. -/
def execResetnAsserted (s : State) : Host.Outcome State Fault Refusal := .next s.resets

/-- RESETN_DEASSERTED. -/
def execResetnDeasserted (s : State) : Host.Outcome State Fault Refusal := .next s.leavesReset

end Sys2Proof.Machine
end

