-- ==== Sys2Proof/Machine/SaleCommands.lean ====
section
/-! DEFINITION. The requests and the event of the Charge Engine: CHARGE (R68 to R88), the tab pool (R89 to
R99), the posting queue (R100 to R104) and VOID (R105, R106). -/

namespace Sys2Proof.Machine

/-! ## CHARGE (R68 to R83) -/

/-- The CHARGE record of an accepted request (R82), its number to be given by the append. -/
def State.chargeRecord (s : State) (q : ChargeReq) (c : Card) (x : Sums) : Posting where
  number := 0
  kind := .charge
  terminal := q.terminal
  uid := c.uid
  issue := q.issue
  account := c.config.account
  shipDay := s.clock.shipDay
  shipTime := s.clock.shipTime
  lineCount := q.lines.length
  sums := x
  delivered := false
  voided := false
  acceptedAt := s.clock.runSeconds
  voidable := true

/-- An accepted CHARGE (R82, R84): the posting, the account's balance and the card's counters. -/
def State.acceptCharge (s : State) (q : ChargeReq) (slot : Nat) (c : Card) (accountSlot : Nat)
    (a : Account) (x : Sums) : State :=
  ((s.appendPosting (s.chargeRecord q c x)).setAccount accountSlot
    { a with balance := a.balance + (x.total : Int) }).setCard slot (c.spend x)

/-- A CHARGE that passed its preconditions: computed, then judged by cap, limit and posting room (R75 to
R83). -/
def State.computeCharge (s : State) (q : ChargeReq) (slot : Nat) (c : Card) (accountSlot : Nat)
    (a : Account) : State × Answer :=
  let xs := s.linesSums c (s.workingAllowance c) q.lines
  let x := sumAll xs
  match c.capExceeded x.total with
  | some cap => (s, .overCap x.total c.daySpent cap)
  | none =>
    if a.available < x.total then (s, .overLimit x.total a.available)
    else if !s.postRoom then (s, .postingsFull x.total)
    else (s.acceptCharge q slot c accountSlot a x,
      .charged s.engine.nextPosting x (lineViews xs) (s.workingAllowance (c.spend x))
        { a with balance := a.balance + (x.total : Int) }.available)

/-- Precondition 3 of a sale (R71): the card presented and its account, or the refusing answer. A card of
a loaded part names an account that exists; NOT_FOUND is never answered (log 20). -/
def State.saleCard (s : State) (uid issue : Nat) : State × (Answer ⊕ (Nat × Card) × (Nat × Account)) :=
  match s.present uid issue with
  | .unknown => (s, .inl (.outcome .unknownCard))
  | .superseded => (s.raise (.supersededCard uid issue), .inl (.outcome .superseded))
  | .current slot c =>
    match s.accountByNumber c.config.account with
    | none => (s, .inl (.refused .notFound))
    | some a => (s, .inr ((slot, c), a))

/-- CHARGE (R68 to R83). -/
def blockCharge (q : ChargeReq) (s : State) : State × Answer :=
  if s.store.opState = .secure then (s, .outcome .secured)
  else if !(terminalInRange q.terminal && decide (q.issue ≤ 15) && linesInRange q.lines) then
    (s, .refused .range)
  else match s.saleCard q.uid q.issue with
    | (s1, .inl answer) => (s1, answer)
    | (s1, .inr ((slot, c), (accountSlot, a))) =>
      match s1.salePreconditions c a q.terminal q.lines with
      | (s2, some answer) => (s2, answer)
      | (s2, none) => s2.computeCharge q slot c accountSlot a

/-! ## The tab pool (R89 to R95) -/

/-- The lowest-numbered FREE slot of the pool (R91). -/
def State.freeTab (s : State) : Option Nat :=
  (List.range tabSlots).find? fun n => decide ((s.tabSlot n).state = .free)

/-- The idle deadline of a tab whose timer starts now (R94). -/
def State.idleDeadline (s : State) : Nat := s.clock.runSeconds + s.store.settings.tabIdleLimit * 60

/-- The hold in force of a TAB.OPEN (R91). -/
def State.holdInForce (s : State) (hold : Nat) : Nat :=
  if hold = 0 then s.store.settings.tabDefaultHold else hold

/-- An account with one more tab and its hold (R91). -/
def Account.openTab (a : Account) (hold : Nat) : Account :=
  { a with held := a.held + hold, openTabs := a.openTabs + 1 }

/-- An accepted TAB.OPEN (R91). -/
def State.openTab (s : State) (slot terminal cardSlot accountSlot : Nat) (a : Account) (hold : Nat) :
    State :=
  let s1 := s.setTabSlot slot ⟨((s.tabSlot slot).generation + 1) % 256,
    .opened ⟨terminal, cardSlot, accountSlot, hold, Sums.zero, 0, s.clock.runSeconds⟩ s.idleDeadline⟩
  (s1.setAccount accountSlot (a.openTab hold)).setTerminalTabs terminal (s1.terminalTabs terminal + 1)

/-- The three tests of the tab pool and the opening (R91). -/
def State.poolTests (s : State) (terminal cardSlot accountSlot : Nat) (a : Account) (hold : Nat) :
    State × Answer :=
  match s.freeTab with
  | none => (s, .outcome .tabPool)
  | some slot =>
    if 2 ≤ a.openTabs ∨ 8 ≤ s.terminalTabs terminal then (s, .outcome .tabLimit)
    else if a.available < hold then (s, .tabOpenLimit hold a.available)
    else
      let s1 := s.openTab slot terminal cardSlot accountSlot a hold
      (s1, .tabOpened slot (s1.tabSlot slot).generation hold (a.openTab hold).available)

/-- TAB.OPEN (R70, R91). -/
def blockTabOpen (q : TabOpenReq) (s : State) : State × Answer :=
  if s.store.opState = .secure then (s, .outcome .secured)
  else if !(terminalInRange q.terminal && decide (q.issue ≤ 15) && decide (0 ≤ q.hold) &&
      decide (q.hold ≤ 10000000)) then (s, .refused .range)
  else match s.saleCard q.uid q.issue with
    | (s1, .inl answer) => (s1, answer)
    | (s1, .inr ((slot, c), (accountSlot, a))) =>
      match s1.salePreconditions c a q.terminal [] with
      | (s2, some answer) => (s2, answer)
      | (s2, none) => s2.poolTests q.terminal slot accountSlot a (s2.holdInForce q.hold.toNat)

/-- What naming a tab for its terminal finds (R90, R92, R95): the OPEN tab, or the refusing answer. -/
def State.ownTab (s : State) (slot generation terminal : Nat) : Answer ⊕ Tab :=
  if (s.tabSlot slot).generation ≠ generation then .inl (.refused .notFound)
  else match (s.tabSlot slot).state with
    | .free => .inl (.refused .notFound)
    | .opened t _ => if t.terminal = terminal then .inr t else .inl (.outcome .notOwner)
    | .closing t _ => if t.terminal = terminal then .inl (.outcome .closed) else .inl (.outcome .notOwner)

/-- The hold after an addition (R93): unchanged within the hold, else the sum rounded up to the next
multiple of 1,000 cents. -/
def newHold (hold sum : Nat) : Nat := if sum ≤ hold then hold else (sum + 999) / 1000 * 1000

/-- The tab after an accepted addition (R93). -/
def Tab.added (t : Tab) (x : Sums) (lines hold now : Nat) : Tab :=
  { t with
    sums := t.sums.add x
    lineCount := min (t.lineCount + lines) 255
    hold := hold
    lastActivity := now }

/-- An accepted TAB.ADD (R93). -/
def State.acceptAdd (s : State) (q : TabAddReq) (t : Tab) (c : Card) (a : Account) (x : Sums)
    (hold : Nat) : State :=
  let s1 := s.setTabSlot q.slot { s.tabSlot q.slot with
    state := .opened (t.added x q.lines.length hold s.clock.runSeconds) s.idleDeadline }
  (s1.setAccount t.accountSlot { a with held := a.held + (hold - t.hold) }).setCard t.cardSlot (c.spend x)

/-- A TAB.ADD that passed its preconditions: computed, then judged by cap and hold (R79, R93). The fields
of a CAP refusal are those of a CHARGE (log 19). -/
def State.computeAdd (s : State) (q : TabAddReq) (t : Tab) (c : Card) (a : Account) : State × Answer :=
  let xs := s.linesSums c (s.workingAllowance c) q.lines
  let x := sumAll xs
  let hold := newHold t.hold (t.sums.total + x.total)
  match c.capExceeded x.total with
  | some cap => (s, .overCap x.total c.daySpent cap)
  | none =>
    if a.available < hold - t.hold then (s, .tabAddLimit x.total (hold - t.hold) a.available)
    else (s.acceptAdd q t c a x hold,
      .tabAdded x (lineViews xs) (s.workingAllowance (c.spend x)) (t.sums.add x) hold
        { a with held := a.held + (hold - t.hold) }.available)

/-- TAB.ADD (R70, R92, R93). A tab names a card and an account that exist; the last NOT_FOUND is never
answered (log 20). -/
def blockTabAdd (q : TabAddReq) (s : State) : State × Answer :=
  if s.store.opState = .secure then (s, .outcome .secured)
  else if !(terminalInRange q.terminal && linesInRange q.lines && decide (q.slot < tabSlots)) then
    (s, .refused .range)
  else match s.ownTab q.slot q.generation q.terminal with
    | .inl answer => (s, answer)
    | .inr t =>
      match Table.find s.store.cards t.cardSlot, Table.find s.store.accounts t.accountSlot with
      | some c, some a =>
        match s.salePreconditions c a q.terminal q.lines with
        | (s1, some answer) => (s1, answer)
        | (s1, none) => s1.computeAdd q t c a
      | _, _ => (s, .refused .notFound)

/-- TAB.CLOSE (R95). -/
def blockTabClose (q : TabCloseReq) (s : State) : State × Answer :=
  if !(terminalInRange q.terminal && decide (q.slot < tabSlots)) then (s, .refused .range)
  else match s.ownTab q.slot q.generation q.terminal with
    | .inl answer => (s, answer)
    | .inr t =>
      if s.canSettle t then
        (s.settle q.slot t .closed,
          .tabClosed (if t.sums.total = 0 then none else some s.engine.nextPosting) t.sums)
      else (s, .outcome .postFull)

/-- What TAB.READ gives of a tab (R90): its record with the card's UID and the account's number. A tab
names a card and an account that exist; the zeros are never read (log 20). -/
def State.tabView (s : State) (t : Tab) (idleDeadline : Option Nat) (reason : Option CloseReason)
    (place : Option Nat) : TabView where
  terminal := t.terminal
  uid := ((Table.find s.store.cards t.cardSlot).map Card.uid).getD 0
  account := ((Table.find s.store.accounts t.accountSlot).map Account.number).getD 0
  hold := t.hold
  sums := t.sums
  lineCount := t.lineCount
  lastActivity := t.lastActivity
  idleDeadline := idleDeadline
  reason := reason
  secondsLeft := idleDeadline.map fun d => d - s.clock.runSeconds
  place := place

/-- TAB.READ (R90). -/
def blockTabRead (slot : Nat) (s : State) : State × Answer :=
  if slot < tabSlots then
    match (s.tabSlot slot).state with
    | .free => (s, .tabRead (s.tabSlot slot).generation none)
    | .opened t d => (s, .tabRead (s.tabSlot slot).generation (some (s.tabView t (some d) none none)))
    | .closing t r =>
      (s, .tabRead (s.tabSlot slot).generation
        (some (s.tabView t none (some r) (some (s.engine.waiting.idxOf slot + 1)))))
  else (s, .refused .range)

/-- The idle deadline of an OPEN tab is reached (R94). -/
def tabExpires (slot : Nat) (s : State) : Option State :=
  match (s.tabSlot slot).state with
  | .opened t d =>
    some (((s.advanceToSecond d).raise (.tabExpired slot t.sums.total)).forceSettle slot t .expired)
  | _ => none

/-! ## The posting queue (R102, R103, R104) -/

/-- The records with the first `n` PENDING ones marked DELIVERED (R102). -/
def markDelivered : Nat → List Posting → List Posting
  | _, [] => []
  | 0, ps => ps
  | n + 1, p :: ps =>
    if p.delivered then p :: markDelivered (n + 1) ps else { p with delivered := true } :: markDelivered n ps

/-- Replaces the posting queue. -/
def State.setPostings (s : State) (ps : List Posting) : State :=
  { s with engine := { s.engine with postings := ps } }

/-- POST.FETCH (R102); log 27 says how the state of a returned record reads. -/
def blockPostFetch (_ : Unit) (s : State) : State × Answer :=
  let taken := (s.engine.postings.filter Posting.isPending).take 4
  let s1 := s.setPostings (markDelivered 4 s.engine.postings)
  (s1, .postings (taken.map fun p => { p with delivered := Config.fetchedReadsDelivered })
    s1.engine.pendingCount s1.engine.deliveredCount)

/-- The reference number of POST.RELEASE (R103): the head record's, or the next posting number. -/
def Engine.reference (e : Engine) : Nat := (e.postings.head?.map Posting.number).getD e.nextPosting

/-- The steps along the numbering from one number to another; the numbers are 1 to 4,294,967,295 (R100,
R103). -/
def stepsTo (reference n : Nat) : Nat := (n + maxNat32 - reference) % maxNat32

/-- The records up to the one `d` steps past the head leave; the high-water flag is judged (R101, R103). -/
def State.removePostings (s : State) (d : Nat) : State :=
  let ps := s.engine.postings.drop (d + 1)
  { s with engine := { s.engine with
      postings := ps
      highWaterArmed := s.engine.highWaterArmed || decide (ps.length < s.store.settings.highWater) } }

/-- POST.RELEASE (R103): the numbers left are counted after the removal, before the waiting list is served
(log 9). -/
def blockPostRelease (n : Nat) (s : State) : State × Answer :=
  let d := stepsTo s.engine.reference n
  if n = 0 then (s, .refused .range)
  else if d < s.engine.deliveredCount then
    let s1 := s.removePostings d
    let served := s1.serveWaiting
    (served.state, .released (d + 1) s1.engine.pendingCount s1.engine.deliveredCount served.settled)
  else if 2147483648 ≤ d then
    (s, .released 0 s.engine.pendingCount s.engine.deliveredCount 0)
  else (s, .refused .range)

/-- POST.REWIND (R104). -/
def blockPostRewind (_ : Unit) (s : State) : State × Answer :=
  (s.setPostings (s.engine.postings.map fun p => { p with delivered := false }),
    .rewound s.engine.deliveredCount)

/-! ## VOID (R105, R106) -/

/-- The judgement of a VOID on the record it names (R105 steps 3 to 7): the refusing answer, if any. -/
def State.voidRefusal (s : State) (p : Posting) (terminal : Nat) : Option Answer :=
  if p.kind ≠ .charge then some (.refused .state)
  else if p.terminal ≠ terminal then some (.outcome .notOwner)
  else if p.voided then some (.outcome .closed)
  else if p.delivered then some (.outcome .delivered)
  else if !p.voidable || decide (s.store.settings.voidWindow ≤ s.clock.runSeconds - p.acceptedAt) then
    some (.outcome .expired)
  else none

/-- The record's voided flag is set (R106). -/
def State.markVoided (s : State) (number : Nat) : State :=
  s.setPostings (s.engine.postings.map fun p => if p.number = number then { p with voided := true } else p)

/-- The money of an account named by a voided record (R106): the state, the amount taken and the new
balance. For an account retired since the charge the new balance is a free value (log 12). -/
def State.voidAccount (s : State) (p : Posting) : State × Nat × Int :=
  match s.accountByNumber p.account with
  | some (slot, a) =>
    let balance := lowerBalance a.balance p.sums.total
    (s.setAccount slot { a with balance := balance }, (a.balance - balance).toNat, balance)
  | none => ({ s with freeCount := s.freeCount + 1 }, 0, Config.retiredBalance s.freeCount)

/-- The counters of the card named by a voided record, on the ship day of its acceptance (R84, R106): the
state, and the amounts restored to day spent and allowance used. -/
def State.voidCard (s : State) (p : Posting) : State × Nat × Nat :=
  match s.cardByUid p.uid with
  | some (slot, c) =>
    if p.shipDay = s.clock.shipDay then
      let spent := c.daySpent - p.sums.total
      let used := c.allowanceUsed - p.sums.units
      (s.setCard slot { c with daySpent := spent, allowanceUsed := used },
        c.daySpent - spent, c.allowanceUsed - used)
    else (s, 0, 0)
  | none => (s, 0, 0)

/-- VOID (R105, R106). -/
def blockVoid (q : VoidReq) (s : State) : State × Answer :=
  if !terminalInRange q.terminal || decide (q.posting = 0) then (s, .refused .range)
  else match s.engine.postings.find? fun p => p.number == q.posting with
    | none => (s, .refused .notFound)
    | some p =>
      match s.voidRefusal p q.terminal with
      | some answer => (s, answer)
      | none =>
        let v := (s.markVoided q.posting).voidAccount p
        let w := v.1.voidCard p
        (w.1, .voided v.2.1 v.2.2 w.2.1 w.2.2)

/-! ## Meanings -/

/-- CHARGE. -/
def execCharge (tag : Byte) (q : Body ChargeReq) (s : State) : Host.Outcome State Fault Refusal :=
  serve (.charge tag q) (judged .whenLoaded q blockCharge) s

/-- VOID. -/
def execVoid (tag : Byte) (q : Body VoidReq) (s : State) : Host.Outcome State Fault Refusal :=
  serve (.void tag q) (judged .whenLoaded q blockVoid) s

/-- TAB_OPEN. -/
def execTabOpen (tag : Byte) (q : Body TabOpenReq) (s : State) : Host.Outcome State Fault Refusal :=
  serve (.tabOpen tag q) (judged .whenLoaded q blockTabOpen) s

/-- TAB_ADD. -/
def execTabAdd (tag : Byte) (q : Body TabAddReq) (s : State) : Host.Outcome State Fault Refusal :=
  serve (.tabAdd tag q) (judged .whenLoaded q blockTabAdd) s

/-- TAB_CLOSE. -/
def execTabClose (tag : Byte) (q : Body TabCloseReq) (s : State) : Host.Outcome State Fault Refusal :=
  serve (.tabClose tag q) (judged .whenLoaded q blockTabClose) s

/-- TAB_READ. -/
def execTabRead (tag : Byte) (q : Body Nat) (s : State) : Host.Outcome State Fault Refusal :=
  serve (.tabRead tag q) (judged .always q blockTabRead) s

/-- TAB_IDLE_EXPIRY. -/
def execTabIdleExpiry (slot : Nat) (s : State) : Host.Outcome State Fault Refusal :=
  happens (tabExpires slot) s

/-- POST_FETCH. -/
def execPostFetch (tag : Byte) (q : Body Unit) (s : State) : Host.Outcome State Fault Refusal :=
  serve (.postFetch tag q) (judged .always q blockPostFetch) s

/-- POST_RELEASE. -/
def execPostRelease (tag : Byte) (q : Body Nat) (s : State) : Host.Outcome State Fault Refusal :=
  serve (.postRelease tag q) (judged .always q blockPostRelease) s

/-- POST_REWIND. -/
def execPostRewind (tag : Byte) (q : Body Unit) (s : State) : Host.Outcome State Fault Refusal :=
  serve (.postRewind tag q) (judged .always q blockPostRewind) s

end Sys2Proof.Machine
end

