-- ==== Sys2Proof/Machine/Dispatch.lean ====
section
/-! DEFINITION. The meaning of each command of the opcode table, one arm per constructor. -/

namespace Sys2Proof.Machine

def exec (i : Instr) (s : State) : Host.Outcome State Fault Refusal :=
  match i with
  | .frameReceived began sdi => Sys2Proof.Machine.execFrameReceived began sdi s
  | .transferEnd clocked => Sys2Proof.Machine.execTransferEnd clocked s
  | .badFrame mark tag => Sys2Proof.Machine.execBadFrame mark tag s
  | .unknownCode code tag => Sys2Proof.Machine.execUnknownCode code tag s
  | .summary tag q => Sys2Proof.Machine.execSummary tag q s
  | .noticeFetch tag q => Sys2Proof.Machine.execNoticeFetch tag q s
  | .orderFetch tag q => Sys2Proof.Machine.execOrderFetch tag q s
  | .loadBegin tag q => Sys2Proof.Machine.execLoadBegin tag q s
  | .loadEnd tag q span => Sys2Proof.Machine.execLoadEnd tag q span s
  | .cardPut tag q => Sys2Proof.Machine.execCardPut tag q s
  | .cardRead tag q => Sys2Proof.Machine.execCardRead tag q s
  | .cardReissue tag q => Sys2Proof.Machine.execCardReissue tag q s
  | .cardRetire tag q => Sys2Proof.Machine.execCardRetire tag q s
  | .accountPut tag q => Sys2Proof.Machine.execAccountPut tag q s
  | .accountRead tag q => Sys2Proof.Machine.execAccountRead tag q s
  | .accountCredit tag q => Sys2Proof.Machine.execAccountCredit tag q s
  | .accountRetire tag q => Sys2Proof.Machine.execAccountRetire tag q s
  | .doorPut tag q => Sys2Proof.Machine.execDoorPut tag q s
  | .doorRead tag q => Sys2Proof.Machine.execDoorRead tag q s
  | .categoryPut tag q => Sys2Proof.Machine.execCategoryPut tag q s
  | .regionPut tag q => Sys2Proof.Machine.execRegionPut tag q s
  | .tierPut tag q span => Sys2Proof.Machine.execTierPut tag q span s
  | .settingPut tag q => Sys2Proof.Machine.execSettingPut tag q s
  | .settingRead tag q => Sys2Proof.Machine.execSettingRead tag q s
  | .doorCard tag q => Sys2Proof.Machine.execDoorCard tag q s
  | .doorReport tag q => Sys2Proof.Machine.execDoorReport tag q s
  | .relatchTimerExpiry door => Sys2Proof.Machine.execRelatchTimerExpiry door s
  | .strikeConfirmExpiry door => Sys2Proof.Machine.execStrikeConfirmExpiry door s
  | .ajarTimerExpiry door => Sys2Proof.Machine.execAjarTimerExpiry door s
  | .relatchConfirmExpiry door => Sys2Proof.Machine.execRelatchConfirmExpiry door s
  | .auditStep => Sys2Proof.Machine.execAuditStep s
  | .busWindowAgeOut bus => Sys2Proof.Machine.execBusWindowAgeOut bus s
  | .charge tag q => Sys2Proof.Machine.execCharge tag q s
  | .void tag q => Sys2Proof.Machine.execVoid tag q s
  | .tabOpen tag q => Sys2Proof.Machine.execTabOpen tag q s
  | .tabAdd tag q => Sys2Proof.Machine.execTabAdd tag q s
  | .tabClose tag q => Sys2Proof.Machine.execTabClose tag q s
  | .tabRead tag q => Sys2Proof.Machine.execTabRead tag q s
  | .tabIdleExpiry slot => Sys2Proof.Machine.execTabIdleExpiry slot s
  | .postFetch tag q => Sys2Proof.Machine.execPostFetch tag q s
  | .postRelease tag q => Sys2Proof.Machine.execPostRelease tag q s
  | .postRewind tag q => Sys2Proof.Machine.execPostRewind tag q s
  | .laneOpen tag q => Sys2Proof.Machine.execLaneOpen tag q s
  | .laneClose tag q => Sys2Proof.Machine.execLaneClose tag q s
  | .laneRead tag q => Sys2Proof.Machine.execLaneRead tag q s
  | .laneInputEdge lane input level => Sys2Proof.Machine.execLaneInputEdge lane input level s
  | .beamChangeTaken lane beam => Sys2Proof.Machine.execBeamChangeTaken lane beam s
  | .pairingWaitExpiry lane => Sys2Proof.Machine.execPairingWaitExpiry lane s
  | .braceChangeTaken lane => Sys2Proof.Machine.execBraceChangeTaken lane s
  | .flowWindowClose lane => Sys2Proof.Machine.execFlowWindowClose lane s
  | .gangwayCard tag q => Sys2Proof.Machine.execGangwayCard tag q s
  | .presenceSet tag q => Sys2Proof.Machine.execPresenceSet tag q s
  | .allaboardQuery tag q => Sys2Proof.Machine.execAllaboardQuery tag q s
  | .timeSet tag q => Sys2Proof.Machine.execTimeSet tag q s
  | .dayRoll tag q span => Sys2Proof.Machine.execDayRoll tag q span s
  | .portArrive tag q => Sys2Proof.Machine.execPortArrive tag q s
  | .sail tag q span => Sys2Proof.Machine.execSail tag q span s
  | .modeSetSecure tag span => Sys2Proof.Machine.execModeSetSecure tag span s
  | .modeSetService tag q => Sys2Proof.Machine.execModeSetService tag q s
  | .runSecondsRise => Sys2Proof.Machine.execRunSecondsRise s
  | .retain tag q => Sys2Proof.Machine.execRetain tag q s
  | .pfailAsserted => Sys2Proof.Machine.execPfailAsserted s
  | .retentionCapture => Sys2Proof.Machine.execRetentionCapture s
  | .wake => Sys2Proof.Machine.execWake s
  | .restartWarm tag q => Sys2Proof.Machine.execRestartWarm tag q s
  | .restartCold tag => Sys2Proof.Machine.execRestartCold tag s
  | .resetnAsserted => Sys2Proof.Machine.execResetnAsserted s
  | .resetnDeasserted => Sys2Proof.Machine.execResetnDeasserted s
  | .powerUp => Sys2Proof.Machine.execPowerUp s
  | .transferStart => Sys2Proof.Machine.execTransferStart s
  | .requestCompletion => Sys2Proof.Machine.execRequestCompletion s
  | .beamChangeHeld lane beam => Sys2Proof.Machine.execBeamChangeHeld lane beam s
  | .retentionSupplyFailure => Sys2Proof.Machine.execRetentionSupplyFailure s

end Sys2Proof.Machine
end

