-- ==== Sys2Proof/Machine/Step.lean ====
section
/-! DEFINITION. The step of the GV416: it takes the command at the front of the queue. -/

namespace Sys2Proof.Machine

/-- The step: the command at the front of the queue with the rest left waiting, or an idle millisecond. -/
def step (s : State) : Host.Outcome State Fault Refusal :=
  match s.pending with
  | [] => .next s.idle
  | c :: rest => exec c { s with pending := rest }

/-- The command that a word spells, put at the front of the queue; the state unchanged where the word
spells none. -/
def State.withFetchWord (s : State) (nbits w : Nat) : State :=
  match decodeTableWord nbits w with
  | some c => { s with pending := c :: s.pending }
  | none => s

end Sys2Proof.Machine
end

