-- ==== Sys2Proof/WellFormed.lean ====
section
/-! DEFINITION. The commands that the outside world can send: each field within the bytes that Table 31
gives it, each body within the longest frame (R154), each event at a place the part has. A field within its
bytes may still be outside its rule's range: the part answers that with status RANGE. -/

namespace Sys2Proof

/-- An unsigned number that fits its bytes. -/
def fits (width n : Nat) : Bool := decide (n < 256 ^ width)

/-- A money field: 4 bytes, signed (R170). -/
def fitsMoney (i : Int) : Bool := decide (-2147483648 ≤ i) && decide (i < 2147483648)

/-- A body of a message with one fixed length. -/
def Body.wf {α : Type} (length : Nat) (fields : α → Bool) : Body α → Bool
  | .fit x => fields x
  | .misfit n => decide (n ≤ maxBody) && n != length

/-- A body of a message with lines; a length that does not fit its line count may be any. -/
def Body.wfLined {α : Type} (fields : α → Bool) : Body α → Bool
  | .fit x => fields x
  | .misfit n => decide (n ≤ maxBody)

/-- An optional field: both parts fit their bytes. -/
def OptField.wf {α : Type} (value : α → Bool) (f : OptField α) : Bool := fits 1 f.presence && value f.value

/-- Two 2-byte numbers. -/
def Span2.wf (p : Span2) : Bool := fits 2 p.first && fits 2 p.second

/-- A line: category 1 byte, unit price 3, quantity 1. -/
def Line.wf (l : Line) : Bool := fits 1 l.category && fits 3 l.unitPrice && fits 1 l.quantity

def CardPutReq.wf (q : CardPutReq) : Bool :=
  fits 1 q.kind && fits 7 q.uid && fits 1 q.issue && fits 1 q.presence && fits 1 q.cls &&
  fits 4 q.account && fits 1 q.cabinCount && fits 2 q.cabin0 && fits 2 q.cabin1 &&
  q.section_.wf Span2.wf && q.hours.wf Span2.wf && fits 2 q.firstDay && fits 2 q.lastDay &&
  fits 1 q.privilege && fits 1 q.tier && q.dailyCap.wf (fits 3)

def CardReadReq.wf (q : CardReadReq) : Bool := fits 1 q.selector && fits 7 q.uid && fits 2 q.slot

def AccountPutReq.wf (q : AccountPutReq) : Bool :=
  fits 1 q.kind && fits 4 q.account && fitsMoney q.limit && fits 1 q.status

def AccountCreditReq.wf (q : AccountCreditReq) : Bool := fits 4 q.account && fitsMoney q.amount

def DoorPutReq.wf (q : DoorPutReq) : Bool :=
  fits 2 q.door && fits 1 q.configured && fits 2 q.label && fits 1 q.bus

def CategoryPutReq.wf (q : CategoryPutReq) : Bool :=
  fits 1 q.category && fits 1 q.alcohol && fits 1 q.taxable && fits 2 q.gratuity

def RegionPutReq.wf (q : RegionPutReq) : Bool := fits 1 q.region && fits 2 q.rate

def TierPutReq.wf (q : TierPutReq) : Bool := fits 1 q.tier && fits 1 q.allowance && fits 3 q.coverCap

def SettingPutReq.wf (q : SettingPutReq) : Bool := fits 1 q.id && fits 1 q.lane && fits 4 q.value

def SettingReadReq.wf (q : SettingReadReq) : Bool := fits 1 q.id && fits 1 q.lane

def DoorCardReq.wf (q : DoorCardReq) : Bool := fits 2 q.door && fits 7 q.uid && fits 1 q.issue

def DoorReportReq.wf (q : DoorReportReq) : Bool :=
  fits 2 q.door && fits 1 q.contact && fits 1 q.latch && fits 1 q.dnd && fits 1 q.cause

/-- CHARGE: at most 46 lines fit a body of 240 bytes. -/
def ChargeReq.wf (q : ChargeReq) : Bool :=
  fits 1 q.terminal && fits 7 q.uid && fits 1 q.issue && decide (q.lines.length ≤ 46) && q.lines.all Line.wf

def VoidReq.wf (q : VoidReq) : Bool := fits 1 q.terminal && fits 4 q.posting

def TabOpenReq.wf (q : TabOpenReq) : Bool :=
  fits 1 q.terminal && fits 7 q.uid && fits 1 q.issue && fitsMoney q.hold

/-- TAB.ADD: at most 47 lines fit a body of 240 bytes. -/
def TabAddReq.wf (q : TabAddReq) : Bool :=
  fits 1 q.slot && fits 1 q.generation && fits 1 q.terminal && decide (q.lines.length ≤ 47) &&
  q.lines.all Line.wf

def TabCloseReq.wf (q : TabCloseReq) : Bool := fits 1 q.slot && fits 1 q.generation && fits 1 q.terminal

def GangwayCardReq.wf (q : GangwayCardReq) : Bool := fits 1 q.lane && fits 7 q.uid && fits 1 q.issue

def PresenceSetReq.wf (q : PresenceSetReq) : Bool := fits 7 q.uid && fits 1 q.presence

def AllAboardReq.wf (q : AllAboardReq) : Bool := fits 2 q.start && fits 1 q.count

/-- A body without fields. -/
def noFields (_ : Unit) : Bool := true

/-- The codes of the message catalogue (Table 31). -/
def catalogue : List Nat :=
  [0x01, 0x02, 0x03, 0x10, 0x11, 0x12, 0x13, 0x14, 0x15, 0x16, 0x17, 0x18, 0x19, 0x1A, 0x1B, 0x1C, 0x1D,
   0x1E, 0x1F, 0x20, 0x30, 0x31, 0x40, 0x41, 0x42, 0x43, 0x44, 0x45, 0x46, 0x47, 0x48, 0x50, 0x51, 0x52,
   0x53, 0x58, 0x59, 0x60, 0x61, 0x62, 0x63, 0x64, 0x70, 0x71]

/-- A one-byte code other than 1, which has a row of its own (MODE.SET, RESTART). -/
def otherCode (n : Nat) : Bool := fits 1 n && n != 1

/-- A bad frame's tag is 0 when it was TOO_LONG (R156). -/
def BadMark.tagFits (m : BadMark) (tag : Byte) : Bool :=
  match m with
  | .badCrc => true
  | .tooLong => tag == 0#8

def doorExists (d : Nat) : Bool := decide (d < 4096)
def busExists (b : Nat) : Bool := decide (b < 16)
def tabExists (t : Nat) : Bool := decide (t < 128)
def laneExists (n : Nat) : Bool := decide (n < 4)

/-- The commands that can be sent. -/
def Instr.wf : Instr → Bool
  | .frameReceived _ _ => true
  | .transferEnd _ => true
  | .badFrame m tag => m.tagFits tag
  | .unknownCode code _ => !catalogue.contains code.toNat
  | .summary _ q => q.wf 0 noFields
  | .noticeFetch _ q => q.wf 0 noFields
  | .orderFetch _ q => q.wf 0 noFields
  | .loadBegin _ q => q.wf 2 (fits 2)
  | .loadEnd _ q _ => q.wf 0 noFields
  | .cardPut _ q => q.wf 40 CardPutReq.wf
  | .cardRead _ q => q.wf 10 CardReadReq.wf
  | .cardReissue _ q => q.wf 7 (fits 7)
  | .cardRetire _ q => q.wf 7 (fits 7)
  | .accountPut _ q => q.wf 10 AccountPutReq.wf
  | .accountRead _ q => q.wf 4 (fits 4)
  | .accountCredit _ q => q.wf 8 AccountCreditReq.wf
  | .accountRetire _ q => q.wf 4 (fits 4)
  | .doorPut _ q => q.wf 6 DoorPutReq.wf
  | .doorRead _ q => q.wf 2 (fits 2)
  | .categoryPut _ q => q.wf 5 CategoryPutReq.wf
  | .regionPut _ q => q.wf 3 RegionPutReq.wf
  | .tierPut _ q _ => q.wf 7 TierPutReq.wf
  | .settingPut _ q => q.wf 6 SettingPutReq.wf
  | .settingRead _ q => q.wf 2 SettingReadReq.wf
  | .doorCard _ q => q.wf 10 DoorCardReq.wf
  | .doorReport _ q => q.wf 6 DoorReportReq.wf
  | .relatchTimerExpiry door => doorExists door
  | .strikeConfirmExpiry door => doorExists door
  | .ajarTimerExpiry door => doorExists door
  | .relatchConfirmExpiry door => doorExists door
  | .auditStep => true
  | .busWindowAgeOut bus => busExists bus
  | .charge _ q => q.wfLined ChargeReq.wf
  | .void _ q => q.wf 5 VoidReq.wf
  | .tabOpen _ q => q.wf 13 TabOpenReq.wf
  | .tabAdd _ q => q.wfLined TabAddReq.wf
  | .tabClose _ q => q.wf 3 TabCloseReq.wf
  | .tabRead _ q => q.wf 1 (fits 1)
  | .tabIdleExpiry slot => tabExists slot
  | .postFetch _ q => q.wf 0 noFields
  | .postRelease _ q => q.wf 4 (fits 4)
  | .postRewind _ q => q.wf 0 noFields
  | .laneOpen _ q => q.wf 1 (fits 1)
  | .laneClose _ q => q.wf 1 (fits 1)
  | .laneRead _ q => q.wf 1 (fits 1)
  | .laneInputEdge lane _ _ => laneExists lane
  | .beamChangeTaken lane _ => laneExists lane
  | .pairingWaitExpiry lane => laneExists lane
  | .braceChangeTaken lane => laneExists lane
  | .flowWindowClose lane => laneExists lane
  | .gangwayCard _ q => q.wf 9 GangwayCardReq.wf
  | .presenceSet _ q => q.wf 8 PresenceSetReq.wf
  | .allaboardQuery _ q => q.wf 3 AllAboardReq.wf
  | .timeSet _ q => q.wf 3 (fits 3)
  | .dayRoll _ q _ => q.wf 0 noFields
  | .portArrive _ q => q.wf 1 (fits 1)
  | .sail _ q _ => q.wf 0 noFields
  | .modeSetSecure _ _ => true
  | .modeSetService _ q => q.wf 1 otherCode
  | .runSecondsRise => true
  | .retain _ q => q.wf 0 noFields
  | .pfailAsserted => true
  | .retentionCapture => true
  | .wake => true
  | .restartWarm _ q => q.wf 1 otherCode
  | .restartCold _ => true
  | .resetnAsserted => true
  | .resetnDeasserted => true
  | .powerUp => true
  | .transferStart => true
  | .requestCompletion => true
  | .beamChangeHeld lane _ => laneExists lane
  | .retentionSupplyFailure => true

end Sys2Proof
end

