-- ==== Sys2Proof/Safety.lean ====
section
/-! DEFINITION. The laws of the part: what the data book says of every state the part can be in, each as a
check of one state. The obligations state that the reset state keeps them and that every step does. -/

namespace Sys2Proof.Machine

/-! ## Operating state, mode, clock and port (R1, R144, R145) -/

/-- R1: while loaded, mode and operating state are the same value; else the mode is SERVICE. -/
def State.modeLaw (s : State) : Bool :=
  match s.store.opState with
  | .secure => decide (s.store.mode = .secure)
  | _ => decide (s.store.mode = .service)

/-- R145: run-seconds count the completed seconds of the millisecond timer, saturating; a ship time is a
second of the day. -/
def State.clockLaw (s : State) : Bool :=
  decide (s.clock.runSeconds = min (s.clock.ms / 1000) maxNat32) &&
    match s.clock.shipTime with
    | some t => decide (t < 86400)
    | none => true

/-- R144: the region is 0 at sea and 1 to 7 in port. -/
def State.portLaw (s : State) : Bool :=
  match s.clock.port with
  | .atSea => decide (s.clock.region = 0)
  | .inPort => decide (1 ≤ s.clock.region) && decide (s.clock.region ≤ 7)

/-! ## Tables, settings and capacities (Table 1, R22) -/

/-- Every table is in its canonical form: keys strictly rise, and no entry equals the default record. -/
def State.tablesLaw (s : State) : Bool :=
  s.store.cards.rising && s.store.accounts.rising && s.store.doors.canonical DoorConfig.cold &&
  s.store.categories.canonical ⟨false, false, 0⟩ && s.store.regions.canonical 0 &&
  s.store.tiers.canonical ⟨0#16, 0, 0⟩ && s.engine.tabs.canonical TabSlot.cold &&
  s.engine.terminalTabs.canonical 0 && s.doorUnit.channels.canonical Channel.start &&
  s.scheduler.buses.canonical Bus.start && s.readers.canonical Reader.start

/-- A value within a range. -/
def within (low high n : Nat) : Bool := decide (low ≤ n) && decide (n ≤ high)

/-- A flow window in force (R22). -/
def flowWindowLaw (n : Nat) : Bool := n == 10 || n == 30 || n == 60

/-- The same check of all four. -/
def Four.all {α : Type} (p : α → Bool) (f : Four α) : Bool := p f.l0 && p f.l1 && p f.l2 && p f.l3

/-- R22: every setting is within its range. -/
def Settings.law (v : Settings) : Bool :=
  within 2 30 v.relatchTime && within 10 600 v.ajarTime && within 1 10 v.strikeConfirmTime &&
  within 1 10 v.relatchConfirmTime && within 1 8 v.busBudget && within 200 2000 v.busWindow &&
  within 2 15 v.refusalLimit && within 10 600 v.refusalWindow && within 5 300 v.blockTime &&
  within 0 60 v.auditInterval && within 1 7 v.pollMissLimit && within 10 720 v.tabIdleLimit &&
  within 0 100000 v.tabDefaultHold && within 0 600 v.voidWindow && within 0 600 v.escortWindow &&
  within 5 50 v.debounce && v.flowWindow.all flowWindowLaw && v.flowLimit.all (within 1 255) &&
  within 0 15 v.tailgateTolerance && within 1 1024 v.highWater

/-- R61, R100, R155, R161, R58, R59: no queue holds more than its room. -/
def State.roomLaw (s : State) : Bool :=
  decide (s.scheduler.orders.length ≤ orderQueueRoom) &&
  decide (s.engine.postings.length ≤ postingQueueRoom) &&
  decide (s.link.notices.length ≤ noticeQueueRoom) && decide (s.link.places.length ≤ replyPlaces) &&
  s.scheduler.buses.all fun e =>
    decide (e.2.queue.length ≤ busQueueRoom) && decide (e.2.history.length ≤ 8)

/-! ## Before the part is loaded (R2) -/

/-- R2: while the operating state is UNLOADED or LOADING, the order queue and the posting queue are empty
and no lane gate is effective; no door channel, strike queue or tab is in use either, and no soft gate is
set. -/
def State.unloadedLaw (s : State) : Bool :=
  s.loaded ||
    (s.scheduler.orders.isEmpty && s.engine.postings.isEmpty && s.doorUnit.channels.isEmpty &&
      s.scheduler.buses.all (fun e => e.2.queue.isEmpty) && s.engine.waiting.isEmpty &&
      s.engine.tabs.all (fun e => decide (e.2.state = .free)) &&
      s.lanes.all fun l => !l.gate && !l.softGate)

/-! ## Keys and references (R6, R7, R13, R16, R18) -/

/-- R6, R13: no two cards hold the same UID and no two accounts the same number. -/
def State.keysLaw (s : State) : Bool :=
  decide (s.store.cards.map fun e => e.2.uid).Nodup &&
    decide (s.store.accounts.map fun e => e.2.number).Nodup

/-- R4, R7, R16, R18: once the part is loaded, every card names an account of the account table and
configured cabin doors, and its section's bounds are in order. -/
def State.referenceLaw (s : State) : Bool :=
  !s.loaded || s.store.cards.all fun e => (s.cardFailure e.2).isNone

/-- R84: every card's allowance used is at most the daily allowance of its current tier. -/
def State.allowanceLaw (s : State) : Bool :=
  s.store.cards.all fun e => decide (e.2.allowanceUsed ≤ s.tierAllowance e.2.config.tier)

/-! ## Doors (R47, R58) -/

/-- R58: a channel is PENDING exactly when one strike request for its door stands in the queue of the bus
the door is configured on, and no queue holds another door's request twice. -/
def State.pendingLaw (s : State) : Bool :=
  s.doorUnit.channels.all (fun e =>
    decide (e.2.state ≠ .pending) ||
      ((s.doorConfig e.1).configured && (s.bus (s.doorConfig e.1).bus).queue.contains e.1)) &&
  s.scheduler.buses.all fun b =>
    decide b.2.queue.Nodup &&
      b.2.queue.all fun d => decide ((s.channel d).state = .pending) && (s.doorConfig d).bus == b.1

/-- R47: relatches are owed only while the order queue is full, at UNKNOWN doors and at RELEASED doors
whose relatch timer has gone. -/
def State.owedLaw (s : State) : Bool :=
  s.doorUnit.channels.all fun e =>
    !e.2.relatchOwed ||
      (decide (s.scheduler.orders.length = orderQueueRoom) &&
        match e.2.state with
        | .unknown => true
        | .released none _ => true
        | _ => false)

/-! ## Presence (R128, R129, R130) -/

/-- R129: the sixteen counts are those of the card table. -/
def State.countLaw (s : State) : Bool :=
  decide (s.tracker.counts = PresenceCounts.ofCards s.store.cards)

/-- R128, R130: the ashore list holds every ASHORE card once and no other card, and exactly those cards
hold a departure record. -/
def State.ashoreLaw (s : State) : Bool :=
  decide s.tracker.ashore.Nodup &&
  s.tracker.ashore.all (fun slot => (Table.find s.store.cards slot).any
    fun c => decide (c.presence = .ashore)) &&
  s.store.cards.all fun e =>
    (decide (e.2.presence ≠ .ashore) || s.tracker.ashore.contains e.1) &&
      e.2.departure.isSome == decide (e.2.presence = .ashore)

/-! ## Money and tabs (R89, R96, R100) -/

/-- The tabs in OPEN or CLOSING, with their slots. -/
def Engine.tabsHeld (e : Engine) : List Tab := e.tabs.filterMap fun t => TabState.tab t.2.state

/-- R89: for every account, held is the sum of the holds of the tabs that name it and its open tab count
their number, at most 2; for every terminal the count is theirs, at most 8; every tab's hold covers its
total, and it names a card and an account that exist. -/
def State.poolLaw (s : State) : Bool :=
  s.store.accounts.all (fun e =>
    let own := s.engine.tabsHeld.filter fun t => t.accountSlot == e.1
    decide (e.2.held = (own.map Tab.hold).sum) && decide (e.2.openTabs = own.length) &&
      decide (own.length ≤ 2)) &&
  (List.range 64).all (fun n =>
    let own := s.engine.tabsHeld.filter fun t => t.terminal == n
    decide (s.terminalTabs n = own.length) && decide (own.length ≤ 8)) &&
  s.engine.tabsHeld.all fun t =>
    decide (t.sums.total ≤ t.hold) && (Table.find s.store.cards t.cardSlot).isSome &&
      (Table.find s.store.accounts t.accountSlot).isSome

/-- R97: every OPEN tab names a card whose presence is ABOARD or UNVERIFIED. -/
def State.aboardLaw (s : State) : Bool :=
  s.engine.tabs.all fun e =>
    match e.2.state with
    | .opened t _ => (Table.find s.store.cards t.cardSlot).any fun c => c.presence.aboardShip
    | _ => true

/-- R13, R14: a credit limit is at most 10,000,000, and a balance stays in its range with room for what is
held. -/
def State.balanceLaw (s : State) : Bool :=
  s.store.accounts.all fun e =>
    decide (e.2.limit ≤ 10000000) && decide (-10000000 ≤ e.2.balance) &&
      decide (e.2.balance + (e.2.held : Int) ≤ 10000000)

/-- Consecutive posting numbers, from a first number up to the next one to be given (R100). -/
def numbered (next : Nat) : Nat → List Posting → Bool
  | n, [] => n == next
  | n, p :: ps => p.number == n && numbered next (nextNumber n) ps

/-- R100: the numbers rise by one from head to tail, passing from 4,294,967,295 to 1, 0 is never used, and
every DELIVERED record stands before every PENDING one. -/
def State.postingLaw (s : State) : Bool :=
  numbered s.engine.nextPosting s.engine.reference s.engine.postings &&
  s.engine.postings.all (fun p => decide (1 ≤ p.number) && decide (p.number ≤ maxNat32)) &&
  decide (1 ≤ s.engine.nextPosting) && decide (s.engine.nextPosting ≤ maxNat32) &&
  (s.engine.postings.dropWhile fun p => p.delivered).all Posting.isPending

/-- R98: while the waiting list holds an entry the posting queue is full, and it lists the CLOSING tabs
without duplicates. -/
def State.waitingLaw (s : State) : Bool :=
  (s.engine.waiting.isEmpty || decide (s.engine.postings.length = postingQueueRoom)) &&
  decide s.engine.waiting.Nodup &&
  s.engine.waiting.all (fun slot =>
    match (s.tabSlot slot).state with
    | .closing t _ => decide (t.sums.total ≠ 0)
    | _ => false) &&
  s.engine.tabs.all fun e =>
    match e.2.state with
    | .closing .. => s.engine.waiting.contains e.1
    | _ => true

/-! ## Lanes (R109, R112, R117, R118) -/

/-- The beam pattern that a decoder state stands for: S broken, I broken (R117). -/
def Decoder.pattern : Decoder → Bool × Bool
  | .clear => (false, false)
  | .in1 => (true, false)
  | .in2 => (true, true)
  | .in3 => (false, true)
  | .out1 => (false, true)
  | .out2 => (true, true)
  | .out3 => (true, false)
  | .spanX => (true, true)

/-- R109, R112, R113, R117, R118: the gate is effective exactly while the soft gate is SET and the brace
CLOSED; then the flow window runs, and the decoder stands for the beams' levels unless settling holds it in
CLEAR with a beam broken; otherwise the decoder is CLEAR with its marks off. -/
def Lane.law (l : Lane) : Bool :=
  l.gate == (l.softGate && l.brace.level) && l.flowEnd.isSome == l.gate &&
  (if l.gate then
    if l.settling then decide (l.decoder = .clear) && (l.s.level || l.i.level) && !l.mark
    else decide (l.decoder.pattern = (l.s.level, l.i.level))
  else decide (l.decoder = .clear) && !l.mark && !l.settling) &&
  (decide (l.decoder ≠ .clear) || !l.mark)

/-- R119, R120: the live counters and the flow count stay in their ranges. -/
def Lane.countersLaw (l : Lane) : Bool :=
  decide (l.counters.inbound < counterModulus) && decide (l.counters.outbound < counterModulus) &&
  decide (l.counters.ambiguous < counterModulus) && decide (l.counters.scansIn < counterModulus) &&
  decide (l.counters.scansOut < counterModulus) && decide (l.flowCount ≤ 65535)

/-- Every lane keeps its laws. -/
def State.laneLaw (s : State) : Bool := s.lanes.all fun l => l.law && l.countersLaw

/-! ## The link (R155, R156, R157) -/

/-- A place that holds an unread reply. -/
def Place.isReply : Place → Bool
  | .reply _ => true
  | _ => false

/-- A WAITING place. -/
def Place.isWaiting : Place → Bool
  | .waiting _ => true
  | _ => false

/-- The places after the replies: the request in execution with the WAITING ones behind it, or nothing. -/
def restLaw : List Place → Bool
  | [] => true
  | .executing _ :: ps => ps.all Place.isWaiting
  | _ => false

/-- R155, R156, R157: replies stand ahead of the request in execution and that ahead of the WAITING
requests, which wait only for it; the request buffer holds the request in execution, or a frame that
waits while every place holds a reply. -/
def State.linkLaw (s : State) : Bool :=
  restLaw (s.link.places.dropWhile Place.isReply) &&
  match s.link.executing with
  | some c => decide (s.link.buffer = some c)
  | none => s.link.buffer.isNone || decide (s.link.places.length = replyPlaces)

/-! ## The state in which a request is taken at once -/

/-- The link is free for a request: the part takes frames, no request is in execution or WAITING, the
request buffer is empty and a place is FREE. A request command is then executed as its frame arrives. -/
def State.ready (s : State) : Bool :=
  s.takesFrames && s.link.places.all Place.isReply && s.link.buffer.isNone &&
    decide (s.link.places.length < replyPlaces)

/-- A loaded part with a free link and its tables in their canonical form. -/
def State.atWork (s : State) : Bool := s.ready && s.loaded && s.tablesLaw

/-- The state with a reply placed at the tail of the reply queue. -/
def State.replied (s : State) (code tag : Byte) (a : Answer) : State :=
  s.setLink { s.link with places := s.link.places ++ [.reply ⟨code, tag, a⟩] }

/-- R71: precondition 3 of a sale refuses the card presented with this answer, leaving the state `v`. -/
def State.refusesCard (s v : State) (uid issue : Nat) (answer : Answer) : Prop :=
  v = s ∧ s.cardByUid uid = none ∧ answer = .outcome .unknownCard ∨
    ∃ slot c, s.cardByUid uid = some (slot, c) ∧
      (v = s ∧ c.issue < issue ∧ answer = .outcome .unknownCard ∨
        v = s.raise (.supersededCard uid issue) ∧ issue < c.issue ∧ answer = .outcome .superseded)

/-- R72 to R74: preconditions 4 to 8 refuse a sale of these lines with this answer, leaving the state `v`. -/
def State.refusesSale (s v : State) (c : Card) (a : Account) (terminal : Nat) (ls : List Line)
    (answer : Answer) : Prop :=
  v = s ∧ c.presence = .expected ∧ answer = .outcome .notBoarded ∨
  v = s ∧ c.presence = .missed ∧ answer = .outcome .missed ∨
  v = s.raise (.presence c.uid terminal) ∧ c.presence = .ashore ∧ answer = .outcome .presence ∨
  v = s ∧ (c.presence = .aboard ∨ c.presence = .unverified) ∧
    ((s.clock.shipDay < c.config.firstDay ∨ c.config.lastDay < s.clock.shipDay) ∧
        answer = .outcome .expired ∨
      c.config.firstDay ≤ s.clock.shipDay ∧ s.clock.shipDay ≤ c.config.lastDay ∧
        (c.config.privilege = false ∧ answer = .outcome .noCharge ∨
          c.config.privilege = true ∧ (a.status = .frozen ∧ answer = .outcome .frozen ∨
            a.status = .opened ∧ c.config.cls = .child ∧
              ∃ before l after, ls = before ++ l :: after ∧
                (∀ m ∈ before, (s.category m.category).alcohol = false) ∧
                (s.category l.category).alcohol = true ∧ answer = .alcoholLine (before.length + 1))))

/-- R70 to R74: a sale of these lines is refused neither by the mode nor by the card or its account. -/
def State.mayBuy (s : State) (c : Card) (a : Account) (ls : List Line) : Bool :=
  decide (s.store.opState = .service) && c.presence.aboardShip &&
    decide (c.config.firstDay ≤ s.clock.shipDay) && decide (s.clock.shipDay ≤ c.config.lastDay) &&
    c.config.privilege && decide (a.status = .opened) &&
    (decide (c.config.cls ≠ .child) || ls.all fun l => !(s.category l.category).alcohol)

/-- R96, R97: `one` settles an OPEN tab of a departing card, named by its slot. With total 0, or with room in the
posting queue, the tab settles with reason DEPARTED; else it becomes CLOSING and joins the tail of the waiting
list. -/
def departsBy (one : Departed → Nat → Departed) : Prop :=
  ∀ (d : Departed) (n generation deadline : Nat) (t : Tab),
    d.state.tabSlot n = ⟨generation, .opened t deadline⟩ →
    ((t.sums.total = 0 ∨ d.state.engine.postings.length < 1024) →
      one d n = ⟨d.state.settle n t .departed, d.settled + 1, d.waiting⟩) ∧
    (t.sums.total ≠ 0 → 1024 ≤ d.state.engine.postings.length →
      one d n = ⟨{ d.state with engine := { d.state.engine with
        tabs := Table.set ⟨0, .free⟩ d.state.engine.tabs n ⟨generation, .closing t .departed⟩
        waiting := d.state.engine.waiting ++ [n] } }, d.settled, d.waiting + 1⟩)

/-- R97: the slots of the OPEN tabs that name a card slot, ascending. -/
def State.openSlots (s : State) (cardSlot : Nat) (slots : List Nat) : Prop :=
  slots = (s.engine.tabs.filter fun (e : Nat × TabSlot) => match e.2.state with
    | .opened t _ => t.cardSlot == cardSlot
    | _ => false).map Prod.fst

end Sys2Proof.Machine

namespace Sys2Proof

/-! ## The request rows -/

/-- A body that does not fit its message. -/
def Body.isMisfit {α : Type} : Body α → Bool
  | .fit _ => false
  | .misfit _ => true

/-- A request row whose body does not fit its message (R156 step 3). -/
def Instr.misfits : Instr → Bool
  | .summary _ q => q.isMisfit
  | .noticeFetch _ q => q.isMisfit
  | .orderFetch _ q => q.isMisfit
  | .loadBegin _ q => q.isMisfit
  | .loadEnd _ q _ => q.isMisfit
  | .cardPut _ q => q.isMisfit
  | .cardRead _ q => q.isMisfit
  | .cardReissue _ q => q.isMisfit
  | .cardRetire _ q => q.isMisfit
  | .accountPut _ q => q.isMisfit
  | .accountRead _ q => q.isMisfit
  | .accountCredit _ q => q.isMisfit
  | .accountRetire _ q => q.isMisfit
  | .doorPut _ q => q.isMisfit
  | .doorRead _ q => q.isMisfit
  | .categoryPut _ q => q.isMisfit
  | .regionPut _ q => q.isMisfit
  | .tierPut _ q _ => q.isMisfit
  | .settingPut _ q => q.isMisfit
  | .settingRead _ q => q.isMisfit
  | .doorCard _ q => q.isMisfit
  | .doorReport _ q => q.isMisfit
  | .charge _ q => q.isMisfit
  | .void _ q => q.isMisfit
  | .tabOpen _ q => q.isMisfit
  | .tabAdd _ q => q.isMisfit
  | .tabClose _ q => q.isMisfit
  | .tabRead _ q => q.isMisfit
  | .postFetch _ q => q.isMisfit
  | .postRelease _ q => q.isMisfit
  | .postRewind _ q => q.isMisfit
  | .laneOpen _ q => q.isMisfit
  | .laneClose _ q => q.isMisfit
  | .laneRead _ q => q.isMisfit
  | .gangwayCard _ q => q.isMisfit
  | .presenceSet _ q => q.isMisfit
  | .allaboardQuery _ q => q.isMisfit
  | .timeSet _ q => q.isMisfit
  | .dayRoll _ q _ => q.isMisfit
  | .portArrive _ q => q.isMisfit
  | .sail _ q _ => q.isMisfit
  | .modeSetService _ q => q.isMisfit
  | .retain _ q => q.isMisfit
  | .restartWarm _ q => q.isMisfit
  | _ => false

/-- The row of the gate's table of R2 that a request of the catalogue stands in. -/
def Instr.gate : Instr → Option Machine.Gate
  | .summary .. => some .always
  | .noticeFetch .. => some .always
  | .orderFetch .. => some .always
  | .loadBegin .. => some .whenUnloaded
  | .loadEnd .. => some .whenLoading
  | .cardPut .. => some .fromLoading
  | .cardRead .. => some .always
  | .cardReissue .. => some .fromLoading
  | .cardRetire .. => some .fromLoading
  | .accountPut .. => some .fromLoading
  | .accountRead .. => some .always
  | .accountCredit .. => some .fromLoading
  | .accountRetire .. => some .fromLoading
  | .doorPut .. => some .fromLoading
  | .doorRead .. => some .always
  | .categoryPut .. => some .always
  | .regionPut .. => some .always
  | .tierPut .. => some .always
  | .settingPut .. => some .always
  | .settingRead .. => some .always
  | .doorCard .. => some .whenLoaded
  | .doorReport .. => some .whenLoaded
  | .charge .. => some .whenLoaded
  | .void .. => some .whenLoaded
  | .tabOpen .. => some .whenLoaded
  | .tabAdd .. => some .whenLoaded
  | .tabClose .. => some .whenLoaded
  | .tabRead .. => some .always
  | .postFetch .. => some .always
  | .postRelease .. => some .always
  | .postRewind .. => some .always
  | .laneOpen .. => some .whenLoaded
  | .laneClose .. => some .whenLoaded
  | .laneRead .. => some .always
  | .gangwayCard .. => some .whenLoaded
  | .presenceSet .. => some .whenLoaded
  | .allaboardQuery .. => some .whenLoaded
  | .timeSet .. => some .always
  | .dayRoll .. => some .whenLoaded
  | .portArrive .. => some .whenLoaded
  | .sail .. => some .whenLoaded
  | .modeSetSecure .. => some .whenLoaded
  | .modeSetService .. => some .whenLoaded
  | .retain .. => some .always
  | .restartWarm .. => some .always
  | .restartCold .. => some .always
  | _ => none

end Sys2Proof
end

