-- ==== Sys2Proof/Certificates/Slice0/Obligations.lean ====
section
/-! DEFINITION. The statements for the provers. Most are about `exec`: the state that a command leaves, field
by field, as the rule named gives it. A request is taken on a free link (`State.ready`): it is executed as
its frame arrives and its reply takes a place of the reply queue (`State.replied`). -/

open Sys2Proof Sys2Proof.Machine

/-! ## The machine -/

/-- The command at the front of the queue runs on the state with the rest of the queue. -/
def Obligations.StepRunsTheFrontCommand : Prop :=
  ∀ (c : Instr) (rest : List Instr) (s : State),
    step { s with pending := c :: rest } = exec c { s with pending := rest }

/-- R145: the clock as time passes. RUN_SECONDS_RISE ends the second under way: run-seconds rise by 1, saturating
at 4,294,967,295, and with each rise a set ship time rises and wraps past 86,399. An idle step is one millisecond
(the model's choice, log 2), in which a second ends when the timer completes another 1,000. Ship day, port
condition, region and every other part of the state stay. No time passes in retention or reset (R165, R166). -/
def Obligations.TimePassesWithRisesAndIdleSteps : Prop :=
  ∀ s : State,
    (s.takesEvents = true → s.clockLaw = true →
      (s.clock.runSeconds < 4294967295 →
        exec .runSecondsRise s = .next { s with clock := { s.clock with
          ms := (s.clock.ms / 1000 + 1) * 1000
          runSeconds := s.clock.runSeconds + 1
          shipTime := s.clock.shipTime.map fun t => if t = 86399 then 0 else t + 1 } }) ∧
      (s.clock.runSeconds = 4294967295 →
        exec .runSecondsRise s = .next { s with clock := { s.clock with
          ms := (s.clock.ms / 1000 + 1) * 1000 } }) ∧
      (s.pending = [] → ((s.clock.ms + 1) % 1000 ≠ 0 ∨ s.clock.runSeconds = 4294967295) →
        step s = .next { s with clock := { s.clock with ms := s.clock.ms + 1 } }) ∧
      (s.pending = [] → (s.clock.ms + 1) % 1000 = 0 → s.clock.runSeconds < 4294967295 →
        step s = .next { s with clock := { s.clock with
          ms := s.clock.ms + 1
          runSeconds := s.clock.runSeconds + 1
          shipTime := s.clock.shipTime.map fun t => if t = 86399 then 0 else t + 1 } })) ∧
    (s.takesEvents = true → s.pending = [] →
      step s = .next { s with clock := s.clock.advanceTo (s.clock.ms + 1) }) ∧
    (s.takesEvents = false → exec .runSecondsRise s = .next s) ∧
    (s.takesEvents = false → s.pending = [] → step s = .next s)

/-- R165, with R1, R6, R13, R17, R20 to R22, R42, R45, R58 to R61, R63, R89, R100, R101, R109, R129, R130, R144,
R155, R161 and R164: the values of the cold start, register by register, which every law admits. The pins' levels in
it are the model's choice (log 5), and `freeCount`, the count of the free values, is the model's own field
(log 12). -/
def Obligations.ResetHoldsTheColdStart : Prop :=
  (State.reset.store.opState = .unloaded ∧ State.reset.store.mode = .service ∧
    State.reset.store.cards = [] ∧ State.reset.store.accounts = [] ∧
    (∀ door, State.reset.doorConfig door = ⟨false, 0, 0⟩) ∧
    (∀ category, State.reset.category category = ⟨false, false, 0⟩) ∧
    (∀ region, Table.get 0 State.reset.store.regions region = 0) ∧
    (∀ tier, State.reset.tier tier = ⟨0#16, 0, 0⟩) ∧
    State.reset.store.settings = {
      relatchTime := 6
      ajarTime := 90
      strikeConfirmTime := 3
      relatchConfirmTime := 5
      busBudget := 4
      busWindow := 800
      refusalLimit := 5
      refusalWindow := 60
      blockTime := 30
      auditInterval := 1
      pollMissLimit := 3
      tabIdleLimit := 240
      tabDefaultHold := 5000
      voidWindow := 120
      escortWindow := 120
      debounce := 15
      laneRole := ⟨.both, .both, .both, .both⟩
      flowWindow := ⟨30, 30, 30, 30⟩
      flowLimit := ⟨40, 40, 40, 40⟩
      tailgateTolerance := 3
      highWater := 768 }) ∧
  State.reset.tracker = ⟨⟨⟨0, 0, 0, 0⟩, ⟨0, 0, 0, 0⟩, ⟨0, 0, 0, 0⟩, ⟨0, 0, 0, 0⟩⟩, []⟩ ∧
  ((∀ slot, State.reset.tabSlot slot = ⟨0, .free⟩) ∧ (∀ terminal, State.reset.terminalTabs terminal = 0) ∧
    State.reset.engine.waiting = [] ∧ State.reset.engine.postings = [] ∧
    State.reset.engine.nextPosting = 1 ∧ State.reset.engine.highWaterArmed = true) ∧
  ((∀ door, State.reset.channel door = ⟨.unknown, false, none, false, false, 0⟩) ∧
    State.reset.doorUnit.auditPointer = 0 ∧ State.reset.doorUnit.auditNext = none ∧
    (∀ b, State.reset.bus b = ⟨[], []⟩) ∧ State.reset.scheduler.orders = [] ∧
    State.reset.scheduler.latestBus = 15 ∧ ∀ door, State.reset.reader door = ⟨[], none⟩) ∧
  (∀ n, Four.get State.reset.lanes n = {
    s := ⟨false, false, none⟩
    i := ⟨false, false, none⟩
    brace := ⟨false, false, none⟩
    held := none
    alone := none
    softGate := false
    gate := false
    decoder := .clear
    mark := false
    settling := false
    counters := ⟨0, 0, 0, 0, 0⟩
    openTime := ⟨0, none⟩
    flowCount := 0
    flowEnd := none
    crowdingArmed := true
    armedIn := true
    armedOut := true
    hold := none }) ∧
  State.reset.clock = ⟨0, none, .atSea, 0, 0, 0⟩ ∧
  State.reset.retention = {
    phase := .running
    checkWord := none
    mark := false
    pfailSeen := false
    pfail := false
    resetHeld := false
    vretFailed := false
    store := .kept } ∧
  State.reset.link = ⟨none, none, [], [⟨.wakeResult .cold, 0, none⟩], false⟩ ∧ State.reset.rrdy = false ∧
  State.reset.attn = true ∧ State.reset.freeCount = 0 ∧ State.reset.pending = [] ∧
  State.reset.modeLaw = true ∧ State.reset.clockLaw = true ∧ State.reset.portLaw = true ∧
  State.reset.tablesLaw = true ∧ State.reset.store.settings.law = true ∧ State.reset.roomLaw = true ∧
  State.reset.unloadedLaw = true ∧ State.reset.keysLaw = true ∧ State.reset.referenceLaw = true ∧
  State.reset.allowanceLaw = true ∧ State.reset.pendingLaw = true ∧ State.reset.owedLaw = true ∧
  State.reset.countLaw = true ∧ State.reset.ashoreLaw = true ∧ State.reset.poolLaw = true ∧
  State.reset.aboardLaw = true ∧ State.reset.balanceLaw = true ∧ State.reset.postingLaw = true ∧
  State.reset.waitingLaw = true ∧ State.reset.laneLaw = true ∧ State.reset.linkLaw = true

/-! ## Frames (R153, R154, R156) -/

/-- R153, R154: a frame sent whole is received SOUND with its code, tag and body, whatever fill bytes stand
before its sync byte and whatever bytes follow; with another CRC it is BAD_CRC with its tag; with a body
length above 240 it is TOO_LONG. -/
def Obligations.FramesAreReceivedAsSent : Prop :=
  ∀ (fill body rest : List Byte) (code tag : Byte), fill.all (fun b => b != syncByte) = true →
    (body.length ≤ 240 →
      receiveFrame (fill ++ frameBytes code tag body ++ rest) = some (.sound code tag body)) ∧
    (∀ x y : Byte, body.length ≤ 240 →
      natToBytes 2 (crc16 (natToBytes 2 body.length ++ code :: tag :: body)).toNat ≠ [x, y] →
      receiveFrame (fill ++ syncByte :: natToBytes 2 body.length ++ code :: tag :: body ++ x :: y :: rest) =
        some (.badCrc tag)) ∧
    (∀ h l : Byte, 240 < h.toNat * 256 + l.toNat →
      receiveFrame (fill ++ syncByte :: h :: l :: rest) = some .tooLong)

/-- R156, Table 31: every well-formed request of the catalogue whose body fits, sent as a frame, is received
as the frame of that request, with every field as it was. -/
def Obligations.CatalogueFramesRoundTrip : Prop :=
  ∀ (c : Instr) (bytes : List Byte), c.wf = true → c.asFramed = c → c.frame = some bytes →
    (receiveFrame bytes).map Frame.request = some c

/-- Whatever bytes arrive, the request that a received frame makes is a well-formed command. -/
def Obligations.ReceivedRequestsAreWellFormed : Prop :=
  ∀ (sdi : List Byte) (f : Frame), receiveFrame sdi = some f → f.request.wf = true

/-! ## The link (R155 to R158, R162, R163) -/

/-- R2, R156 steps 3 and 4: a request whose body does not fit its message is answered LENGTH, and one that the
operating state does not take is answered with the status of the gate's table; neither changes anything
else. -/
def Obligations.LengthAndOperatingStateAreJudgedFirst : Prop :=
  ∀ (c : Instr) (k : Byte) (s : State), s.ready = true → c.asFramed = c → c.code = some k →
    (c.misfits = true → exec c s = .next (s.replied (k + 0x80#8) c.tag (.refused .length))) ∧
    (∀ (g : Gate) (st : Status), c.misfits = false → c.gate = some g →
      g.refusal s.store.opState = some st →
      exec c s = .next (s.replied (k + 0x80#8) c.tag (.refused st)))

/-- R153, R165, R166: outside operation no frame is taken: a frame received is discarded, its transfer having had
its one frame, and the reception of anything else, or a request that is not in execution, leaves the part as it
was. -/
def Obligations.NoFrameIsTakenOutsideOperation : Prop :=
  ∀ (s : State) (began : Reception) (sdi : List Byte), s.takesFrames = false →
    (receiveFrame sdi = none → exec (.frameReceived began sdi) s = .next s) ∧
    (∀ t, s.link.transfer = some t → (receiveFrame sdi).isSome = true →
      exec (.frameReceived began sdi) s = .next (s.setLink { s.link with
        transfer := some { t with framed := true } })) ∧
    (∀ (c : Instr) (k : Byte), c.code = some k → s.link.executing ≠ some c.asFramed →
      exec c s = .next s)

/-- R153, R155: a sound frame takes a FREE place (and is executed when nothing else is), waits in the empty
request buffer, or is discarded, as is a frame whose reception began before a wake; it is the one frame of its
transfer, so that a second frame changes nothing, and so do bytes without a whole frame. -/
def Obligations.FramesGoByTheReplyQueue : Prop :=
  ∀ (s : State) (sdi : List Byte) (f : Frame) (t : Transfer), s.takesFrames = true →
    receiveFrame sdi = some f → s.link.transfer = some t → t.framed = false →
    (s.link.places.all Place.isReply = true → s.link.places.length < 4 →
      exec (.frameReceived .inOperation sdi) s = .next (s.setLink { s.link with
        transfer := some { t with framed := true }
        places := s.link.places ++ [.executing f.request]
        buffer := some f.request })) ∧
    (∀ c, s.link.executing = some c → s.link.places.length < 4 →
      exec (.frameReceived .inOperation sdi) s = .next (s.setLink { s.link with
        transfer := some { t with framed := true }
        places := s.link.places ++ [.waiting f.request] })) ∧
    (s.link.places.length = 4 → s.link.buffer = none →
      exec (.frameReceived .inOperation sdi) s = .next (s.setLink { s.link with
        transfer := some { t with framed := true }
        buffer := some f.request })) ∧
    (∀ c, s.link.places.length = 4 → s.link.buffer = some c →
      exec (.frameReceived .inOperation sdi) s = .next (s.setLink { s.link with
        transfer := some { t with framed := true } })) ∧
    exec (.frameReceived .beforeWake sdi) s = .next (s.setLink { s.link with
      transfer := some { t with framed := true } }) ∧
    (∀ began u, receiveFrame u = none → exec (.frameReceived began u) s = .next s) ∧
    (∀ began u, exec (.frameReceived began u)
        (s.setLink { s.link with transfer := some { t with framed := true } }) =
      .next (s.setLink { s.link with transfer := some { t with framed := true } }))

/-- R153, R157, R166: a transfer sends the reply that stands at the head as SCS is asserted, from its first byte,
and idle bytes 0x00 after its last; with no reply at the head, or outside operation, it sends idle bytes alone. At
the deassertion a reply clocked out in full leaves its place, and a frame waiting in the buffer takes it and is
executed; a reply not clocked out in full stays. -/
def Obligations.TransfersReadTheHeadReply : Prop :=
  ∀ (s : State) (n : Nat),
    ((s.takesFrames = false ∨ ∀ r rest, s.link.places ≠ .reply r :: rest) → s.link.transfer = none →
      exec .transferStart s = .next (s.setLink { s.link with transfer := some ⟨none, false⟩ })) ∧
    (∀ t, s.link.transfer = some t → exec .transferStart s = .next s) ∧
    (∀ b, s.link.transfer = some ⟨none, b⟩ →
      exec (.transferEnd n) s = .next (s.setLink { s.link with transfer := none }) ∧
      s.sdo n = List.replicate n 0x00#8) ∧
    (∀ r b, s.link.transfer = some ⟨some r, b⟩ → (s.sdo n).length = n ∧
      (∀ i, i < n → (s.sdo n)[i]? = some (r.bytes.getD i 0x00#8)) ∧
      ((n < r.bytes.length ∨ ∀ rest, s.link.places ≠ .reply r :: rest) →
        exec (.transferEnd n) s = .next (s.setLink { s.link with transfer := none }))) ∧
    (∀ r rest, s.link.places = .reply r :: rest →
      (s.takesFrames = true → s.link.transfer = none →
        exec .transferStart s = .next (s.setLink { s.link with transfer := some ⟨some r, false⟩ })) ∧
      (∀ b, s.link.transfer = some ⟨some r, b⟩ → r.bytes.length ≤ n →
        ((s.link.buffer = none ∨ ∃ c, s.link.executing = some c) →
          exec (.transferEnd n) s = .next (s.setLink { s.link with transfer := none, places := rest })) ∧
        (∀ c, rest.all Place.isReply = true → s.link.buffer = some c →
          exec (.transferEnd n) s = .next (s.setLink { s.link with
            transfer := none
            places := rest ++ [.executing c]
            buffer := some c }))))

/-- R156 steps 1 and 2: a frame marked BAD_CRC or TOO_LONG is answered FRAME and a code that names no message
UNKNOWN, both with reply code 0xFF and the tag, and nothing is executed. -/
def Obligations.BadFramesAndUnknownCodesAreAnswered : Prop :=
  ∀ (s : State) (m : BadMark) (code tag : Byte), s.ready = true →
    exec (.badFrame m tag) s = .next (s.replied 0xFF#8 tag (.refused .frame)) ∧
    exec (.unknownCode code tag) s = .next (s.replied 0xFF#8 tag (.refused .unknown))

/-- R156, R158, R166: the end of a request in execution, whatever request it is. It has the effect that it has
on a free link (the state `u`), its reply takes its place, behind the unread replies, with its reply code and its
tag, and the oldest WAITING request begins, if there is one. Then RRDY is asserted. While retention is entered
the effect is the same and no reply is placed; RETAIN and RESTART empty the queue. A request that takes time ends
so at REQUEST_COMPLETION (the model's choice, log 3): a DAY.ROLL, for one, has zeroed every card's counters. RRDY
stands for a reply at the head, and ATTN for a notice, a lost one, an order, a PENDING posting or a waiting
tab. -/
def Obligations.CompletionBeginsTheOldestWaitingRequest : Prop :=
  (∀ s : State,
    (s.rrdy = true ↔ s.takesFrames = true ∧ ∃ r rest, s.link.places = .reply r :: rest) ∧
    (s.attn = true ↔ s.takesFrames = true ∧ (s.link.notices ≠ [] ∨ s.link.lost = true ∨
      s.scheduler.orders ≠ [] ∨ (∃ p ∈ s.engine.postings, p.delivered = false) ∨ s.engine.waiting ≠ []))) ∧
  ∀ (s u : State) (c : Instr) (code : Byte) (replies waits begun : List Place) (buffer : Option Instr)
    (slow : Prop),
    s.retention.resetHeld = false → c.asFramed = c →
    ((∃ k, c.code = some k ∧ code = k + 0x80#8) ∨
      ((∃ m t, c = .badFrame m t) ∨ ∃ k t, c = .unknownCode k t) ∧ code = 0xFF#8) →
    s.link.places = replies ++ .executing c :: waits → replies.all Place.isReply = true →
    waits.all Place.isWaiting = true →
    (waits = [] ∧ begun = [] ∧ buffer = none ∨
      ∃ next rest, waits = .waiting next :: rest ∧ begun = .executing next :: rest ∧ buffer = some next) →
    u = { s with
      retention := { s.retention with phase := .running }
      link := { s.link with places := [], buffer := none } } →
    (slow ↔ ∃ tag q p, c = .loadEnd tag q .whole ∨ c = .tierPut tag p .whole ∨ c = .dayRoll tag q .whole ∨
      c = .sail tag q .whole ∨ c = .modeSetSecure tag .whole) →
    ((∀ tag, c ≠ .retain tag (.fit ()) ∧ c ≠ .restartWarm tag (.fit 0) ∧ c ≠ .restartCold tag) →
      ∃ (w t e : State) (a : Answer), exec c u = .next w ∧
        w.link.places = [.reply ⟨code, c.tag, a⟩] ∧ w.link.buffer = none ∧
        t = w.setLink { w.link with
          places := replies ++ .reply ⟨code, c.tag, a⟩ :: begun
          buffer := buffer } ∧ t.rrdy = true ∧
        e = { w with
          retention := s.retention
          link := { w.link with places := [], buffer := none } } ∧
        (s.retention.phase = .running →
          exec c s = .next t ∧ (slow → exec .requestCompletion s = .next t)) ∧
        (s.retention.phase = .entering →
          exec c s = .next e ∧ (slow → exec .requestCompletion s = .next e))) ∧
    ((∃ tag, c = .retain tag (.fit ()) ∨ c = .restartWarm tag (.fit 0) ∨ c = .restartCold tag) →
      s.retention.phase = .running → exec c s = exec c u) ∧
    (∀ tag, c = .dayRoll tag (.fit ()) .whole → s.retention.phase = .running → s.loaded = true →
      s.clock.shipDay < 65535 →
      exec .requestCompletion s = .next { s with
        store := { s.store with cards := s.store.cards.map fun (e : Nat × Card) =>
          (e.1, { e.2 with allowanceUsed := 0, daySpent := 0 }) }
        clock := { s.clock with shipDay := s.clock.shipDay + 1 }
        link := { s.link with
          places := replies ++ .reply ⟨0xE1#8, tag, .shipDay (s.clock.shipDay + 1)⟩ :: begun
          buffer := buffer } })

/-- R162: NOTICE.FETCH removes the oldest notices, up to 8, returns them with the number left and the lost
flag, and clears the flag. -/
def Obligations.NoticeFetchRemovesTheOldestNotices : Prop :=
  ∀ (s : State) (tag : Byte), s.ready = true →
    exec (.noticeFetch tag (.fit ())) s = .next ((s.setLink { s.link with
      notices := s.link.notices.drop 8
      lost := false }).replied 0x82#8 tag
        (.notices (s.link.notices.take 8) (s.link.notices.length - 8) s.link.lost))

/-- R10, R15, R19, R23, R90, R124, R141, R163: the reads answer what the part holds, field by field, and change
nothing but the reply queue; an operand outside its range is RANGE, and a card or an account that is not there
NOT_FOUND. A tab whose card or account is missing, which no run reaches, reads 0 in that field (the model's answer,
log 20). -/
def Obligations.ReadsAnswerAndChangeNothing : Prop :=
  ∀ (s : State) (tag : Byte), s.ready = true →
    exec (.summary tag (.fit ())) s = .next (s.replied 0x81#8 tag (.summary {
      opState := s.store.opState
      mode := s.store.mode
      port := s.clock.port
      region := s.clock.region
      shipDay := s.clock.shipDay
      shipTime := s.clock.shipTime
      counts := s.tracker.counts
      orderDepth := s.scheduler.orders.length
      noticeDepth := s.link.notices.length
      pendingPostings := (s.engine.postings.filter fun p => !p.delivered).length
      deliveredPostings := (s.engine.postings.filter fun p => p.delivered).length
      waitingDepth := s.engine.waiting.length
      lost := s.link.lost
      openTabs := (s.engine.tabs.filter fun e => decide (e.2.state ≠ .free)).length
      lanes := ⟨(s.lanes.l0.gate, s.lanes.l0.brace.level), (s.lanes.l1.gate, s.lanes.l1.brace.level),
        (s.lanes.l2.gate, s.lanes.l2.brace.level), (s.lanes.l3.gate, s.lanes.l3.brace.level)⟩ })) ∧
    (∀ uid k slot c, s.cardByUid uid = some (slot, c) →
      exec (.cardRead tag (.fit ⟨0, uid, k⟩)) s = .next (s.replied 0x93#8 tag
        (.cardRead slot c ((s.accountByNumber c.config.account).map Prod.fst)))) ∧
    (∀ uid slot c, slot < 8192 → Table.find s.store.cards slot = some c →
      exec (.cardRead tag (.fit ⟨1, uid, slot⟩)) s = .next (s.replied 0x93#8 tag
        (.cardRead slot c ((s.accountByNumber c.config.account).map Prod.fst)))) ∧
    (∀ selector uid slot,
      (1 < selector ∨ selector = 1 ∧ 8191 < slot →
        exec (.cardRead tag (.fit ⟨selector, uid, slot⟩)) s = .next (s.replied 0x93#8 tag (.refused .range))) ∧
      (selector = 0 ∧ s.cardByUid uid = none ∨
          selector = 1 ∧ slot ≤ 8191 ∧ Table.find s.store.cards slot = none →
        exec (.cardRead tag (.fit ⟨selector, uid, slot⟩)) s =
          .next (s.replied 0x93#8 tag (.refused .notFound)))) ∧
    (∀ number, (∀ slot a, s.accountByNumber number = some (slot, a) →
        exec (.accountRead tag (.fit number)) s = .next (s.replied 0x97#8 tag
          (.accountRead slot a (s.store.cards.filter fun e => e.2.config.account == number).length
            ((a.limit : Int) - a.balance - (a.held : Int)).toNat))) ∧
      (s.accountByNumber number = none →
        exec (.accountRead tag (.fit number)) s = .next (s.replied 0x97#8 tag (.refused .notFound)))) ∧
    (∀ door, (door ≤ 4095 →
        exec (.doorRead tag (.fit door)) s = .next (s.replied 0x9B#8 tag (.doorRead {
          config := s.doorConfig door
          state := (s.channel door).state
          dnd := (s.channel door).dnd
          relatchOwed := (s.channel door).relatchOwed
          pollOutstanding := (s.channel door).pollOutstanding
          missCount := (s.channel door).missCount
          refusals := (s.reader door).history.length
          blocked := (s.reader door).blockedUntil.any fun t => decide (s.clock.runSeconds < t) }))) ∧
      (4095 < door → exec (.doorRead tag (.fit door)) s = .next (s.replied 0x9B#8 tag (.refused .range)))) ∧
    (∀ id lane name, settingOf id lane = .ok name →
      exec (.settingRead tag (.fit ⟨id, lane⟩)) s = .next (s.replied 0xA0#8 tag
        (.setting (s.store.settings.read name)))) ∧
    (∀ slot, 127 < slot → exec (.tabRead tag (.fit slot)) s = .next (s.replied 0xC5#8 tag (.refused .range))) ∧
    (∀ slot generation, slot ≤ 127 → s.tabSlot slot = ⟨generation, .free⟩ →
      exec (.tabRead tag (.fit slot)) s = .next (s.replied 0xC5#8 tag (.tabRead generation none))) ∧
    (∀ slot generation st tab deadline reason left place, slot ≤ 127 → s.tabSlot slot = ⟨generation, st⟩ →
      ((∃ t, st = .opened tab t ∧ deadline = some t ∧ left = some (t - s.clock.runSeconds)) ∧ reason = none ∧
          place = none ∨
        (∃ r, st = .closing tab r ∧ reason = some r) ∧ deadline = none ∧ left = none ∧
          place = some (s.engine.waiting.idxOf slot + 1)) →
      exec (.tabRead tag (.fit slot)) s = .next (s.replied 0xC5#8 tag (.tabRead generation (some {
        terminal := tab.terminal
        uid := ((Table.find s.store.cards tab.cardSlot).map Card.uid).getD 0
        account := ((Table.find s.store.accounts tab.accountSlot).map Account.number).getD 0
        hold := tab.hold
        sums := tab.sums
        lineCount := tab.lineCount
        lastActivity := tab.lastActivity
        idleDeadline := deadline
        reason := reason
        secondsLeft := left
        place := place })))) ∧
    (∀ n l, (∀ dIn dOut : Int, n ≤ 3 → Four.get s.lanes n = l →
        (∃ k : Int, dIn = (l.counters.inbound : Int) - l.counters.scansIn + k * 16777216) →
        (∃ k : Int, dOut = (l.counters.outbound : Int) - l.counters.scansOut + k * 16777216) →
        -8388608 ≤ dIn → dIn < 8388608 → -8388608 ≤ dOut → dOut < 8388608 →
        exec (.laneRead tag (.fit n)) s = .next (s.replied 0xD2#8 tag (.laneRead {
          softGate := l.softGate
          brace := l.brace.level
          gate := l.gate
          s := l.s.level
          i := l.i.level
          decoder := l.decoder
          mark := l.mark
          settling := l.settling
          counters := l.counters
          openTime := l.openTime
          effectiveFor := if l.gate then some (s.clock.runSeconds - l.openTime.runSeconds) else none
          flow := if l.gate then l.flowEnd.map fun e => (l.flowCount, e - s.clock.ms, l.crowdingArmed) else none
          differenceIn := dIn
          differenceOut := dOut
          armedIn := l.armedIn
          armedOut := l.armedOut
          role := Four.get s.store.settings.laneRole n
          flowWindow := Four.get s.store.settings.flowWindow n
          flowLimit := Four.get s.store.settings.flowLimit n
          hold := l.hold }))) ∧
      (3 < n → exec (.laneRead tag (.fit n)) s = .next (s.replied 0xD2#8 tag (.refused .range)))) ∧
    (∀ start count, s.loaded = true →
      (start ≤ 8191 → 1 ≤ count → count ≤ 16 →
        exec (.allaboardQuery tag (.fit ⟨start, count⟩)) s = .next (s.replied 0xD9#8 tag
          (.allAboard s.tracker.counts s.tracker.ashore.length start
            (((s.tracker.ashore.drop start).take count).filterMap fun slot =>
              (Table.find s.store.cards slot).map fun c => ⟨c.uid, c.config.account, c.config.cls,
                c.departure.bind Departure.shipTime, c.departure.bind Departure.lane⟩)))) ∧
      (8191 < start ∨ count = 0 ∨ 16 < count →
        exec (.allaboardQuery tag (.fit ⟨start, count⟩)) s =
          .next (s.replied 0xD9#8 tag (.refused .range))))

/-! ## The Credential Store (R3 to R24, R107) -/

/-- R3: LOAD.BEGIN, taken in UNLOADED, sets the ship day carried and the operating state LOADING; every other
part of the state stays. In any other operating state it is refused with STATE. -/
def Obligations.LoadBeginOpensLoading : Prop :=
  ∀ (s : State) (tag : Byte) (day : Nat), s.ready = true →
    (s.store.opState = .unloaded → exec (.loadBegin tag (.fit day)) s = .next ({ s with
      store := { s.store with opState := .loading }
      clock := { s.clock with shipDay := day } }.replied 0x90#8 tag (.loadBegun day))) ∧
    (s.store.opState ≠ .unloaded →
      exec (.loadBegin tag (.fit day)) s = .next (s.replied 0x90#8 tag (.refused .state)))

/-- R4, R5, R63: LOAD.END. When every card names an account, configured cabin doors and a section in order,
the part enters service: counts afresh, every channel at its start, no refusal kept, the first audit step one
interval later. When a card fails, the first failing slot and its reason are answered and nothing changes. -/
def Obligations.LoadEndEntersServiceOrNamesTheFailure : Prop :=
  ∀ (s : State) (tag : Byte), s.ready = true → s.store.opState = .loading →
    ((∀ e ∈ s.store.cards, (s.accountByNumber e.2.config.account).isSome = true ∧
        (∀ d ∈ e.2.config.cabins, (s.doorConfig d).configured = true) ∧
        (∀ p, e.2.config.section_ = some p → p.first ≤ p.second)) →
      exec (.loadEnd tag (.fit ()) .whole) s = .next ({ s with
        store := { s.store with opState := .service, mode := .service }
        tracker := ⟨PresenceCounts.ofCards s.store.cards, s.ashoreAfresh⟩
        doorUnit := ⟨[], 0, if s.store.settings.auditInterval = 0 then none
          else some (s.clock.runSeconds + s.store.settings.auditInterval)⟩
        readers := [] }.replied 0x91#8 tag (.loadPassed s.store.cards.length))) ∧
    (∀ before slot c after, s.store.cards = before ++ (slot, c) :: after →
      (∀ e ∈ before, s.cardFailure e.2 = none) →
      ((s.accountByNumber c.config.account = none →
        exec (.loadEnd tag (.fit ()) .whole) s =
          .next (s.replied 0x91#8 tag (.loadFailed slot .noAccount))) ∧
      ((s.accountByNumber c.config.account).isSome = true →
        (∃ d ∈ c.config.cabins, (s.doorConfig d).configured = false) →
        exec (.loadEnd tag (.fit ()) .whole) s =
          .next (s.replied 0x91#8 tag (.loadFailed slot .noDoor))) ∧
      (∀ p, (s.accountByNumber c.config.account).isSome = true →
        (∀ d ∈ c.config.cabins, (s.doorConfig d).configured = true) →
        c.config.section_ = some p → p.second < p.first →
        exec (.loadEnd tag (.fit ()) .whole) s =
          .next (s.replied 0x91#8 tag (.loadFailed slot .section_)))))

/-- R7, R8, R9: CARD.PUT. A field outside its range is RANGE; then a NEW put of a UID in the table is EXISTS, and
FULL without a free slot, and a CHANGE put of another UID NOT_FOUND; then the references, which LOADING leaves to
the check, give NOT_FOUND or RANGE. NEW takes the lowest free slot and is counted; CHANGE replaces the configuration
alone, moves the class count and brings allowance used down to a new tier's allowance, and is TAB_OPEN where it
would take a card with a tab to another account. -/
def Obligations.CardPutsWriteTheCardTable : Prop :=
  ∀ (s : State) (tag : Byte) (q : CardPutReq), s.ready = true → s.store.opState ≠ .unloaded →
    ((3 < q.cls ∨ 2 < q.cabinCount ∨ 1 ≤ q.cabinCount ∧ 4095 < q.cabin0 ∨
        q.cabinCount = 2 ∧ (4095 < q.cabin1 ∨ q.cabin0 = q.cabin1) ∨
        1 < q.section_.presence ∨ q.section_.presence = 1 ∧
          (q.cls ≠ 2 ∨ 4095 < q.section_.value.first ∨ 4095 < q.section_.value.second) ∨
        1 < q.hours.presence ∨ q.hours.presence = 1 ∧
          (q.cls ≠ 2 ∨ 1439 < q.hours.value.first ∨ 1439 < q.hours.value.second ∨
            q.hours.value.first = q.hours.value.second) ∨
        1 < q.privilege ∨ q.lastDay < q.firstDay ∨ 3 < q.tier ∨ 1 < q.dailyCap.presence ∨
        q.dailyCap.presence = 1 ∧ (q.cls ≠ 1 ∨ 1000000 < q.dailyCap.value) ∨
        1 < q.kind ∨ q.kind = 0 ∧ (15 < q.issue ∨ 1 < q.presence)) →
      exec (.cardPut tag (.fit q)) s = .next (s.replied 0x92#8 tag (.refused .range))) ∧
    ∀ g, cardConfigOf q = some g →
    (∀ p, q.kind = 0 → initialPresenceOf q.presence = some p → q.issue ≤ 15 →
      ((∃ e, s.cardByUid q.uid = some e) →
        exec (.cardPut tag (.fit q)) s = .next (s.replied 0x92#8 tag (.refused .exists_))) ∧
      (s.cardByUid q.uid = none → Table.freeSlot 8192 s.store.cards = none →
        exec (.cardPut tag (.fit q)) s = .next (s.replied 0x92#8 tag (.refused .full)))) ∧
    (q.kind = 1 → s.cardByUid q.uid = none →
      exec (.cardPut tag (.fit q)) s = .next (s.replied 0x92#8 tag (.refused .notFound))) ∧
    (∀ status, s.loaded = true →
      (s.accountByNumber g.account = none ∧ status = Status.notFound ∨
        (s.accountByNumber g.account).isSome = true ∧
          ((∃ d ∈ g.cabins, (s.doorConfig d).configured = false) ∧ status = .notFound ∨
            (∀ d ∈ g.cabins, (s.doorConfig d).configured = true) ∧
              (∃ p, g.section_ = some p ∧ p.second < p.first) ∧ status = .range)) →
      (q.kind = 0 ∧ (initialPresenceOf q.presence).isSome = true ∧ q.issue ≤ 15 ∧
          s.cardByUid q.uid = none ∧ (Table.freeSlot 8192 s.store.cards).isSome = true ∨
        q.kind = 1 ∧ (s.cardByUid q.uid).isSome = true) →
      exec (.cardPut tag (.fit q)) s = .next (s.replied 0x92#8 tag (.refused status))) ∧
    ((s.store.opState = .loading ∨ s.loaded = true ∧
        (s.accountByNumber g.account).isSome = true ∧
        (∀ d ∈ g.cabins, (s.doorConfig d).configured = true) ∧
        (∀ p, g.section_ = some p → p.first ≤ p.second)) →
      (∀ p slot, q.kind = 0 → initialPresenceOf q.presence = some p → q.issue ≤ 15 →
        s.cardByUid q.uid = none → Table.freeSlot 8192 s.store.cards = some slot →
        exec (.cardPut tag (.fit q)) s = .next ({ s with
          store := { s.store with
            cards := Table.put s.store.cards slot ⟨q.uid, q.issue, g, 0, 0, p, none⟩ }
          tracker := { s.tracker with counts := s.tracker.counts.count g.cls p } }.replied 0x92#8 tag
            (.cardPut slot q.issue p))) ∧
      (∀ slot c, q.kind = 1 → s.cardByUid q.uid = some (slot, c) →
        (c.config.account = g.account ∨ s.engine.cardHasTab slot = false) →
        exec (.cardPut tag (.fit q)) s = .next ({ s with
          store := { s.store with cards := Table.put s.store.cards slot { c with
            config := g
            allowanceUsed := if c.config.tier = g.tier then c.allowanceUsed
              else min c.allowanceUsed (s.tierAllowance g.tier) } }
          tracker := { s.tracker with
            counts := if c.config.cls = g.cls then s.tracker.counts
              else (s.tracker.counts.uncount c.config.cls c.presence).count g.cls c.presence } }.replied
            0x92#8 tag (.cardPut slot c.issue c.presence))) ∧
      (∀ slot c, q.kind = 1 → s.cardByUid q.uid = some (slot, c) → c.config.account ≠ g.account →
        s.engine.cardHasTab slot = true →
        exec (.cardPut tag (.fit q)) s = .next (s.replied 0x92#8 tag (.outcome .tabOpen))))

/-- R11, R12: CARD.REISSUE raises the issue by 1, up to 15; CARD.RETIRE frees the slot, takes the card from
its count and from the ashore list, and is refused while the card has a tab; a UID not in the table is
NOT_FOUND. -/
def Obligations.CardsAreReissuedAndRetired : Prop :=
  ∀ (s : State) (tag : Byte) (uid : Nat), s.ready = true → s.store.opState ≠ .unloaded →
    (s.cardByUid uid = none →
      exec (.cardReissue tag (.fit uid)) s = .next (s.replied 0x94#8 tag (.refused .notFound)) ∧
      exec (.cardRetire tag (.fit uid)) s = .next (s.replied 0x95#8 tag (.refused .notFound))) ∧
    ∀ slot c, s.cardByUid uid = some (slot, c) →
    (c.issue < 15 → exec (.cardReissue tag (.fit uid)) s = .next ({ s with
        store := { s.store with
          cards := Table.put s.store.cards slot { c with issue := c.issue + 1 } } }.replied 0x94#8 tag
            (.issueNow (c.issue + 1)))) ∧
    (c.issue = 15 → exec (.cardReissue tag (.fit uid)) s =
      .next (s.replied 0x94#8 tag (.refused .range))) ∧
    (s.engine.cardHasTab slot = false → exec (.cardRetire tag (.fit uid)) s = .next ({ s with
        store := { s.store with cards := Table.erase s.store.cards slot }
        tracker := ⟨s.tracker.counts.uncount c.config.cls c.presence,
          s.tracker.ashore.filter fun x => x != slot⟩ }.replied 0x95#8 tag (.outcome .accepted))) ∧
    (s.engine.cardHasTab slot = true → exec (.cardRetire tag (.fit uid)) s =
      .next (s.replied 0x95#8 tag (.outcome .tabOpen)))

/-- R14, R16, R98, R107: ACCOUNT.PUT of both kinds, with its refusals in their order (RANGE, then EXISTS or
NOT_FOUND, then FULL), ACCOUNT.CREDIT with its saturation, and ACCOUNT.RETIRE with the tests that refuse it, in the
order of R16. For an account that a card and a CLOSING tab both name, R16 gives STATE and R98 gives TAB_OPEN: it is
refused, and which of the two it is told is a free value (the model's choice, log 33). -/
def Obligations.AccountRequestsWriteTheAccountTable : Prop :=
  ∀ (s : State) (tag : Byte) (number : Nat), s.ready = true → s.store.opState ≠ .unloaded →
    (∀ (kind code : Nat) (limit : Int), (1 < kind ∨ limit < 0 ∨ 10000000 < limit ∨ 1 < code) →
      exec (.accountPut tag (.fit ⟨kind, number, limit, code⟩)) s =
        .next (s.replied 0x96#8 tag (.refused .range))) ∧
    (∀ limit code status, limit ≤ 10000000 → accountStatusOf code = some status →
      ((∃ e, s.accountByNumber number = some e) →
        exec (.accountPut tag (.fit ⟨0, number, (limit : Nat), code⟩)) s =
          .next (s.replied 0x96#8 tag (.refused .exists_))) ∧
      (s.accountByNumber number = none →
        exec (.accountPut tag (.fit ⟨1, number, (limit : Nat), code⟩)) s =
          .next (s.replied 0x96#8 tag (.refused .notFound)) ∧
        (Table.freeSlot 4096 s.store.accounts = none →
          exec (.accountPut tag (.fit ⟨0, number, (limit : Nat), code⟩)) s =
            .next (s.replied 0x96#8 tag (.refused .full))))) ∧
    (∀ limit code status slot, limit ≤ 10000000 → accountStatusOf code = some status →
      s.accountByNumber number = none → Table.freeSlot 4096 s.store.accounts = some slot →
      exec (.accountPut tag (.fit ⟨0, number, (limit : Nat), code⟩)) s = .next ({ s with
        store := { s.store with
          accounts := Table.put s.store.accounts slot ⟨number, limit, status, 0, 0, 0, none⟩ } }.replied
            0x96#8 tag (.accountPut slot))) ∧
    (∀ amount : Int, (amount < 1 ∨ 10000000 < amount) →
      exec (.accountCredit tag (.fit ⟨number, amount⟩)) s =
        .next (s.replied 0x98#8 tag (.refused .range))) ∧
    (s.accountByNumber number = none →
      (∀ amount : Nat, 1 ≤ amount → amount ≤ 10000000 →
        exec (.accountCredit tag (.fit ⟨number, amount⟩)) s =
          .next (s.replied 0x98#8 tag (.refused .notFound))) ∧
      exec (.accountRetire tag (.fit number)) s = .next (s.replied 0x99#8 tag (.refused .notFound))) ∧
    (∀ slot a, s.accountByNumber number = some (slot, a) →
      (∀ limit code status, limit ≤ 10000000 → accountStatusOf code = some status →
        exec (.accountPut tag (.fit ⟨1, number, (limit : Nat), code⟩)) s = .next ({ s with
          store := { s.store with accounts := Table.put s.store.accounts slot { a with
            limit := limit
            status := status } } }.replied 0x96#8 tag (.accountPut slot))) ∧
      (∀ amount : Nat, 1 ≤ amount → amount ≤ 10000000 → -10000000 ≤ a.balance →
        exec (.accountCredit tag (.fit ⟨number, amount⟩)) s = .next ({ s with
          store := { s.store with accounts := Table.put s.store.accounts slot { a with
            balance := max (a.balance - amount) (-10000000) } } }.replied 0x98#8 tag
              (.credited (min amount (a.balance + 10000000).toNat) (max (a.balance - amount) (-10000000))))) ∧
      (∀ (closes : Bool) (naming : Nat),
        closes = (s.engine.tabs.any fun e => match e.2.state with
          | .closing t _ => t.accountSlot == slot
          | _ => false) →
        naming = (s.store.cards.filter fun e => e.2.config.account == number).length →
        (closes = true → naming ≠ 0 →
          exec (.accountRetire tag (.fit number)) s = .next (s.replied 0x99#8 tag
            (if Config.closingTabAnswersFirst then .outcome .tabOpen else .refused .state))) ∧
        (closes = false → naming ≠ 0 →
          exec (.accountRetire tag (.fit number)) s = .next (s.replied 0x99#8 tag (.refused .state))) ∧
        (naming = 0 → (closes = true ∨ a.held ≠ 0 ∨ a.openTabs ≠ 0) →
          exec (.accountRetire tag (.fit number)) s = .next (s.replied 0x99#8 tag (.outcome .tabOpen))) ∧
        (closes = false → naming = 0 → a.held = 0 → a.openTabs = 0 →
          exec (.accountRetire tag (.fit number)) s = .next ({ s with
            store := { s.store with accounts := Table.erase s.store.accounts slot } }.replied 0x99#8 tag
              (.outcome .accepted)))))

/-- R18: DOOR.PUT. A field outside its range is RANGE. In LOADING the record is replaced; in service a door newly
configured, or made unconfigured, starts afresh, another put replaces the record alone, and a door in use
refuses. -/
def Obligations.DoorPutsConfigureDoors : Prop :=
  ∀ (s : State) (tag : Byte) (door label bus flag : Nat), s.ready = true → s.store.opState ≠ .unloaded →
    ((4095 < door ∨ 1 < flag ∨ 65535 < label ∨ 15 < bus) →
      exec (.doorPut tag (.fit ⟨door, flag, label, bus⟩)) s =
        .next (s.replied 0x9A#8 tag (.refused .range))) ∧
    ∀ now, door ≤ 4095 → label ≤ 65535 → bus ≤ 15 → (flag = 0 ∧ now = false ∨ flag = 1 ∧ now = true) →
      (s.store.opState = .loading →
        exec (.doorPut tag (.fit ⟨door, flag, label, bus⟩)) s = .next ({ s with
          store := { s.store with
            doors := Table.set ⟨false, 0, 0⟩ s.store.doors door ⟨now, label, bus⟩ } }.replied
          0x9A#8 tag (.outcome .accepted))) ∧
      (s.loaded = true → now = true → (s.doorConfig door).configured = false →
        (s.channel door).state ≠ .pending →
        exec (.doorPut tag (.fit ⟨door, flag, label, bus⟩)) s = .next ({ s with
          store := { s.store with
            doors := Table.set ⟨false, 0, 0⟩ s.store.doors door ⟨true, label, bus⟩ }
          doorUnit := { s.doorUnit with channels := Table.erase s.doorUnit.channels door } }.replied
          0x9A#8 tag (.outcome .accepted))) ∧
      (s.loaded = true → now = false → (s.doorConfig door).configured = true →
        (s.channel door).state ≠ .pending → (∀ e ∈ s.store.cards, door ∉ e.2.config.cabins) →
        exec (.doorPut tag (.fit ⟨door, flag, label, bus⟩)) s = .next ({ s with
          store := { s.store with
            doors := Table.set ⟨false, 0, 0⟩ s.store.doors door ⟨false, label, bus⟩ }
          doorUnit := { s.doorUnit with channels := Table.erase s.doorUnit.channels door }
          readers := Table.erase s.readers door }.replied 0x9A#8 tag (.outcome .accepted))) ∧
      (s.loaded = true → (s.doorConfig door).configured = now →
        (bus = (s.doorConfig door).bus ∨ (s.channel door).state ≠ .pending) →
        (now = true ∨ (s.channel door).state ≠ .pending ∧ ∀ e ∈ s.store.cards, door ∉ e.2.config.cabins) →
        exec (.doorPut tag (.fit ⟨door, flag, label, bus⟩)) s = .next ({ s with
          store := { s.store with
            doors := Table.set ⟨false, 0, 0⟩ s.store.doors door ⟨now, label, bus⟩ } }.replied
          0x9A#8 tag (.outcome .accepted))) ∧
      (s.loaded = true →
        (now = false ∧ ((s.channel door).state = .pending ∨
            ∃ e ∈ s.store.cards, door ∈ e.2.config.cabins) ∨
          bus ≠ (s.doorConfig door).bus ∧ (s.channel door).state = .pending) →
        exec (.doorPut tag (.fit ⟨door, flag, label, bus⟩)) s =
          .next (s.replied 0x9A#8 tag (.refused .state)))

/-- R20, R21: the three rate tables. A put with a field outside its range is RANGE. A lowered daily allowance brings
down the allowance used of every card of the tier; a raised one changes no card. -/
def Obligations.RatePutsReplaceEntries : Prop :=
  ∀ (s : State) (tag : Byte), s.ready = true →
    (∀ category gratuity f1 f2, (15 < category ∨ 1 < f1 ∨ 1 < f2 ∨ 2500 < gratuity) →
      exec (.categoryPut tag (.fit ⟨category, f1, f2, gratuity⟩)) s =
        .next (s.replied 0x9C#8 tag (.refused .range))) ∧
    (∀ region rate, (7 < region ∨ 3000 < rate) →
      exec (.regionPut tag (.fit ⟨region, rate⟩)) s = .next (s.replied 0x9D#8 tag (.refused .range))) ∧
    (∀ category gratuity f1 f2 alcohol taxable, category ≤ 15 → gratuity ≤ 2500 →
      (f1 = 0 ∧ alcohol = false ∨ f1 = 1 ∧ alcohol = true) →
      (f2 = 0 ∧ taxable = false ∨ f2 = 1 ∧ taxable = true) →
      exec (.categoryPut tag (.fit ⟨category, f1, f2, gratuity⟩)) s = .next ({ s with
        store := { s.store with
          categories := Table.set ⟨false, false, 0⟩ s.store.categories category
            ⟨alcohol, taxable, gratuity⟩ } }.replied 0x9C#8 tag (.outcome .accepted))) ∧
    (∀ region rate, region ≤ 7 → rate ≤ 3000 →
      exec (.regionPut tag (.fit ⟨region, rate⟩)) s = .next ({ s with
        store := { s.store with regions := Table.set 0 s.store.regions region rate } }.replied
          0x9D#8 tag (.outcome .accepted))) ∧
    (∀ tier covered allowance cap, 1 ≤ tier → tier ≤ 3 → allowance ≤ 31 → cap ≤ 99999 →
      exec (.tierPut tag (.fit ⟨tier, covered, allowance, cap⟩) .whole) s = .next ({ s with
        store := { s.store with
          tiers := Table.set ⟨0#16, 0, 0⟩ s.store.tiers tier ⟨covered, allowance, cap⟩
          cards := if allowance < (s.tier tier).allowance then
              s.store.cards.map fun (e : Nat × Card) => (e.1, if e.2.config.tier = tier then
                { e.2 with allowanceUsed := min e.2.allowanceUsed allowance } else e.2)
            else s.store.cards } }.replied 0x9E#8 tag (.outcome .accepted))) ∧
    (∀ tier covered allowance cap, (tier = 0 ∨ 3 < tier ∨ 31 < allowance ∨ 99999 < cap) →
      exec (.tierPut tag (.fit ⟨tier, covered, allowance, cap⟩) .whole) s =
        .next (s.replied 0x9E#8 tag (.refused .range)))

/-- R22, R23: SETTING.PUT writes the setting that its identifier (Table 32) and lane name, and answers the value in
force. A value outside the range of R22 takes the nearer bound, a flow window the window of its third of the
values, and an unknown lane role BOTH; every other setting stays. An audit interval put from 0 in a loaded part
schedules the next audit step one interval after the put, and any other put of it, one of 0 or one in UNLOADED or
LOADING too, leaves what is scheduled (R24, R63; what it does to a step still scheduled from before a 0 is the
model's reading, log 7). After a put of the bus budget or window the buses are considered (R60; in the rotation,
the model's choice, log 8). An identifier of no setting is NOT_FOUND, and a lane above 3 RANGE. -/
def Obligations.SettingPutsClampAndAnswer : Prop :=
  ∀ (s : State) (tag : Byte) (id lane x y low high : Nat) (name : SettingName) (v : Settings),
    s.ready = true → v = s.store.settings.write name x →
    ((id, name, low, high) ∈ ([(1, .relatchTime, 2, 30), (2, .ajarTime, 10, 600),
          (3, .strikeConfirmTime, 1, 10), (4, .relatchConfirmTime, 1, 10), (5, .busBudget, 1, 8),
          (6, .busWindow, 200, 2000), (7, .refusalLimit, 2, 15), (8, .refusalWindow, 10, 600),
          (9, .blockTime, 5, 300), (10, .auditInterval, 0, 60), (11, .pollMissLimit, 1, 7),
          (12, .tabIdleLimit, 10, 720), (13, .tabDefaultHold, 0, 100000), (14, .voidWindow, 0, 600),
          (15, .escortWindow, 0, 600), (16, .debounce, 5, 50), (20, .tailgateTolerance, 0, 15),
          (21, .highWater, 1, 1024)] : List (Nat × SettingName × Nat × Nat)) ∧
        y = (if x < low then low else if high < x then high else x) ∨
      lane ≤ 3 ∧ (id = 17 ∧ name = .laneRole lane ∧ y = (if x = 0 then 0 else if x = 1 then 1 else 2) ∨
        id = 18 ∧ name = .flowWindow lane ∧ y = (if x < 20 then 10 else if x < 45 then 30 else 60) ∨
        id = 19 ∧ name = .flowLimit lane ∧ y = (if x < 1 then 1 else if 255 < x then 255 else x))) →
    v.read name = y ∧
    (∀ other, other ≠ name →
      (∀ n, other = .laneRole n ∨ other = .flowWindow n ∨ other = .flowLimit n → n ≤ 3) →
      v.read other = s.store.settings.read other) ∧
    (name ≠ .auditInterval → name ≠ .busBudget → name ≠ .busWindow →
      exec (.settingPut tag (.fit ⟨id, lane, x⟩)) s = .next ({ s with
        store := { s.store with settings := v } }.replied 0x9F#8 tag (.setting y))) ∧
    (name = .auditInterval →
      exec (.settingPut tag (.fit ⟨id, lane, x⟩)) s = .next ({ s with
        store := { s.store with settings := v }
        doorUnit := { s.doorUnit with
          auditNext := if s.loaded = true ∧ s.store.settings.auditInterval = 0 ∧ 0 < x then
              some (s.clock.runSeconds + y)
            else s.doorUnit.auditNext } }.replied 0x9F#8 tag (.setting y))) ∧
    (name = .busBudget ∨ name = .busWindow →
      exec (.settingPut tag (.fit ⟨id, lane, x⟩)) s = .next (State.replied
        (State.considerAll { s with store := { s.store with settings := v } }) 0x9F#8 tag (.setting y))) ∧
    (∀ k, (k = 0 ∨ 21 < k) →
      exec (.settingPut tag (.fit ⟨k, lane, x⟩)) s = .next (s.replied 0x9F#8 tag (.refused .notFound)) ∧
      exec (.settingRead tag (.fit ⟨k, lane⟩)) s = .next (s.replied 0xA0#8 tag (.refused .notFound))) ∧
    (∀ k m, 17 ≤ k → k ≤ 19 → 3 < m →
      exec (.settingPut tag (.fit ⟨k, m, x⟩)) s = .next (s.replied 0x9F#8 tag (.refused .range)) ∧
      exec (.settingRead tag (.fit ⟨k, m⟩)) s = .next (s.replied 0xA0#8 tag (.refused .range)))

/-! ## The doors (R25 to R67) -/

/-- R28, R30, R38: a current SECURITY card is granted without metering, at a blocked reader too, and is noted
at a do-not-disturb door or in SECURE; a block that has run out is cleared; a card that was ASHORE becomes
UNVERIFIED with a notice. -/
def Obligations.SecurityCardsAreGrantedUnmetered : Prop :=
  ∀ (s u v : State) (tag : Byte) (door uid slot : Nat) (c : Card), s.atWork = true → door ≤ 4095 →
    (s.doorConfig door).configured = true → s.cardByUid uid = some (slot, c) → c.issue ≤ 15 →
    c.config.cls = .security →
    (((s.reader door).blockedUntil = none ∨
        ∃ t, (s.reader door).blockedUntil = some t ∧ s.clock.runSeconds < t) ∧ u = s ∨
      (∃ t, (s.reader door).blockedUntil = some t ∧ t ≤ s.clock.runSeconds) ∧
        u = { s with readers := Table.set ⟨[], none⟩ s.readers door ⟨(s.reader door).history, none⟩ }) →
    ((s.channel door).dnd = false ∧ s.store.mode = .service ∧ v = u ∨
      ((s.channel door).dnd = true ∨ s.store.mode = .secure) ∧ v = u.raise (.override c.uid door)) →
    (c.presence ≠ .ashore →
      exec (.doorCard tag (.fit ⟨door, uid, c.issue⟩)) s = .next (v.replied 0xB0#8 tag
        (.doorCard .grant (s.channel door).state (some ⟨slot, .security, c.presence⟩) none))) ∧
    (c.presence = .ashore →
      exec (.doorCard tag (.fit ⟨door, uid, c.issue⟩)) s =
        .next ((State.raise { v with
          store := { s.store with cards := Table.put s.store.cards slot { c with
            presence := .unverified
            departure := none } }
          tracker := ⟨(s.tracker.counts.uncount .security .ashore).count .security .unverified,
            s.tracker.ashore.filter fun x => x != slot⟩ } (.presence c.uid door)).replied 0xB0#8 tag
          (.doorCard .grant (s.channel door).state (some ⟨slot, .security, .unverified⟩) none)))

/-- R28, R34 to R38, R56, R58, R59: a card at its own cabin, or a CREW card inside its section and hours at a door
without do-not-disturb, on its days and not EXPECTED or MISSED. The grant depends on the channel: a strike request
joins its bus queue (released at once when the bus may release), a full bus queue gives BUS_FULL, and a door already
granted stays so. A card granted while ASHORE becomes UNVERIFIED with a notice (`note`), but not at BUS_FULL; at a
reader whose block has run out the block is cleared first (`w`). -/
def Obligations.CardsAreGrantedByTheChannel : Prop :=
  ∀ (s w : State) (tag : Byte) (door uid slot b : Nat) (c : Card) (queue history : List Nat)
    (note : State → State) (seen : Presence),
    s.atWork = true → s.store.mode = .service → door ≤ 4095 →
    (s.doorConfig door).configured = true →
    ((s.reader door).blockedUntil = none ∧ w = s ∨
      (∃ t, (s.reader door).blockedUntil = some t ∧ t ≤ s.clock.runSeconds) ∧
        w = { s with readers := Table.set ⟨[], none⟩ s.readers door ⟨(s.reader door).history, none⟩ }) →
    s.cardByUid uid = some (slot, c) → c.issue ≤ 15 → c.config.cls ≠ .security →
    ((c.presence = .aboard ∨ c.presence = .unverified) ∧ seen = c.presence ∧ (∀ v, note v = v) ∨
      c.presence = .ashore ∧ seen = .unverified ∧
        ∀ v : State, note v = State.raise { v with
          store := { v.store with cards := Table.put s.store.cards slot { c with
            presence := .unverified
            departure := none } }
          tracker := ⟨(s.tracker.counts.uncount c.config.cls .ashore).count c.config.cls .unverified,
            s.tracker.ashore.filter fun x => x != slot⟩ } (.presence c.uid door)) →
    c.config.firstDay ≤ s.clock.shipDay → s.clock.shipDay ≤ c.config.lastDay →
    (door ∈ c.config.cabins ∨ ∃ p h x, c.config.cls = .crew ∧ c.config.section_ = some p ∧
      p.first ≤ door ∧ door ≤ p.second ∧ c.config.hours = some h ∧ s.clock.shipTime = some x ∧
      (if h.first < h.second then h.first ≤ x / 60 ∧ x / 60 < h.second
        else h.first ≤ x / 60 ∨ x / 60 < h.second) ∧ (s.channel door).dnd = false) →
    (s.doorConfig door).bus = b →
    s.bus b = ⟨queue, history⟩ →
    ((s.channel door).state = .pending →
      exec (.doorCard tag (.fit ⟨door, uid, c.issue⟩)) s = .next ((note w).replied 0xB0#8 tag
        (.doorCard .grantPending .pending (some ⟨slot, c.config.cls, seen⟩) none))) ∧
    (∀ st, (s.channel door).state = st → (st = .ajar ∨ ∃ t, st = .opened t) →
      exec (.doorCard tag (.fit ⟨door, uid, c.issue⟩)) s = .next ((note w).replied 0xB0#8 tag
        (.doorCard .grantOpen st (some ⟨slot, c.config.cls, seen⟩) none))) ∧
    (∀ timer confirm st, (s.channel door).state = .released timer confirm →
      st = .released (some (s.clock.ms + s.store.settings.relatchTime * 1000)) confirm →
      exec (.doorCard tag (.fit ⟨door, uid, c.issue⟩)) s =
        .next ((note (w.setChannel door { s.channel door with
          state := st
          relatchOwed := false })).replied 0xB0#8 tag
          (.doorCard .grantOpen st (some ⟨slot, c.config.cls, seen⟩) none))) ∧
    (∀ st, (s.channel door).state = st →
      (st = .unknown ∨ st = .secured ∨ st = .fault ∨ ∃ x, st = .relatching x) →
      (8 ≤ queue.length →
        exec (.doorCard tag (.fit ⟨door, uid, c.issue⟩)) s = .next (w.replied 0xB0#8 tag
          (.doorCard .busFull st (some ⟨slot, c.config.cls, c.presence⟩) none))) ∧
      (queue.length < 8 → (64 ≤ s.scheduler.orders.length ∨
          s.store.settings.busBudget ≤ (history.filter fun t =>
            decide (s.clock.ms - t < s.store.settings.busWindow)).length) →
        exec (.doorCard tag (.fit ⟨door, uid, c.issue⟩)) s =
          .next ((note ((w.setBus b ⟨queue ++ [door], history⟩).setChannel door { s.channel door with
            state := .pending
            relatchOwed := false })).replied 0xB0#8 tag
            (.doorCard .grantQueued .pending (some ⟨slot, c.config.cls, seen⟩)
              (some (queue.length + 1))))) ∧
      (queue = [] → s.scheduler.orders.length < 64 →
        (history.filter fun t => decide (s.clock.ms - t < s.store.settings.busWindow)).length <
          s.store.settings.busBudget →
        exec (.doorCard tag (.fit ⟨door, uid, c.issue⟩)) s =
          .next ((note ({ w with scheduler := {
              buses := Table.set ⟨[], []⟩ s.scheduler.buses b
                ⟨[], (if history.length < 8 then history else history.drop 1) ++ [s.clock.ms]⟩
              orders := s.scheduler.orders ++ ([⟨.strike, door, s.clock.runSeconds⟩] : List Order)
              latestBus := b } }.setChannel door { s.channel door with
            state := .released (some (s.clock.ms + s.store.settings.relatchTime * 1000)) .awaitingFetch
            relatchOwed := false })).replied 0xB0#8 tag
            (.doorCard .grantQueued .pending (some ⟨slot, c.config.cls, seen⟩) (some 1)))))

/-- R29, R31 to R35, R39, R40: the refusals at a door, in the order of the checks. Each is entered in the
door's refusal history, from whose head the aged entries have left, and at the refusal limit blocks the
reader with a notice. -/
def Obligations.DoorRefusalsAreMetered : Prop :=
  ∀ (s t v : State) (tag : Byte) (door uid issue slot : Nat) (c : Card) (h : List Nat), s.atWork = true →
    door ≤ 4095 → issue ≤ 15 → (s.doorConfig door).configured = true →
    ((s.reader door).blockedUntil = none ∨
      ∃ x, (s.reader door).blockedUntil = some x ∧ x ≤ s.clock.runSeconds) →
    h = (s.reader door).history.dropWhile (fun x =>
      decide (s.store.settings.refusalWindow ≤ s.clock.runSeconds - x)) ++ [s.clock.runSeconds] →
    (h.length < s.store.settings.refusalLimit ∧ t = v.setReader door ⟨h, none⟩ ∨
      s.store.settings.refusalLimit ≤ h.length ∧
        t = (v.setReader door ⟨[], some (s.clock.runSeconds + s.store.settings.blockTime)⟩).raise
          (.readerBlocked door s.store.settings.blockTime)) →
    (v = s → (s.cardByUid uid = none ∨ s.cardByUid uid = some (slot, c) ∧ c.issue < issue) →
      exec (.doorCard tag (.fit ⟨door, uid, issue⟩)) s =
        .next (t.replied 0xB0#8 tag (.doorCard .unknownCard (s.channel door).state none none))) ∧
    (v = s.raise (.supersededCard uid issue) → s.cardByUid uid = some (slot, c) → issue < c.issue →
      exec (.doorCard tag (.fit ⟨door, uid, issue⟩)) s =
        .next (t.replied 0xB0#8 tag (.doorCard .superseded (s.channel door).state none none))) ∧
    (∀ o, v = s → s.cardByUid uid = some (slot, c) → c.issue = issue → c.config.cls ≠ .security →
      (s.store.mode = .secure ∧ o = .secured ∨
        s.store.mode = .service ∧ (c.presence = .expected ∧ o = .notBoarded ∨
          c.presence = .missed ∧ o = .missed ∨
          c.presence ≠ .expected ∧ c.presence ≠ .missed ∧
            ((s.clock.shipDay < c.config.firstDay ∨ c.config.lastDay < s.clock.shipDay) ∧ o = .expired ∨
              c.config.firstDay ≤ s.clock.shipDay ∧ s.clock.shipDay ≤ c.config.lastDay ∧
                door ∉ c.config.cabins ∧
                ((c.config.cls ≠ .crew ∨ c.config.section_ = none ∨
                    ∃ p, c.config.section_ = some p ∧ (door < p.first ∨ p.second < door)) ∧
                    o = .notThisDoor ∨
                  c.config.cls = .crew ∧
                    (∃ p, c.config.section_ = some p ∧ p.first ≤ door ∧ door ≤ p.second) ∧
                    ((c.config.hours = none ∨ s.clock.shipTime = none ∨
                        ∃ n x, c.config.hours = some n ∧ s.clock.shipTime = some x ∧
                          (if n.first < n.second then x / 60 < n.first ∨ n.second ≤ x / 60
                            else n.second ≤ x / 60 ∧ x / 60 < n.first)) ∧ o = .hours ∨
                      (∃ n x, c.config.hours = some n ∧ s.clock.shipTime = some x ∧
                          (if n.first < n.second then n.first ≤ x / 60 ∧ x / 60 < n.second
                            else n.first ≤ x / 60 ∨ x / 60 < n.second)) ∧
                        (s.channel door).dnd = true ∧ o = .privacy))))) →
      exec (.doorCard tag (.fit ⟨door, uid, issue⟩)) s =
        .next (t.replied 0xB0#8 tag (.doorCard o (s.channel door).state
          (some ⟨slot, c.config.cls, c.presence⟩) none)))

/-- R25, R27, R28, R39, R46: a card or a report at an unconfigured door is answered UNKNOWN_DOOR, and a card
at a blocked reader BLOCKED unless it is a current SECURITY card; nothing is entered in the refusal history. A
card or a report with a field outside its range is answered RANGE. -/
def Obligations.UnknownAndBlockedDoorsChangeNothing : Prop :=
  ∀ (s : State) (tag : Byte) (door uid issue slot t : Nat) (c : Card), s.atWork = true →
    ((4095 < door ∨ 15 < issue) →
      exec (.doorCard tag (.fit ⟨door, uid, issue⟩)) s = .next (s.replied 0xB0#8 tag (.refused .range))) ∧
    (door ≤ 4095 → issue ≤ 15 → (s.doorConfig door).configured = false →
      exec (.doorCard tag (.fit ⟨door, uid, issue⟩)) s =
        .next (s.replied 0xB0#8 tag (.doorCard .unknownDoor .unknown none none))) ∧
    (door ≤ 4095 → issue ≤ 15 → (s.doorConfig door).configured = true →
      (s.reader door).blockedUntil = some t → s.clock.runSeconds < t →
      ((s.cardByUid uid = none ∨ s.cardByUid uid = some (slot, c) ∧ c.issue ≠ issue) →
        exec (.doorCard tag (.fit ⟨door, uid, issue⟩)) s =
          .next (s.replied 0xB0#8 tag (.doorCard .blocked (s.channel door).state none none))) ∧
      (s.cardByUid uid = some (slot, c) → c.issue = issue → c.config.cls ≠ .security →
        exec (.doorCard tag (.fit ⟨door, uid, issue⟩)) s =
          .next (s.replied 0xB0#8 tag (.doorCard .blocked (s.channel door).state
            (some ⟨slot, c.config.cls, c.presence⟩) none)))) ∧
    (∀ q : DoorReportReq,
      (q.door ≤ 4095 ∧ q.contact ≤ 1 ∧ q.latch ≤ 1 ∧ q.dnd ≤ 1 ∧ q.cause ≤ 1 →
        (s.doorConfig q.door).configured = false →
        exec (.doorReport tag (.fit q)) s = .next (s.replied 0xB1#8 tag (.outcome .unknownDoor))) ∧
      (4095 < q.door ∨ 1 < q.contact ∨ 1 < q.latch ∨ 1 < q.dnd ∨ 1 < q.cause →
        exec (.doorReport tag (.fit q)) s = .next (s.replied 0xB1#8 tag (.refused .range))))

/-- R46 to R55: DOOR.REPORT at a configured door, for every state of its channel: the flag, the last report
and the poll fields are taken, and the channel moves as its state and the report give. -/
def Obligations.DoorReportsMoveTheChannel : Prop :=
  ∀ (s : State) (tag : Byte) (door dndCode causeCode : Nat) (dnd poll : Bool) (c : Channel),
    s.ready = true → s.loaded = true → door ≤ 4095 → (s.doorConfig door).configured = true →
    flagOf dndCode = some dnd → isPollReplyOf causeCode = some poll →
    c = { s.channel door with
      dnd := dnd
      pollOutstanding := if poll then false else (s.channel door).pollOutstanding
      missCount := if poll then 0 else (s.channel door).missCount } →
    (∀ latchCode latch, latchOf latchCode = some latch →
      (∀ st, c.state = st → (st = .ajar ∨ ∃ t, st = .opened t) →
        exec (.doorReport tag (.fit ⟨door, 0, latchCode, dndCode, causeCode⟩)) s =
          .next ((s.setChannel door { c with lastReport := some (.opened, latch) }).replied 0xB1#8 tag
            (.doorReport st c.relatchOwed))) ∧
      (∀ st, st = .opened (s.clock.ms + s.store.settings.ajarTime * 1000) →
        (c.state = .unknown ∨ c.state = .secured ∨ c.state = .fault ∨ (∃ x, c.state = .relatching x) ∨
          ∃ x y, c.state = .released x y) →
        exec (.doorReport tag (.fit ⟨door, 0, latchCode, dndCode, causeCode⟩)) s =
          .next ((s.setChannel door { c with
            state := st
            lastReport := some (.opened, latch)
            relatchOwed := false }).replied 0xB1#8 tag (.doorReport st false))) ∧
      (∀ st b, st = .opened (s.clock.ms + s.store.settings.ajarTime * 1000) → c.state = .pending →
        (s.doorConfig door).bus = b →
        exec (.doorReport tag (.fit ⟨door, 0, latchCode, dndCode, causeCode⟩)) s =
          .next (((s.setBus b { s.bus b with
              queue := (s.bus b).queue.filter fun d => d != door }).setChannel door { c with
            state := st
            lastReport := some (.opened, latch)
            relatchOwed := false }).replied 0xB1#8 tag (.doorReport st false)))) ∧
    ((c.state = .pending ∨ ∃ x y, c.state = .released x y ∧ y ≠ .satisfied ∧ c.relatchOwed = false) →
      exec (.doorReport tag (.fit ⟨door, 1, 0, dndCode, causeCode⟩)) s =
        .next ((s.setChannel door { c with lastReport := some (.closed, .latched) }).replied 0xB1#8 tag
          (.doorReport c.state c.relatchOwed))) ∧
    ((c.state ≠ .pending ∧ (c.state.isReleased = false ∨ c.relatchOwed = true ∨
          ∃ x, c.state = .released x .satisfied)) →
      exec (.doorReport tag (.fit ⟨door, 1, 0, dndCode, causeCode⟩)) s =
        .next ((s.setChannel door { c with
          state := .secured
          lastReport := some (.closed, .latched)
          relatchOwed := false }).replied 0xB1#8 tag (.doorReport .secured false))) ∧
    (∀ st, (c.state = st ∧ (st = .pending ∨ st = .fault ∨ (∃ x, st = .relatching x) ∨
          st = .unknown ∧ c.relatchOwed = true) ∨
        ∃ x y, c.state = .released x y ∧ st = .released x .satisfied) →
      exec (.doorReport tag (.fit ⟨door, 1, 1, dndCode, causeCode⟩)) s =
        .next ((s.setChannel door { c with
          state := st
          lastReport := some (.closed, .unlatched) }).replied 0xB1#8 tag (.doorReport st c.relatchOwed))) ∧
    ((c.state = .secured ∨ c.state = .ajar ∨ (∃ x, c.state = .opened x) ∨
        c.state = .unknown ∧ c.relatchOwed = false) →
      (s.scheduler.orders.length < 64 →
        exec (.doorReport tag (.fit ⟨door, 1, 1, dndCode, causeCode⟩)) s =
          .next (({ s with scheduler := { s.scheduler with
              orders := s.scheduler.orders ++ ([⟨.relatch, door, s.clock.runSeconds⟩] : List Order) } }.setChannel door
            { c with
              state := .relatching .awaitingFetch
              lastReport := some (.closed, .unlatched)
              relatchOwed := false }).replied 0xB1#8 tag
            (.doorReport (.relatching .awaitingFetch) false))) ∧
      (64 ≤ s.scheduler.orders.length →
        exec (.doorReport tag (.fit ⟨door, 1, 1, dndCode, causeCode⟩)) s =
          .next ((s.setChannel door { c with
            state := .unknown
            lastReport := some (.closed, .unlatched)
            relatchOwed := true }).replied 0xB1#8 tag (.doorReport .unknown true))))

/-- R47, R60, R62: ORDER.FETCH takes the oldest orders, up to 8, delivers each to its door in their order, and
fills the room they leave: a RELATCH order for each door that owes one, in ascending door id, while there is room,
then releases in the rotation until no bus may release. A delivery starts the confirm that awaits it, and nothing
else. A door that no order taken names, that owes no relatch and that stands in no bus queue stays as it is. With
no order nothing changes. The number left is that before the room is filled (the model's choice, log 9). -/
def Obligations.OrderFetchDeliversTheOldestOrders : Prop :=
  ∀ (s u v t : State) (tag : Byte) (owing : List Nat), s.ready = true →
    u = (s.scheduler.orders.take 8).foldl State.deliver { s with
      scheduler := { s.scheduler with orders := s.scheduler.orders.drop 8 } } →
    owing = (s.doorUnit.channels.filter fun e => e.2.relatchOwed).map Prod.fst →
    v = owing.foldl State.serveOwed u → t = v.considerAll →
    (s.scheduler.orders = [] →
      exec (.orderFetch tag (.fit ())) s = .next (s.replied 0x83#8 tag (.orders [] 0))) ∧
    (s.scheduler.orders ≠ [] → s.tablesLaw = true →
      exec (.orderFetch tag (.fit ())) s = .next (t.replied 0x83#8 tag
        (.orders (s.scheduler.orders.take 8) (s.scheduler.orders.length - 8))) ∧
      v.scheduler.orders = s.scheduler.orders.drop 8 ++
        (owing.take (64 - (s.scheduler.orders.length - 8))).map
          (fun d => ⟨.relatch, d, s.clock.runSeconds⟩) ∧
      (∀ b, b < 16 → t.mayRelease b = false) ∧
      t = { s with
        doorUnit := { s.doorUnit with channels := t.doorUnit.channels }
        scheduler := t.scheduler } ∧
      (∃ strikes, t.scheduler.orders = v.scheduler.orders ++ strikes ∧
        ∀ o ∈ strikes, o.kind = .strike ∧ o.placedAt = s.clock.runSeconds ∧
          ∃ b, b < 16 ∧ o.door ∈ (s.bus b).queue) ∧
      (∀ d, (∀ o ∈ s.scheduler.orders.take 8, o.door ≠ d) → (s.channel d).relatchOwed = false →
        (∀ b, b < 16 → d ∉ (s.bus b).queue) → t.channel d = s.channel d)) ∧
    (∀ (x : State) (door at_ : Nat),
      (∀ timer, (x.channel door).state = .released timer .awaitingFetch →
        x.deliver ⟨.strike, door, at_⟩ = x.setChannel door { x.channel door with
          state := .released timer (.running (x.clock.ms + x.store.settings.strikeConfirmTime * 1000)) }) ∧
      ((x.channel door).state = .relatching .awaitingFetch →
        x.deliver ⟨.relatch, door, at_⟩ = x.setChannel door { x.channel door with
          state := .relatching (.running (x.clock.ms + x.store.settings.relatchConfirmTime * 1000)) }) ∧
      ((∀ timer, (x.channel door).state ≠ .released timer .awaitingFetch) →
        x.deliver ⟨.strike, door, at_⟩ = x) ∧
      ((x.channel door).state ≠ .relatching .awaitingFetch → x.deliver ⟨.relatch, door, at_⟩ = x) ∧
      x.deliver ⟨.poll, door, at_⟩ = x ∧
      (x.scheduler.orders.length < 64 → (x.channel door).relatchOwed = true →
        x.serveOwed door = State.setChannel { x with scheduler := { x.scheduler with
            orders := x.scheduler.orders ++ ([⟨.relatch, door, x.clock.runSeconds⟩] : List Order) } } door
          { x.channel door with
            state := .relatching .awaitingFetch
            relatchOwed := false }) ∧
      ((64 ≤ x.scheduler.orders.length ∨ (x.channel door).relatchOwed = false) →
        x.serveOwed door = x)) ∧
    (∀ kind door at_ st, s.scheduler.orders = [⟨kind, door, at_⟩] →
      (∀ e ∈ s.doorUnit.channels, e.2.relatchOwed = false) → (∀ b, b < 16 → (s.bus b).queue = []) →
      (kind = .strike ∧ (∃ timer, (s.channel door).state = .released timer .awaitingFetch ∧
          st = .released timer (.running (s.clock.ms + s.store.settings.strikeConfirmTime * 1000))) ∨
        kind = .relatch ∧ (s.channel door).state = .relatching .awaitingFetch ∧
          st = .relatching (.running (s.clock.ms + s.store.settings.relatchConfirmTime * 1000))) →
      exec (.orderFetch tag (.fit ())) s = .next (({ s with
        scheduler := { s.scheduler with orders := [] } }.setChannel door { s.channel door with
          state := st }).replied 0x83#8 tag (.orders [⟨kind, door, at_⟩] 0))) ∧
    (∀ door at_, s.scheduler.orders = [⟨.poll, door, at_⟩] →
      (∀ e ∈ s.doorUnit.channels, e.2.relatchOwed = false) → (∀ b, b < 16 → (s.bus b).queue = []) →
      exec (.orderFetch tag (.fit ())) s = .next ({ s with
        scheduler := { s.scheduler with orders := [] } }.replied 0x83#8 tag (.orders [⟨.poll, door, at_⟩] 0)))

/-- R47, R52, R53, R54: the four timers of a channel. The clock stands at the deadline, or later (the model's
choice, log 4); the relatch timer calls for a RELATCH order, which is owed while the order queue is full; a
confirm that runs out makes the door FAULT; the ajar timer makes it AJAR. -/
def Obligations.ChannelTimersMoveTheirDoor : Prop :=
  ∀ (s u : State) (door t : Nat), s.takesEvents = true → s.loaded = true → u = s.advanceTo t →
    (∀ confirm, (s.channel door).state = .released (some t) confirm →
      (s.scheduler.orders.length < 64 →
        exec (.relatchTimerExpiry door) s = .next ({ u with scheduler := { u.scheduler with
            orders := s.scheduler.orders ++ ([⟨.relatch, door, u.clock.runSeconds⟩] : List Order) } }.setChannel door
          { s.channel door with
            state := .relatching .awaitingFetch
            relatchOwed := false })) ∧
      (64 ≤ s.scheduler.orders.length →
        exec (.relatchTimerExpiry door) s = .next (u.setChannel door { s.channel door with
          state := .released none confirm
          relatchOwed := true }))) ∧
    (∀ timer, (s.channel door).state = .released timer (.running t) →
      exec (.strikeConfirmExpiry door) s = .next ((u.setChannel door { s.channel door with
        state := .fault
        relatchOwed := false }).raise (.doorFault door .strikeConfirm))) ∧
    ((s.channel door).state = .opened t →
      exec (.ajarTimerExpiry door) s = .next ((u.setChannel door { s.channel door with
        state := .ajar }).raise (.doorAjar door s.store.settings.ajarTime))) ∧
    ((s.channel door).state = .relatching (.running t) →
      exec (.relatchConfirmExpiry door) s = .next ((u.setChannel door { s.channel door with
        state := .fault
        relatchOwed := false }).raise (.doorFault door .relatchConfirm))) ∧
    (t ≤ s.clock.ms → u = s) ∧ (s.clock.ms < t → u.clock.ms = t)

/-- R63, R64: an audit step visits the first configured SECURED door from the pointer on, wrapping from 4,095
to 0: it places a POLL order, or counts a miss, which at the poll miss limit makes the door FAULT. In SECURE,
with the order queue full, or with no door to visit it only schedules the next step; with the audit interval 0 it
schedules none, and that a step still scheduled then comes at its time and visits its door is the model's reading
(log 7). The clock stands at the step's time, or later (the model's choice, log 4), and the next step is counted from
there (the model's reading, log 22). -/
def Obligations.AuditStepsPollSecuredDoors : Prop :=
  ∀ (s u : State) (t : Nat), s.takesEvents = true → s.loaded = true → s.tablesLaw = true →
    s.doorUnit.auditNext = some t →
    u = { s.advanceToSecond t with doorUnit := { s.doorUnit with
      auditNext := if s.store.settings.auditInterval = 0 then none
        else some ((s.advanceToSecond t).clock.runSeconds + s.store.settings.auditInterval) } } →
    ((s.store.mode = .secure ∨ 64 ≤ s.scheduler.orders.length ∨
        ∀ e ∈ s.store.doors, e.2.configured = false ∨ (s.channel e.1).state ≠ .secured) →
      exec .auditStep s = .next u) ∧
    (∀ d, s.store.mode = .service → s.scheduler.orders.length < 64 →
      (s.doorConfig d).configured = true → (s.channel d).state = .secured →
      (∀ e ∈ s.store.doors, (if s.doorUnit.auditPointer ≤ d then s.doorUnit.auditPointer ≤ e.1 ∧ e.1 < d
          else s.doorUnit.auditPointer ≤ e.1 ∨ e.1 < d) →
        e.2.configured = false ∨ (s.channel e.1).state ≠ .secured) →
      ((s.channel d).pollOutstanding = false →
        exec .auditStep s = .next ({ u with
          doorUnit := { u.doorUnit with auditPointer := (d + 1) % 4096 }
          scheduler := { u.scheduler with
            orders := s.scheduler.orders ++ ([⟨.poll, d, u.clock.runSeconds⟩] : List Order) } }.setChannel d
              { s.channel d with pollOutstanding := true })) ∧
      ((s.channel d).pollOutstanding = true →
        (s.channel d).missCount + 1 < s.store.settings.pollMissLimit →
        exec .auditStep s = .next ({ u with
          doorUnit := { u.doorUnit with auditPointer := (d + 1) % 4096 } }.setChannel d
            { s.channel d with missCount := (s.channel d).missCount + 1 })) ∧
      ((s.channel d).pollOutstanding = true →
        s.store.settings.pollMissLimit ≤ (s.channel d).missCount + 1 →
        exec .auditStep s = .next (({ u with
          doorUnit := { u.doorUnit with auditPointer := (d + 1) % 4096 } }.setChannel d
            { s.channel d with
              state := .fault
              pollOutstanding := false
              missCount := 0 }).raise (.doorFault d .poll))))

/-- R59, R60: a bus may release while its queue holds a door, the releases that count are fewer than the budget and
the order queue has room. A bus considered releases its head while it may. The buses considered together release one
at a time, each time the first that may from the bus after the latest release on, bus 15 wrapping to 0, until none
may. When a counted release reaches the age of the bus window its bus is considered; that the one taken is the oldest
that counts, and that a bus which may release already is considered at once, is the model's choice (log 4). -/
def Obligations.BusesReleaseUntilNoneMay : Prop :=
  ∀ (s : State) (b : Nat),
    (s.mayRelease b = true ↔ (s.bus b).queue ≠ [] ∧
      ((s.bus b).history.filter fun t =>
        decide (s.clock.ms - t < s.store.settings.busWindow)).length < s.store.settings.busBudget ∧
      s.scheduler.orders.length < 64) ∧
    (∀ door rest history, s.bus b = ⟨door :: rest, history⟩ → s.mayRelease b = true →
      s.release b = { s with scheduler := {
          buses := Table.set ⟨[], []⟩ s.scheduler.buses b
            ⟨rest, (if history.length < 8 then history else history.drop 1) ++ [s.clock.ms]⟩
          orders := s.scheduler.orders ++ ([⟨.strike, door, s.clock.runSeconds⟩] : List Order)
          latestBus := b } }.setChannel door { s.channel door with
            state := .released (some (s.clock.ms + s.store.settings.relatchTime * 1000)) .awaitingFetch }) ∧
    (s.mayRelease b = true → s.consider b = (s.release b).consider b) ∧
    (s.mayRelease b = false → s.consider b = s) ∧
    (s.consider b).mayRelease b = false ∧ (b < 16 → s.considerAll.mayRelease b = false) ∧
    (∀ k, k < 16 → b = (s.scheduler.latestBus + 1 + k) % 16 → s.mayRelease b = true →
      (∀ j, j < k → s.mayRelease ((s.scheduler.latestBus + 1 + j) % 16) = false) →
      s.considerAll = (s.release b).considerAll) ∧
    ((∀ j, j < 16 → s.mayRelease j = false) → s.considerAll = s) ∧
    (∀ before t after, s.takesEvents = true → s.mayRelease b = false →
      (s.bus b).history = before ++ t :: after →
      (∀ x ∈ before, s.store.settings.busWindow ≤ s.clock.ms - x) →
      s.clock.ms - t < s.store.settings.busWindow →
      exec (.busWindowAgeOut b) s =
        .next ((s.advanceTo (t + s.store.settings.busWindow)).consider b)) ∧
    (s.takesEvents = true → s.mayRelease b = true → exec (.busWindowAgeOut b) s = .next (s.consider b)) ∧
    (s.takesEvents = true → s.mayRelease b = false →
      (∀ x ∈ (s.bus b).history, s.store.settings.busWindow ≤ s.clock.ms - x) →
      exec (.busWindowAgeOut b) s = .next s) ∧
    (∀ door t u, s.takesEvents = true → s.bus b = ⟨[door], [t]⟩ → s.store.settings.busBudget = 1 →
      s.clock.ms - t < s.store.settings.busWindow → t ≤ s.clock.ms → s.scheduler.orders.length < 64 →
      u = s.advanceTo (t + s.store.settings.busWindow) →
      exec (.busWindowAgeOut b) s = .next ({ u with scheduler := {
          buses := Table.set ⟨[], []⟩ s.scheduler.buses b
            ⟨[], [t, t + s.store.settings.busWindow]⟩
          orders := s.scheduler.orders ++ ([⟨.strike, door, u.clock.runSeconds⟩] : List Order)
          latestBus := b } }.setChannel door { s.channel door with
            state := .released (some (u.clock.ms + s.store.settings.relatchTime * 1000))
              .awaitingFetch }))

/-! ## Sales, tabs and postings (R68 to R106) -/

/-- R75 to R78: the amounts of lines. Each line sees the working allowance that the lines before it left; a
tier covers whole units up to its cap per unit and never more than the price; gratuity and tax are taken of
the payable sum, half a cent rounding up; and over a request the total is payable plus gratuity plus tax. -/
def Obligations.LineAmountsAddUp : Prop :=
  ∀ (s : State) (c : Card) (allowance : Nat) (l : Line) (ls : List Line) (xs : List Sums) (x y : Sums),
    xs = s.linesSums c allowance ls → x = sumAll xs → y = s.lineSums c allowance l →
    x.covered ≤ x.gross ∧ x.total = x.gross - x.covered + x.gratuity + x.tax ∧
    x.total = (xs.map Sums.total).sum ∧ x.units ≤ allowance ∧ xs.length = ls.length ∧
    s.linesSums c allowance (l :: ls) = y :: s.linesSums c (allowance - y.units) ls ∧
    y.gross = l.unitPrice * l.quantity ∧ y.units ≤ l.quantity ∧ y.units ≤ allowance ∧
    y.covered = y.units * min l.unitPrice (s.tier c.config.tier).coverCap ∧
    (c.config.tier = 0 ∨ (s.tier c.config.tier).covered.getLsbD l.category = false ∨
      c.config.cls = .child ∧ (s.category l.category).alcohol = true → y.units = 0) ∧
    (c.config.tier ≠ 0 → (s.tier c.config.tier).covered.getLsbD l.category = true →
      (c.config.cls ≠ .child ∨ (s.category l.category).alcohol = false) → y.units = min l.quantity allowance) ∧
    2 * 10000 * y.gratuity ≤ 2 * ((y.gross - y.covered) * (s.category l.category).gratuity) + 10000 ∧
    2 * ((y.gross - y.covered) * (s.category l.category).gratuity) + 10000 < 2 * 10000 * (y.gratuity + 1) ∧
    ((s.category l.category).taxable = false → y.tax = 0) ∧
    ((s.category l.category).taxable = true →
      2 * 10000 * y.tax ≤ 2 * ((y.gross - y.covered) * s.taxRate) + 10000 ∧
      2 * ((y.gross - y.covered) * s.taxRate) + 10000 < 2 * 10000 * (y.tax + 1)) ∧
    y.total = y.gross - y.covered + y.gratuity + y.tax

/-- R79 to R84, R100, R101: a CHARGE that nothing refuses before the computation. Over a child's daily cap,
over the account's available amount and without posting room it changes nothing; otherwise it appends its
posting under the next number, with a notice at the high-water mark, and charges account and card. -/
def Obligations.ChargesPostOrAreRefused : Prop :=
  ∀ (s u : State) (tag : Byte) (q : ChargeReq) (slot accountSlot : Nat) (c : Card) (a : Account)
    (xs : List Sums) (x : Sums), s.atWork = true → q.terminal ≤ 63 → q.issue ≤ 15 →
    linesInRange q.lines = true → s.cardByUid q.uid = some (slot, c) → c.issue = q.issue →
    s.accountByNumber c.config.account = some (accountSlot, a) → s.mayBuy c a q.lines = true →
    xs = s.linesSums c (s.workingAllowance c) q.lines → x = sumAll xs →
    (∀ cap, c.config.cls = .child → c.config.dailyCap = some cap → cap < c.daySpent + x.total →
      exec (.charge tag (.fit q)) s =
        .next (s.replied 0xC0#8 tag (.overCap x.total c.daySpent cap))) ∧
    ((c.config.cls ≠ .child ∨ c.config.dailyCap = none ∨
        ∃ cap, c.config.dailyCap = some cap ∧ c.daySpent + x.total ≤ cap) →
      (a.available < x.total →
        exec (.charge tag (.fit q)) s =
          .next (s.replied 0xC0#8 tag (.overLimit x.total a.available))) ∧
      (x.total ≤ a.available → 1024 ≤ s.engine.postings.length →
        exec (.charge tag (.fit q)) s = .next (s.replied 0xC0#8 tag (.postingsFull x.total))) ∧
      (x.total ≤ a.available → s.engine.postings.length < 1024 →
        u = { s with
          store := { s.store with
            cards := Table.put s.store.cards slot { c with
              allowanceUsed := c.allowanceUsed + x.units
              daySpent := min (c.daySpent + x.total) 2147483647 }
            accounts := Table.put s.store.accounts accountSlot { a with
              balance := a.balance + (x.total : Int) } }
          engine := { s.engine with
            postings := s.engine.postings ++ [⟨s.engine.nextPosting, .charge, q.terminal, c.uid, q.issue,
              c.config.account, s.clock.shipDay, s.clock.shipTime, q.lines.length, x, false, false,
              s.clock.runSeconds, true⟩]
            nextPosting := if s.engine.nextPosting < 4294967295 then s.engine.nextPosting + 1 else 1
            highWaterArmed := s.engine.highWaterArmed &&
              decide (s.engine.postings.length + 1 < s.store.settings.highWater) } } →
        exec (.charge tag (.fit q)) s = .next ((
          if s.engine.highWaterArmed = true ∧ s.store.settings.highWater ≤ s.engine.postings.length + 1 then
            u.raise (.postingsHigh (s.engine.postings.length + 1)) else u).replied 0xC0#8 tag
          (.charged s.engine.nextPosting x (xs.map fun (y : Sums) => ⟨y.units, y.total⟩)
            (s.tierAllowance c.config.tier - (c.allowanceUsed + x.units))
            ((a.limit : Int) - (a.balance + (x.total : Int)) - (a.held : Int)).toNat))))

/-- R69 to R74: the refusals of a CHARGE in the order of its preconditions; a superseded card and a card
ashore raise their notice, and nothing else changes. -/
def Obligations.ChargesAreRefusedInOrder : Prop :=
  ∀ (s v : State) (tag : Byte) (q : ChargeReq) (answer : Answer), s.ready = true → s.loaded = true →
    (v = s ∧ s.store.opState = .secure ∧ answer = .outcome .secured ∨
      s.store.opState = .service ∧
        (v = s ∧ (63 < q.terminal ∨ 15 < q.issue ∨ linesInRange q.lines = false) ∧
            answer = .refused .range ∨
          q.terminal ≤ 63 ∧ q.issue ≤ 15 ∧ linesInRange q.lines = true ∧
            (v = s ∧ s.cardByUid q.uid = none ∧ answer = .outcome .unknownCard ∨
              ∃ slot c, s.cardByUid q.uid = some (slot, c) ∧
                (v = s ∧ c.issue < q.issue ∧ answer = .outcome .unknownCard ∨
                  v = s.raise (.supersededCard q.uid q.issue) ∧ q.issue < c.issue ∧
                    answer = .outcome .superseded ∨
                  c.issue = q.issue ∧ ∃ n a, s.accountByNumber c.config.account = some (n, a) ∧
                    (v = s ∧ c.presence = .expected ∧ answer = .outcome .notBoarded ∨
                      v = s ∧ c.presence = .missed ∧ answer = .outcome .missed ∨
                      v = s.raise (.presence c.uid q.terminal) ∧ c.presence = .ashore ∧
                        answer = .outcome .presence ∨
                      v = s ∧ (c.presence = .aboard ∨ c.presence = .unverified) ∧
                        ((s.clock.shipDay < c.config.firstDay ∨ c.config.lastDay < s.clock.shipDay) ∧
                            answer = .outcome .expired ∨
                          c.config.firstDay ≤ s.clock.shipDay ∧ s.clock.shipDay ≤ c.config.lastDay ∧
                            (c.config.privilege = false ∧ answer = .outcome .noCharge ∨
                              c.config.privilege = true ∧ (a.status = .frozen ∧ answer = .outcome .frozen ∨
                                a.status = .opened ∧ c.config.cls = .child ∧
                                  ∃ before l after, q.lines = before ++ l :: after ∧
                                    (∀ m ∈ before, (s.category m.category).alcohol = false) ∧
                                    (s.category l.category).alcohol = true ∧
                                    answer = .alcoholLine (before.length + 1))))))))) →
    exec (.charge tag (.fit q)) s = .next (v.replied 0xC0#8 tag answer)

/-- R70, R89, R91, R94: TAB.OPEN is refused by the preconditions of a sale in their order, with the hold judged at
the second. One that nothing refuses before the pool takes the lowest free slot with its hold, the default one when
0 is carried, and account and terminal count it; a full pool, a third tab of the account or ninth of the terminal,
and a hold above the available amount refuse. -/
def Obligations.TabsOpenInTheLowestFreeSlot : Prop :=
  ∀ (s : State) (tag : Byte) (q : TabOpenReq),
    (∀ (v : State) (answer : Answer), s.ready = true → s.loaded = true →
      (v = s ∧ s.store.opState = .secure ∧ answer = .outcome .secured ∨
        s.store.opState = .service ∧
          (v = s ∧ (63 < q.terminal ∨ 15 < q.issue ∨ q.hold < 0 ∨ 10000000 < q.hold) ∧
              answer = .refused .range ∨
            q.terminal ≤ 63 ∧ q.issue ≤ 15 ∧ 0 ≤ q.hold ∧ q.hold ≤ 10000000 ∧
              (s.refusesCard v q.uid q.issue answer ∨
                ∃ slot c n a, s.cardByUid q.uid = some (slot, c) ∧ c.issue = q.issue ∧
                  s.accountByNumber c.config.account = some (n, a) ∧
                  s.refusesSale v c a q.terminal [] answer))) →
      exec (.tabOpen tag (.fit q)) s = .next (v.replied 0xC2#8 tag answer)) ∧
    (∀ (cardSlot accountSlot hold : Nat) (c : Card) (a : Account),
      s.atWork = true → q.terminal ≤ 63 → q.issue ≤ 15 → 0 ≤ q.hold → q.hold ≤ 10000000 →
      hold = (if q.hold = 0 then s.store.settings.tabDefaultHold else q.hold.toNat) →
      s.cardByUid q.uid = some (cardSlot, c) → c.issue = q.issue →
      s.accountByNumber c.config.account = some (accountSlot, a) → s.mayBuy c a [] = true →
      ((∀ n, n < 128 → (s.tabSlot n).state ≠ .free) →
        exec (.tabOpen tag (.fit q)) s = .next (s.replied 0xC2#8 tag (.outcome .tabPool))) ∧
      (∀ slot, slot < 128 → (s.tabSlot slot).state = .free →
        (∀ n, n < slot → (s.tabSlot n).state ≠ .free) →
        ((2 ≤ a.openTabs ∨ 8 ≤ s.terminalTabs q.terminal) →
          exec (.tabOpen tag (.fit q)) s = .next (s.replied 0xC2#8 tag (.outcome .tabLimit))) ∧
        (a.openTabs < 2 → s.terminalTabs q.terminal < 8 → a.available < hold →
          exec (.tabOpen tag (.fit q)) s =
            .next (s.replied 0xC2#8 tag (.tabOpenLimit hold a.available))) ∧
        (a.openTabs < 2 → s.terminalTabs q.terminal < 8 → hold ≤ a.available →
          exec (.tabOpen tag (.fit q)) s = .next ({ s with
            store := { s.store with accounts := Table.put s.store.accounts accountSlot { a with
              held := a.held + hold
              openTabs := a.openTabs + 1 } }
            engine := { s.engine with
              tabs := Table.set ⟨0, .free⟩ s.engine.tabs slot ⟨((s.tabSlot slot).generation + 1) % 256,
                .opened ⟨q.terminal, cardSlot, accountSlot, hold, ⟨0, 0, 0, 0, 0, 0⟩, 0, s.clock.runSeconds⟩
                  (s.clock.runSeconds + s.store.settings.tabIdleLimit * 60)⟩
              terminalTabs := Table.set 0 s.engine.terminalTabs q.terminal
                (s.terminalTabs q.terminal + 1) } }.replied 0xC2#8 tag
            (.tabOpened slot (((s.tabSlot slot).generation + 1) % 256) hold
              ((a.limit : Int) - a.balance - ((a.held + hold : Nat) : Int)).toNat)))))

/-- R79, R92, R93: a TAB.ADD on the OPEN tab of its terminal. Sums and line count grow, the hold grows to the
next 1,000 cents when the sum passes it, and the idle timer starts afresh; the cap and the available amount
refuse. The fields of a CAP refusal are the model's choice (log 19). -/
def Obligations.TabAdditionsGrowTheHold : Prop :=
  ∀ (s : State) (tag : Byte) (q : TabAddReq) (t : Tab) (deadline hold : Nat) (c : Card) (a : Account)
    (xs : List Sums) (x : Sums), s.atWork = true → q.terminal ≤ 63 → q.slot < 128 →
    linesInRange q.lines = true → s.tabSlot q.slot = ⟨q.generation, .opened t deadline⟩ →
    t.terminal = q.terminal → Table.find s.store.cards t.cardSlot = some c →
    Table.find s.store.accounts t.accountSlot = some a → s.mayBuy c a q.lines = true →
    xs = s.linesSums c (s.workingAllowance c) q.lines → x = sumAll xs →
    (t.sums.total + x.total ≤ t.hold ∧ hold = t.hold ∨
      t.hold < t.sums.total + x.total ∧ t.sums.total + x.total ≤ hold ∧
        hold < t.sums.total + x.total + 1000 ∧ hold % 1000 = 0) →
    (∀ cap, c.config.cls = .child → c.config.dailyCap = some cap → cap < c.daySpent + x.total →
      exec (.tabAdd tag (.fit q)) s =
        .next (s.replied 0xC3#8 tag (.overCap x.total c.daySpent cap))) ∧
    ((c.config.cls ≠ .child ∨ c.config.dailyCap = none ∨
        ∃ cap, c.config.dailyCap = some cap ∧ c.daySpent + x.total ≤ cap) →
      (a.available < hold - t.hold →
        exec (.tabAdd tag (.fit q)) s =
          .next (s.replied 0xC3#8 tag (.tabAddLimit x.total (hold - t.hold) a.available))) ∧
      (hold - t.hold ≤ a.available →
        exec (.tabAdd tag (.fit q)) s = .next ({ s with
          store := { s.store with
            cards := Table.put s.store.cards t.cardSlot { c with
              allowanceUsed := c.allowanceUsed + x.units
              daySpent := min (c.daySpent + x.total) 2147483647 }
            accounts := Table.put s.store.accounts t.accountSlot { a with
              held := a.held + (hold - t.hold) } }
          engine := { s.engine with
            tabs := Table.set ⟨0, .free⟩ s.engine.tabs q.slot ⟨q.generation, .opened { t with
              sums := t.sums.add x
              lineCount := min (t.lineCount + q.lines.length) 255
              hold := hold
              lastActivity := s.clock.runSeconds }
                (s.clock.runSeconds + s.store.settings.tabIdleLimit * 60)⟩ } }.replied 0xC3#8 tag
          (.tabAdded x (xs.map fun (y : Sums) => ⟨y.units, y.total⟩)
            (s.tierAllowance c.config.tier - (c.allowanceUsed + x.units)) (t.sums.add x) hold
            ((a.limit : Int) - a.balance - ((a.held + (hold - t.hold) : Nat) : Int)).toNat))))

/-- R70, R90, R92, R95: naming a tab. After the fields' ranges a wrong generation or a FREE slot is NOT_FOUND,
another terminal's tab NOT_OWNER and a CLOSING one CLOSED, at TAB.ADD and at TAB.CLOSE; in SECURE a TAB.ADD is
refused before that, and at an OPEN tab of the terminal it meets preconditions 4 to 8 of a sale on the tab's card and
account. A refusal changes nothing but what those raise. That a NOT_OWNER or CLOSED reply carries its outcome alone is
the model's choice (log 29). -/
def Obligations.TabsAreNamedByGenerationAndTerminal : Prop :=
  ∀ (s : State) (tag : Byte) (slot generation terminal : Nat) (ls : List Line), s.ready = true →
    (∀ answer, terminal ≤ 63 → slot < 128 →
      (((s.tabSlot slot).generation ≠ generation ∨ (s.tabSlot slot).state = .free) ∧
          answer = .refused .notFound ∨
        (s.tabSlot slot).generation = generation ∧
          ((∃ t d, (s.tabSlot slot).state = .opened t d ∧ t.terminal ≠ terminal ∧
              answer = .outcome .notOwner) ∨
            (∃ t r, (s.tabSlot slot).state = .closing t r ∧ t.terminal ≠ terminal ∧
              answer = .outcome .notOwner) ∨
            ∃ t r, (s.tabSlot slot).state = .closing t r ∧ t.terminal = terminal ∧
              answer = .outcome .closed)) →
      (s.store.opState = .service → linesInRange ls = true →
        exec (.tabAdd tag (.fit ⟨slot, generation, terminal, ls⟩)) s =
          .next (s.replied 0xC3#8 tag answer)) ∧
      (s.loaded = true →
        exec (.tabClose tag (.fit ⟨slot, generation, terminal⟩)) s =
          .next (s.replied 0xC4#8 tag answer))) ∧
    (s.store.opState = .secure →
      exec (.tabAdd tag (.fit ⟨slot, generation, terminal, ls⟩)) s =
        .next (s.replied 0xC3#8 tag (.outcome .secured))) ∧
    (s.store.opState = .service → (63 < terminal ∨ 127 < slot ∨ linesInRange ls = false) →
      exec (.tabAdd tag (.fit ⟨slot, generation, terminal, ls⟩)) s =
        .next (s.replied 0xC3#8 tag (.refused .range))) ∧
    (s.loaded = true → (63 < terminal ∨ 127 < slot) →
      exec (.tabClose tag (.fit ⟨slot, generation, terminal⟩)) s =
        .next (s.replied 0xC4#8 tag (.refused .range))) ∧
    (∀ v t deadline c a answer, s.store.opState = .service → terminal ≤ 63 → slot < 128 →
      linesInRange ls = true → s.tabSlot slot = ⟨generation, .opened t deadline⟩ → t.terminal = terminal →
      Table.find s.store.cards t.cardSlot = some c → Table.find s.store.accounts t.accountSlot = some a →
      s.refusesSale v c a terminal ls answer →
      exec (.tabAdd tag (.fit ⟨slot, generation, terminal, ls⟩)) s =
        .next (v.replied 0xC3#8 tag answer))

/-- R94 to R96, R98: how a tab settles, whatever the reason: its slot becomes free, its account is settled and a
TAB_SETTLE record is appended when its total is above 0. TAB.CLOSE and the idle deadline settle an OPEN tab so;
without posting room TAB.CLOSE is refused, with its outcome alone (the model's choice, log 29), and the expired tab
waits as CLOSING. The clock stands at the idle deadline, or later (the model's choice, log 4). -/
def Obligations.TabsSettleAtCloseAndExpiry : Prop :=
  ∀ (s u : State) (tag : Byte) (slot generation deadline : Nat) (t : Tab) (c : Card) (a : Account)
    (freed : State → State) (record : State → CloseReason → State), s.tabSlot slot = ⟨generation, .opened t deadline⟩ →
    Table.find s.store.cards t.cardSlot = some c → Table.find s.store.accounts t.accountSlot = some a →
    (∀ v : State, freed v = { v with
      store := { v.store with accounts := Table.put v.store.accounts t.accountSlot { a with
        balance := a.balance + (t.sums.total : Int)
        held := a.held - t.hold
        openTabs := a.openTabs - 1 } }
      engine := { v.engine with
        tabs := Table.set ⟨0, .free⟩ v.engine.tabs slot ⟨generation, .free⟩
        terminalTabs := Table.set 0 v.engine.terminalTabs t.terminal (v.terminalTabs t.terminal - 1) } }) →
    (∀ (v : State) (r : CloseReason), record v r = v.appendPosting ⟨0, .tabSettle r, t.terminal, c.uid, c.issue, a.number,
      v.clock.shipDay, v.clock.shipTime, t.lineCount, t.sums, false, false, v.clock.runSeconds, false⟩) →
    u = (s.advanceToSecond deadline).raise (.tabExpired slot t.sums.total) →
    (∀ (v : State) (r : CloseReason), (v.tabSlot slot).generation = generation →
      Table.find v.store.cards t.cardSlot = some c → Table.find v.store.accounts t.accountSlot = some a →
      v.settle slot t r = if t.sums.total = 0 then freed v else freed (record v r)) ∧
    (s.ready = true → s.loaded = true → slot < 128 → t.terminal ≤ 63 →
      (t.sums.total = 0 →
        exec (.tabClose tag (.fit ⟨slot, generation, t.terminal⟩)) s =
          .next ((freed s).replied 0xC4#8 tag (.tabClosed none t.sums))) ∧
      (t.sums.total ≠ 0 → s.engine.postings.length < 1024 →
        exec (.tabClose tag (.fit ⟨slot, generation, t.terminal⟩)) s =
          .next ((freed (record s .closed)).replied 0xC4#8 tag
            (.tabClosed (some s.engine.nextPosting) t.sums))) ∧
      (t.sums.total ≠ 0 → 1024 ≤ s.engine.postings.length →
        exec (.tabClose tag (.fit ⟨slot, generation, t.terminal⟩)) s =
          .next (s.replied 0xC4#8 tag (.outcome .postFull)))) ∧
    (s.takesEvents = true →
      (t.sums.total = 0 → exec (.tabIdleExpiry slot) s = .next (freed u)) ∧
      (t.sums.total ≠ 0 → s.engine.postings.length < 1024 →
        exec (.tabIdleExpiry slot) s = .next (freed (record u .expired))) ∧
      (t.sums.total ≠ 0 → 1024 ≤ s.engine.postings.length →
        exec (.tabIdleExpiry slot) s = .next { u with engine := { u.engine with
          tabs := Table.set ⟨0, .free⟩ s.engine.tabs slot ⟨generation, .closing t .expired⟩
          waiting := s.engine.waiting ++ [slot] } }))

/-- R102, R104: POST.FETCH returns the oldest PENDING records, up to 4, and marks them DELIVERED (which state
the records in its reply show is a free value, log 27); POST.REWIND makes every record PENDING again. -/
def Obligations.PostingsAreFetchedAndRewound : Prop :=
  ∀ (s : State) (tag : Byte) (done wait : List Posting), s.ready = true →
    s.engine.postings = done ++ wait → done.all (fun p => p.delivered) = true →
    wait.all Posting.isPending = true →
    exec (.postFetch tag (.fit ())) s = .next ({ s with engine := { s.engine with
        postings := done ++ (wait.take 4).map (fun (p : Posting) => { p with delivered := true }) ++
          wait.drop 4 } }.replied 0xC6#8 tag
      (.postings ((wait.take 4).map fun (p : Posting) => { p with delivered := Config.fetchedReadsDelivered })
        (wait.length - 4) (done.length + min 4 wait.length))) ∧
    exec (.postRewind tag (.fit ())) s = .next ({ s with engine := { s.engine with
        postings := done.map (fun (p : Posting) => { p with delivered := false }) ++ wait } }.replied 0xC8#8 tag
      (.rewound done.length))

/-- R98, R101, R103: POST.RELEASE of a DELIVERED record removes the records up to it, re-arms the high-water
notice below its mark and settles waiting tabs, head first, into the room; a number already released changes
nothing, and 0, a PENDING record's number and one not yet used are RANGE. A number is placed by its steps `d` along
the numbering from the head record's. The numbers of records left are counted before the waiting tabs are settled
(the model's choice, log 9). -/
def Obligations.PostReleaseRemovesDeliveredRecords : Prop :=
  ∀ (s u : State) (tag : Byte), s.ready = true → s.postingLaw = true → s.roomLaw = true →
    (∀ before p after, s.engine.postings = before ++ p :: after → p.delivered = true →
      u = { s with engine := { s.engine with
        postings := after
        highWaterArmed := s.engine.highWaterArmed ||
          decide (after.length < s.store.settings.highWater) } } →
      (s.engine.waiting = [] →
        exec (.postRelease tag (.fit p.number)) s = .next (u.replied 0xC7#8 tag
          (.released (before.length + 1) (after.filter Posting.isPending).length
            (after.filter fun x => x.delivered).length 0))) ∧
      (∀ slot t r, s.engine.waiting = [slot] → (s.tabSlot slot).state = .closing t r →
        exec (.postRelease tag (.fit p.number)) s =
          .next ((State.settle { u with engine := { u.engine with waiting := [] } } slot t r).replied
            0xC7#8 tag (.released (before.length + 1) (after.filter Posting.isPending).length
              (after.filter fun x => x.delivered).length 1))) ∧
      (∀ (one : State → Nat → State) (settled : List Nat), s.waitingLaw = true →
        (∀ (x : State) (slot : Nat) (t : Tab) (r : CloseReason), (x.tabSlot slot).state = .closing t r →
          one x slot = State.settle { x with engine := { x.engine with
            waiting := x.engine.waiting.drop 1 } } slot t r) →
        settled = s.engine.waiting.take (1024 - after.length) →
        exec (.postRelease tag (.fit p.number)) s = .next ((settled.foldl one u).replied 0xC7#8 tag
          (.released (before.length + 1) (after.filter Posting.isPending).length
            (after.filter fun x => x.delivered).length settled.length)))) ∧
    (∀ n, (n = 0 ∨ (∃ p ∈ s.engine.postings, p.number = n ∧ p.delivered = false) ∨
        n = s.engine.nextPosting) →
      exec (.postRelease tag (.fit n)) s = .next (s.replied 0xC7#8 tag (.refused .range))) ∧
    (∀ n first d, 1 ≤ n → n ≤ 4294967295 →
      first = (s.engine.postings.head?.map Posting.number).getD s.engine.nextPosting →
      (n = first + d ∨ n + 4294967295 = first + d) → d < 4294967295 →
      ((s.engine.postings.filter fun p => p.delivered).length ≤ d → d < 2147483648 →
        exec (.postRelease tag (.fit n)) s = .next (s.replied 0xC7#8 tag (.refused .range))) ∧
      (2147483648 ≤ d →
        exec (.postRelease tag (.fit n)) s = .next (s.replied 0xC7#8 tag
          (.released 0 s.engine.pendingCount s.engine.deliveredCount 0)))) ∧
    (∀ n, 1 ≤ n → n ≤ 4294967295 →
      (∃ first, (s.engine.postings.head?.map Posting.number).getD s.engine.nextPosting = first ∧
        (n < first ∧ first - n ≤ 2147483647 ∨ first < n ∧ 2147483648 ≤ n - first)) →
      exec (.postRelease tag (.fit n)) s = .next (s.replied 0xC7#8 tag
        (.released 0 s.engine.pendingCount s.engine.deliveredCount 0)))

/-- R84, R105, R106: VOID. A terminal or a number outside its range is RANGE, and a number of no record NOT_FOUND. A
PENDING CHARGE record of the terminal inside the void window is marked voided; its account, when it is still in the
table, is lowered by its total, not below the limit of a balance, and its card, when it is still in the table, gets
back, on the same ship day, what the record took. The tests before it refuse in order, those with an outcome in a
reply of that outcome alone (the model's choice, log 29). For an account retired since, the new balance of the reply
is a free value (the model's choice, log 12). -/
def Obligations.VoidsGiveBackWhatTheRecordTook : Prop :=
  ∀ (s : State) (tag : Byte) (terminal n : Nat), s.ready = true → s.loaded = true →
    ((63 < terminal ∨ n = 0) →
      exec (.void tag (.fit ⟨terminal, n⟩)) s = .next (s.replied 0xC1#8 tag (.refused .range))) ∧
    (terminal ≤ 63 → 1 ≤ n → (∀ p ∈ s.engine.postings, p.number ≠ n) →
      exec (.void tag (.fit ⟨terminal, n⟩)) s = .next (s.replied 0xC1#8 tag (.refused .notFound))) ∧
    ∀ p, terminal ≤ 63 → 1 ≤ n → s.engine.postings.find? (fun x => x.number == n) = some p →
    (∀ answer,
      (p.kind ≠ .charge ∧ answer = .refused .state ∨
        p.kind = .charge ∧ (p.terminal ≠ terminal ∧ answer = .outcome .notOwner ∨
          p.terminal = terminal ∧ (p.voided = true ∧ answer = .outcome .closed ∨
            p.voided = false ∧ (p.delivered = true ∧ answer = .outcome .delivered ∨
              p.delivered = false ∧ (p.voidable = false ∨
                s.store.settings.voidWindow ≤ s.clock.runSeconds - p.acceptedAt) ∧
                answer = .outcome .expired)))) →
      exec (.void tag (.fit ⟨terminal, n⟩)) s = .next (s.replied 0xC1#8 tag answer)) ∧
    ∀ (v w t : State) (taken spent used : Nat) (balance : Int),
      p.kind = .charge → p.terminal = terminal → p.voided = false → p.delivered = false →
      p.voidable = true → s.clock.runSeconds - p.acceptedAt < s.store.settings.voidWindow →
      v = { s with engine := { s.engine with
        postings := s.engine.postings.map fun x => if x.number = n then { x with voided := true } else x } } →
      ((∃ slot a, s.accountByNumber p.account = some (slot, a) ∧ -10000000 ≤ a.balance ∧
          balance = max (a.balance - (p.sums.total : Int)) (-10000000) ∧
          taken = min p.sums.total (a.balance + 10000000).toNat ∧
          w = { v with store := { v.store with
            accounts := Table.put s.store.accounts slot { a with balance := balance } } }) ∨
        s.accountByNumber p.account = none ∧ balance = Config.retiredBalance s.freeCount ∧ taken = 0 ∧
          w = { v with freeCount := s.freeCount + 1 }) →
      ((∃ slot c, s.cardByUid p.uid = some (slot, c) ∧ p.shipDay = s.clock.shipDay ∧
          spent = min c.daySpent p.sums.total ∧ used = min c.allowanceUsed p.sums.units ∧
          t = { w with store := { w.store with cards := Table.put s.store.cards slot { c with
            daySpent := c.daySpent - p.sums.total
            allowanceUsed := c.allowanceUsed - p.sums.units } } }) ∨
        (s.cardByUid p.uid = none ∨ p.shipDay ≠ s.clock.shipDay) ∧ spent = 0 ∧ used = 0 ∧ t = w) →
      exec (.void tag (.fit ⟨terminal, n⟩)) s =
        .next (t.replied 0xC1#8 tag (.voided taken balance spent used))

/-! ## Gangway lanes (R109 to R127) -/

/-- R112 to R115, R125: LANE.OPEN sets the soft gate, and over a closed brace the gate becomes effective with
its counters and flags fresh; at sea and in SECURE it is refused, with its outcome alone and without the soft gate,
brace level and gate of R114 (that a refused LANE.OPEN carries none of them is the model's choice, log 29).
LANE.CLOSE clears the soft gate, and an effective gate is lost with its hold record and a notice. -/
def Obligations.LanesOpenAndClose : Prop :=
  ∀ (s : State) (tag : Byte) (n : Nat) (l : Lane), s.ready = true → s.loaded = true → n < 4 →
    Four.get s.lanes n = l →
    (s.store.opState = .secure →
      exec (.laneOpen tag (.fit n)) s = .next (s.replied 0xD0#8 tag (.outcome .secured))) ∧
    (s.store.opState = .service → s.clock.port = .atSea →
      exec (.laneOpen tag (.fit n)) s = .next (s.replied 0xD0#8 tag (.outcome .atSea))) ∧
    (s.store.opState = .service → s.clock.port = .inPort →
      (l.softGate = true →
        exec (.laneOpen tag (.fit n)) s =
          .next (s.replied 0xD0#8 tag (.laneOpened true l.brace.level l.gate))) ∧
      (l.softGate = false → l.brace.level = false →
        exec (.laneOpen tag (.fit n)) s = .next ((s.setLane n { l with softGate := true }).replied 0xD0#8 tag
          (.laneOpened true false l.gate))) ∧
      (l.softGate = false → l.brace.level = true →
        exec (.laneOpen tag (.fit n)) s = .next ((s.setLane n { l with
          softGate := true
          gate := true
          counters := ⟨0, 0, 0, 0, 0⟩
          decoder := .clear
          mark := false
          settling := l.s.level || l.i.level
          flowCount := 0
          flowEnd := some (s.clock.ms + Four.get s.store.settings.flowWindow n * 1000)
          crowdingArmed := true
          armedIn := true
          armedOut := true
          openTime := ⟨s.clock.runSeconds, s.clock.shipTime⟩ }).replied 0xD0#8 tag
            (.laneOpened true true true)))) ∧
    (l.gate = false →
      exec (.laneClose tag (.fit n)) s = .next ((s.setLane n { l with softGate := false }).replied 0xD1#8 tag
        (.laneClosed none))) ∧
    (∀ h, l.gate = true → h = ⟨l.counters, l.openTime.shipTime, s.clock.shipTime, .close⟩ →
      exec (.laneClose tag (.fit n)) s = .next (((s.setLane n { l with
        softGate := false
        gate := false
        decoder := .clear
        mark := false
        settling := false
        flowEnd := none
        hold := some h }).raise (.laneHeld n .close)).replied 0xD1#8 tag (.laneClosed (some h)))) ∧
    (∀ k, 3 < k →
      exec (.laneOpen tag (.fit k)) s = .next (s.replied 0xD0#8 tag (.refused .range)) ∧
      exec (.laneClose tag (.fit k)) s = .next (s.replied 0xD1#8 tag (.refused .range)))

/-- R110, R111: an edge at an input of a lane. A level other than the one in force (for a held beam the level that
is held) begins a change under way, and that level back abandons it and releases the other beam's held change; a
level the pin already has changes nothing; while the part takes no events only the pin moves. -/
def Obligations.InputEdgesBeginAndAbandonChanges : Prop :=
  ∀ (s : State) (n : Nat) (l : Lane) (low : Bool) (level : PinLevel), n < 4 → Four.get s.lanes n = l →
    (low = true ∧ level = .low ∨ low = false ∧ level = .high) →
    (s.takesEvents = true → l.brace.pin ≠ low →
      exec (.laneInputEdge n .brace level) s = .next (s.setLane n { l with brace := { l.brace with
        pin := low
        since := if low = l.brace.level then none else some s.clock.ms } })) ∧
    (∀ b reference, s.takesEvents = true → (l.beam b).pin ≠ low →
      ((l.held = none ∨ ∃ t, l.held = some ⟨otherBeam b, t⟩ ∧ (l.beam b).since = none) ∧
          reference = (l.beam b).level ∨
        (∃ t, l.held = some ⟨b, t⟩) ∧ reference = !(l.beam b).level) →
      exec (.laneInputEdge n (.beam b) level) s = .next (s.setLane n { l.setBeam b { l.beam b with
          pin := low
          since := if low = reference then none else some s.clock.ms } with
        alone := if l.alone = some b then none else l.alone })) ∧
    (s.takesEvents = false →
      (l.brace.pin ≠ low → exec (.laneInputEdge n .brace level) s =
        .next (s.setLane n { l with brace := { l.brace with pin := low } })) ∧
      (l.s.pin ≠ low → exec (.laneInputEdge n (.beam .s) level) s =
        .next (s.setLane n { l with s := { l.s with pin := low } })) ∧
      (l.i.pin ≠ low → exec (.laneInputEdge n (.beam .i) level) s =
        .next (s.setLane n { l with i := { l.i with pin := low } }))) ∧
    (∀ b t x, s.takesEvents = true → l.held = some ⟨otherBeam b, t⟩ → (l.beam b).since = some x →
      (l.beam b).pin ≠ low → low = (l.beam b).level →
      exec (.laneInputEdge n (.beam b) level) s = .next (State.takeBeams (s.setLane n
        { l.setBeam b { l.beam b with pin := low, since := none } with
          held := none
          alone := if l.alone = some b then none else l.alone }) n (.single (otherBeam b))) ∧
      (l.gate = false →
        exec (.laneInputEdge n (.beam b) level) s = .next (s.setLane n
          ({ l.setBeam b { l.beam b with pin := low, since := none } with
              held := none
              alone := if l.alone = some b then none else l.alone }.setBeam (otherBeam b)
            { l.beam (otherBeam b) with level := !(l.beam (otherBeam b)).level })))) ∧
    (l.brace.pin = low → exec (.laneInputEdge n .brace level) s = .next s) ∧
    (l.s.pin = low → exec (.laneInputEdge n (.beam .s) level) s = .next s) ∧
    (l.i.pin = low → exec (.laneInputEdge n (.beam .i) level) s = .next s) ∧
    (∀ k input, 3 < k → exec (.laneInputEdge k input level) s = .next s)

/-- R110, R111, R117 to R120, R123: a stable change of a beam is taken at the end of its debounce, or later (the
model's choice, log 4). Alone it moves the level, and on an effective, settled gate drives the decoder by the tables
of R117, where a passage is counted, as ambiguous when marked, and its direction's difference compared. With the other
beam's change stable by then (equality included, the model's reading, log 23) or held since at most one debounce time
both levels move and the decoder takes one double change. While the other beam's change is still under way it is
held; when the wait runs out it is taken alone, and so is the other when it is stable (that the other was not stable
by then is not looked at, log 34, and what then meets a new change of the held beam, log 32, are the model's
choices). -/
def Obligations.BeamChangesAreTakenAloneOrHeld : Prop :=
  ∀ (s u : State) (n since : Nat) (b : Beam) (l : Lane), s.takesEvents = true → n < 4 →
    Four.get s.lanes n = l → (l.beam b).since = some since →
    u = s.advanceTo (since + s.store.settings.debounce) →
    (∀ m, (l.held = none ∧ (l.beam (otherBeam b)).since = none ∨
        l.alone = some b ∧ ∀ h, l.held = some h →
          h.beam = otherBeam b ∧ u.clock.ms ≤ h.since + s.store.settings.debounce) →
      m = { l.setBeam b { l.beam b with since := none, level := !(l.beam b).level } with
        alone := if l.alone = some b then none else l.alone } →
      (l.gate = false → exec (.beamChangeTaken n b) s = .next (u.setLane n m)) ∧
      (l.gate = true → l.settling = true →
        exec (.beamChangeTaken n b) s = .next (u.setLane n { m with
          settling := m.s.level || m.i.level })) ∧
      (∀ next, l.gate = true → l.settling = false →
        (l.decoder, b, next) ∈ ([(.clear, .s, .in1), (.clear, .i, .out1), (.in1, .s, .clear), (.in1, .i, .in2),
          (.in2, .s, .in3), (.in2, .i, .in1), (.in3, .s, .in2), (.spanX, .s, .in3), (.spanX, .i, .out3),
          (.out1, .i, .clear), (.out1, .s, .out2), (.out2, .i, .out3), (.out2, .s, .out1),
          (.out3, .i, .out2)] : List (Decoder × Beam × Decoder)) →
        exec (.beamChangeTaken n b) s = .next (u.setLane n { m with
          decoder := next
          mark := if next = .clear then false else l.mark })) ∧
      (∀ (d : Int) (dir : Direction) (beams scans : Nat) (armed : Bool) (counted : Bool → Lane),
        l.gate = true → l.settling = false → l.mark = false →
        (b = .i ∧ l.decoder = .in3 ∧ dir = .inward ∧ beams = l.counters.inbound + 1 ∧
            scans = l.counters.scansIn ∧ armed = l.armedIn ∧
            (∀ v, counted v = { m with
              decoder := .clear
              counters := { l.counters with inbound := beams % 16777216 }
              flowCount := min (l.flowCount + 1) 65535
              armedIn := v }) ∨
          b = .s ∧ l.decoder = .out3 ∧ dir = .outward ∧ beams = l.counters.outbound + 1 ∧
            scans = l.counters.scansOut ∧ armed = l.armedOut ∧
            (∀ v, counted v = { m with
              decoder := .clear
              counters := { l.counters with outbound := beams % 16777216 }
              flowCount := min (l.flowCount + 1) 65535
              armedOut := v })) →
        (∃ k : Int, d = (beams : Int) - scans + k * 16777216) → -8388608 ≤ d → d < 8388608 →
        (d.natAbs ≤ s.store.settings.tailgateTolerance →
          exec (.beamChangeTaken n b) s = .next (u.setLane n (counted true))) ∧
        (s.store.settings.tailgateTolerance < d.natAbs →
          (armed = false → exec (.beamChangeTaken n b) s = .next (u.setLane n (counted false))) ∧
          (armed = true → exec (.beamChangeTaken n b) s =
            .next ((u.setLane n (counted false)).raise (.tailgate n dir d))))) ∧
      (l.gate = true → l.settling = false → l.mark = true →
        (b = .s ∧ l.decoder = .out3 ∨ b = .i ∧ l.decoder = .in3) →
        exec (.beamChangeTaken n b) s = .next (u.setLane n { m with
          decoder := .clear
          mark := false
          counters := { l.counters with ambiguous := (l.counters.ambiguous + 1) % 16777216 }
          flowCount := min (l.flowCount + 1) 65535 }))) ∧
    (∀ m, l.alone ≠ some b →
      ((∃ t, l.held = some ⟨otherBeam b, t⟩ ∧ u.clock.ms ≤ t + s.store.settings.debounce ∧
          m = { (l.setBeam b { l.beam b with since := none, level := !(l.beam b).level }).setBeam (otherBeam b)
              { l.beam (otherBeam b) with level := !(l.beam (otherBeam b)).level } with
            held := none }) ∨
        ∃ other, l.held = none ∧ (l.beam (otherBeam b)).since = some other ∧
          other + s.store.settings.debounce ≤ u.clock.ms ∧ l.alone ≠ some (otherBeam b) ∧
          m = (l.setBeam b { l.beam b with since := none, level := !(l.beam b).level }).setBeam (otherBeam b)
            { l.beam (otherBeam b) with since := none, level := !(l.beam (otherBeam b)).level }) →
      exec (.beamChangeHeld n b) s = .next s ∧
      (l.gate = false → exec (.beamChangeTaken n b) s = .next (u.setLane n m)) ∧
      (l.gate = true → l.settling = true →
        exec (.beamChangeTaken n b) s = .next (u.setLane n { m with
          settling := m.s.level || m.i.level })) ∧
      (∀ next, l.gate = true → l.settling = false →
        (l.decoder, next) ∈ ([(.clear, .spanX), (.in1, .in3), (.in3, .in1), (.out1, .out3),
          (.out3, .out1)] : List (Decoder × Decoder)) →
        exec (.beamChangeTaken n b) s = .next (u.setLane n { m with
          decoder := next
          mark := true })) ∧
      (l.gate = true → l.settling = false →
        (l.decoder = .in2 ∨ l.decoder = .out2 ∨ l.decoder = .spanX) →
        exec (.beamChangeTaken n b) s = .next (u.setLane n { m with
          decoder := .clear
          mark := false
          counters := { l.counters with ambiguous := (l.counters.ambiguous + 1) % 16777216 }
          flowCount := min (l.flowCount + 1) 65535 }))) ∧
    (∀ other, l.held = none → l.alone ≠ some b → (l.beam (otherBeam b)).since = some other →
      (u.clock.ms < other + s.store.settings.debounce ∨ l.alone = some (otherBeam b)) →
      exec (.beamChangeTaken n b) s = .next s ∧
      exec (.beamChangeHeld n b) s = .next (u.setLane n { l.setBeam b { l.beam b with since := none } with
        held := some ⟨b, u.clock.ms⟩ })) ∧
    (l.held = none → ((l.beam (otherBeam b)).since = none ∨ l.alone = some b) →
      exec (.beamChangeHeld n b) s = .next s) ∧
    (∀ t, l.held = some ⟨otherBeam b, t⟩ →
      (t + s.store.settings.debounce < u.clock.ms → l.gate = false →
        exec (.beamChangeTaken n b) s = .next (u.setLane n
          { (l.setBeam b { l.beam b with since := none, level := !(l.beam b).level }).setBeam (otherBeam b)
              { l.beam (otherBeam b) with level := !(l.beam (otherBeam b)).level } with
            held := none
            alone := none })) ∧
      (∀ v, v = s.advanceTo (t + s.store.settings.debounce) →
        exec (.pairingWaitExpiry n) s = .next (State.takeBeams (v.setLane n { l with
          held := none
          alone := some b }) n (.single (otherBeam b))) ∧
        (l.gate = false →
          exec (.pairingWaitExpiry n) s = .next (v.setLane n { l.setBeam (otherBeam b)
              { l.beam (otherBeam b) with level := !(l.beam (otherBeam b)).level } with
            held := none
            alone := some b }))))

/-- R110, R112, R113, R120, R121, R122, R123: a stable brace change makes the gate effective or loses it; a flow
window closes with its comparison and the next begins at its end; a scan of either direction is counted and its
direction's difference compared, whatever counter has wrapped. The brace change and the window close are taken at
their time, or late (the model's choice, log 4), and the next window is counted from the end of the one before even
then (the model's reading, log 22). -/
def Obligations.BraceFlowWindowAndTailgate : Prop :=
  ∀ (s u : State) (n : Nat) (l : Lane), n < 4 → Four.get s.lanes n = l → s.takesEvents = true →
    (∀ since, l.brace.since = some since → u = s.advanceTo (since + s.store.settings.debounce) →
      ((l.brace.level = false ∧ l.softGate = false ∨ l.brace.level = true ∧ l.gate = false) →
        exec (.braceChangeTaken n) s = .next (u.setLane n { l with brace :=
          ⟨!l.brace.level, l.brace.pin, none⟩ })) ∧
      (l.brace.level = false → l.softGate = true →
        exec (.braceChangeTaken n) s = .next (u.setLane n { l with
          brace := ⟨true, l.brace.pin, none⟩
          gate := true
          counters := ⟨0, 0, 0, 0, 0⟩
          decoder := .clear
          mark := false
          settling := l.s.level || l.i.level
          flowCount := 0
          flowEnd := some (u.clock.ms + Four.get s.store.settings.flowWindow n * 1000)
          crowdingArmed := true
          armedIn := true
          armedOut := true
          openTime := ⟨u.clock.runSeconds, u.clock.shipTime⟩ })) ∧
      (l.brace.level = true → l.gate = true →
        exec (.braceChangeTaken n) s = .next ((u.setLane n { l with
          brace := ⟨false, l.brace.pin, none⟩
          gate := false
          decoder := .clear
          mark := false
          settling := false
          flowEnd := none
          hold := some ⟨l.counters, l.openTime.shipTime, u.clock.shipTime, .brace⟩ }).raise
            (.laneHeld n .brace)))) ∧
    (∀ e m, l.gate = true → l.flowEnd = some e → u = s.advanceTo e →
      m = { l with
        flowCount := 0
        flowEnd := some (e + Four.get s.store.settings.flowWindow n * 1000) } →
      (l.flowCount ≤ Four.get s.store.settings.flowLimit n →
        exec (.flowWindowClose n) s = .next (u.setLane n { m with crowdingArmed := true })) ∧
      (Four.get s.store.settings.flowLimit n < l.flowCount →
        (l.crowdingArmed = false → exec (.flowWindowClose n) s = .next (u.setLane n m)) ∧
        (l.crowdingArmed = true → exec (.flowWindowClose n) s =
          .next ((u.setLane n { m with crowdingArmed := false }).raise (.crowding n l.flowCount))))) ∧
    (∀ (m : Lane) (d : Int) (dir : Direction) (beams scans : Nat) (armed : Bool) (arm : Bool → Lane),
      (dir = .inward ∧ beams = l.counters.inbound ∧ scans = l.counters.scansIn + 1 ∧ armed = l.armedIn ∧
          m = { l with counters := { l.counters with scansIn := scans % 16777216 } } ∧
          (∀ v, arm v = { m with armedIn := v }) ∨
        dir = .outward ∧ beams = l.counters.outbound ∧ scans = l.counters.scansOut + 1 ∧
          armed = l.armedOut ∧
          m = { l with counters := { l.counters with scansOut := scans % 16777216 } } ∧
          (∀ v, arm v = { m with armedOut := v })) →
      (∃ k : Int, d = (beams : Int) - scans + k * 16777216) → -8388608 ≤ d → d < 8388608 →
      (d.natAbs ≤ s.store.settings.tailgateTolerance →
        s.countScan n dir = s.setLane n (arm true)) ∧
      (s.store.settings.tailgateTolerance < d.natAbs →
        (armed = false → s.countScan n dir = s.setLane n m) ∧
        (armed = true → s.countScan n dir = (s.setLane n (arm false)).raise (.tailgate n dir d))))

/-! ## Presence (R128 to R143) -/

/-- R71, R97, R132 to R137: GANGWAY.CARD. A lane or an issue outside its range is RANGE. The lane's gate is judged
first (LANE_SHUT) and the card next (UNKNOWN_CARD, and SUPERSEDED with its notice). Then, by lane role and presence,
the scan boards or leaves. A card is moved aboard or ashore with its counts and the ashore list, its OPEN tabs
settled or sent to the waiting list as it leaves, its scan counted and a leaving guest marking its account; a repeat
is counted with a notice. An EXPECTED or MISSED card that leaves, and a child without a recent adult departure, are
turned back. -/
def Obligations.GangwayScansMoveTheCard : Prop :=
  ∀ (s : State) (tag : Byte) (n uid issue : Nat) (role : LaneRole), s.atWork = true →
    ((3 < n ∨ 15 < issue) → exec (.gangwayCard tag (.fit ⟨n, uid, issue⟩)) s =
      .next (s.replied 0xD3#8 tag (.refused .range))) ∧
    (n ≤ 3 → issue ≤ 15 → (Four.get s.lanes n).gate = false →
      exec (.gangwayCard tag (.fit ⟨n, uid, issue⟩)) s =
        .next (s.replied 0xD3#8 tag (.scanRefused .laneShut none))) ∧
    (n ≤ 3 → issue ≤ 15 → (Four.get s.lanes n).gate = true →
      Four.get s.store.settings.laneRole n = role →
      (s.cardByUid uid = none →
        exec (.gangwayCard tag (.fit ⟨n, uid, issue⟩)) s =
          .next (s.replied 0xD3#8 tag (.scanRefused .unknownCard none))) ∧
      ∀ slot c, s.cardByUid uid = some (slot, c) →
        (c.issue < issue → exec (.gangwayCard tag (.fit ⟨n, uid, issue⟩)) s =
          .next (s.replied 0xD3#8 tag (.scanRefused .unknownCard none))) ∧
        (issue < c.issue → exec (.gangwayCard tag (.fit ⟨n, uid, issue⟩)) s =
          .next ((s.raise (.supersededCard uid issue)).replied 0xD3#8 tag
            (.scanRefused .superseded none))) ∧
        (c.issue = issue →
          ((role = .board ∨ role = .both) → (c.presence = .expected ∨ c.presence = .missed) →
            exec (.gangwayCard tag (.fit ⟨n, uid, issue⟩)) s =
              .next ((State.countScan { s with
                store := { s.store with cards := Table.put s.store.cards slot { c with
                  presence := .aboard
                  departure := none } }
                tracker := ⟨(s.tracker.counts.uncount c.config.cls c.presence).count c.config.cls .aboard,
                  s.tracker.ashore⟩ } n .inward).replied 0xD3#8 tag
                (.scanned .accepted ⟨slot, c.config.cls, .aboard⟩ .inward none))) ∧
          ((role = .board ∨ role = .both) → c.presence = .ashore →
            exec (.gangwayCard tag (.fit ⟨n, uid, issue⟩)) s =
              .next ((State.countScan { s with
                store := { s.store with cards := Table.put s.store.cards slot { c with
                  presence := .aboard
                  departure := none } }
                tracker := ⟨(s.tracker.counts.uncount c.config.cls .ashore).count c.config.cls .aboard,
                  s.tracker.ashore.filter fun x => x != slot⟩ } n .inward).replied 0xD3#8 tag
                (.scanned .accepted ⟨slot, c.config.cls, .aboard⟩ .inward none))) ∧
          (role = .board → (c.presence = .aboard ∨ c.presence = .unverified) →
            exec (.gangwayCard tag (.fit ⟨n, uid, issue⟩)) s =
              .next (((s.raise (.presenceMismatch c.uid n)).countScan n .inward).replied 0xD3#8 tag
                (.scanned .boardRepeat ⟨slot, c.config.cls, c.presence⟩ .inward none))) ∧
          (∀ (v m : State) (one : Departed → Nat → Departed) (slots : List Nat) (d : Departed),
            (role = .leave ∨ role = .both) → (c.presence = .aboard ∨ c.presence = .unverified) →
            (c.config.cls ≠ .child ∨ s.store.settings.escortWindow = 0 ∨
              ∃ k a t, s.accountByNumber c.config.account = some (k, a) ∧ a.lastAdultDeparture = some t ∧
                s.clock.runSeconds - t < s.store.settings.escortWindow) →
            v = { s with
              store := { s.store with cards := Table.put s.store.cards slot { c with
                presence := .ashore
                departure := some ⟨s.clock.runSeconds, s.clock.shipTime, some n⟩ } }
              tracker := ⟨(s.tracker.counts.uncount c.config.cls c.presence).count c.config.cls .ashore,
                s.tracker.ashore ++ [slot]⟩ } →
            departsBy one → s.openSlots slot slots → d = slots.foldl one ⟨v, 0, 0⟩ →
            (c.config.cls ≠ .guest ∧ m = d.state ∨
              c.config.cls = .guest ∧ ∃ k a, d.state.accountByNumber c.config.account = some (k, a) ∧
                m = { d.state with store := { d.state.store with
                  accounts := Table.put d.state.store.accounts k { a with
                    lastAdultDeparture := some s.clock.runSeconds } } }) →
            exec (.gangwayCard tag (.fit ⟨n, uid, issue⟩)) s =
              .next ((m.countScan n .outward).replied 0xD3#8 tag
                (.scanned .accepted ⟨slot, c.config.cls, .ashore⟩ .outward
                  (some (d.settled, d.waiting))))) ∧
          (∀ k a, (role = .leave ∨ role = .both) → (c.presence = .aboard ∨ c.presence = .unverified) →
            c.config.cls = .child → s.store.settings.escortWindow ≠ 0 →
            s.accountByNumber c.config.account = some (k, a) →
            (∀ t, a.lastAdultDeparture = some t →
              s.store.settings.escortWindow ≤ s.clock.runSeconds - t) →
            exec (.gangwayCard tag (.fit ⟨n, uid, issue⟩)) s = .next (s.replied 0xD3#8 tag
              (.escort ⟨slot, .child, c.presence⟩
                (a.lastAdultDeparture.map fun t => s.clock.runSeconds - t)))) ∧
          (∀ o, role = .leave → (c.presence = .expected ∧ o = .notBoarded ∨
              c.presence = .missed ∧ o = .missed) →
            exec (.gangwayCard tag (.fit ⟨n, uid, issue⟩)) s = .next (s.replied 0xD3#8 tag
              (.scanRefused o (some ⟨slot, c.config.cls, c.presence⟩)))) ∧
          (role = .leave → c.presence = .ashore → c.config.cls ≠ .guest →
            exec (.gangwayCard tag (.fit ⟨n, uid, issue⟩)) s =
              .next (((s.raise (.presenceMismatch c.uid n)).countScan n .outward).replied 0xD3#8 tag
                (.scanned .leaveRepeat ⟨slot, c.config.cls, .ashore⟩ .outward none))) ∧
          (∀ k a, role = .leave → c.presence = .ashore → c.config.cls = .guest →
            s.accountByNumber c.config.account = some (k, a) →
            exec (.gangwayCard tag (.fit ⟨n, uid, issue⟩)) s =
              .next ((State.countScan { s.raise (.presenceMismatch c.uid n) with store := { s.store with
                accounts := Table.put s.store.accounts k { a with
                  lastAdultDeparture := some s.clock.runSeconds } } } n .outward).replied 0xD3#8 tag
                (.scanned .leaveRepeat ⟨slot, .guest, .ashore⟩ .outward none)))))

/-- R97, R131, R138: PRESENCE.SET. A code of UNVERIFIED or of no presence is RANGE, and a UID of no card NOT_FOUND.
Otherwise the card moves from the presence it holds to the one carried, with its counts, its departure record and the
ashore list; a move to the presence already held changes nothing. A card that leaves the ship has its OPEN tabs
settled in ascending slot, or sent to the waiting list while the posting queue is full, and the reply gives the
numbers. -/
def Obligations.PresenceIsSet : Prop :=
  ∀ (s : State) (tag : Byte) (uid code : Nat), s.atWork = true →
    ((code = 3 ∨ 4 < code) →
      exec (.presenceSet tag (.fit ⟨uid, code⟩)) s = .next (s.replied 0xD8#8 tag (.refused .range))) ∧
    ∀ p, (code, p) ∈ ([(0, .expected), (1, .aboard), (2, .ashore), (4, .missed)] : List (Nat × Presence)) →
      (s.cardByUid uid = none →
        exec (.presenceSet tag (.fit ⟨uid, code⟩)) s = .next (s.replied 0xD8#8 tag (.refused .notFound))) ∧
      ∀ slot c, s.cardByUid uid = some (slot, c) →
        (p = c.presence → exec (.presenceSet tag (.fit ⟨uid, code⟩)) s =
          .next (s.replied 0xD8#8 tag (.presenceSet slot p p 0 0))) ∧
        (∀ v, p ≠ c.presence →
          v = { s with
            store := { s.store with cards := Table.put s.store.cards slot { c with
              presence := p
              departure := if p = Presence.ashore then some ⟨s.clock.runSeconds, s.clock.shipTime, none⟩
                else none } }
            tracker := ⟨if c.presence = Presence.unverified ∧ p = Presence.aboard then s.tracker.counts
                else (s.tracker.counts.uncount c.config.cls c.presence).count c.config.cls p,
              if p = Presence.ashore then s.tracker.ashore ++ [slot]
              else if c.presence = Presence.ashore then s.tracker.ashore.filter fun x => x != slot
              else s.tracker.ashore⟩ } →
          ((p = .aboard ∨ c.presence = .expected ∨ c.presence = .ashore ∨ c.presence = .missed) →
            exec (.presenceSet tag (.fit ⟨uid, code⟩)) s =
              .next (v.replied 0xD8#8 tag (.presenceSet slot c.presence p 0 0))) ∧
          (∀ (one : Departed → Nat → Departed) (slots : List Nat) (d : Departed),
            p ≠ .aboard → (c.presence = .aboard ∨ c.presence = .unverified) →
            departsBy one → s.openSlots slot slots → d = slots.foldl one ⟨v, 0, 0⟩ →
            exec (.presenceSet tag (.fit ⟨uid, code⟩)) s =
              .next (d.state.replied 0xD8#8 tag (.presenceSet slot c.presence p d.settled d.waiting))))

/-! ## The ship clock (R144 to R152) -/

/-- R85, R146 to R148: TIME.SET, DAY.ROLL and PORT.ARRIVE, with the values they refuse. -/
def Obligations.CalendarRequestsSetTheClock : Prop :=
  ∀ (s : State) (tag : Byte) (x : Nat), s.ready = true →
    (x ≤ 86399 → exec (.timeSet tag (.fit x)) s = .next ({ s with
      clock := { s.clock with shipTime := some x } }.replied 0xE0#8 tag (.shipTime x))) ∧
    (86399 < x → exec (.timeSet tag (.fit x)) s = .next (s.replied 0xE0#8 tag (.refused .range))) ∧
    (s.loaded = true → s.clock.shipDay < 65535 →
      exec (.dayRoll tag (.fit ()) .whole) s = .next ({ s with
        store := { s.store with cards := s.store.cards.map fun (e : Nat × Card) =>
          (e.1, { e.2 with allowanceUsed := 0, daySpent := 0 }) }
        clock := { s.clock with shipDay := s.clock.shipDay + 1 } }.replied 0xE1#8 tag
          (.shipDay (s.clock.shipDay + 1)))) ∧
    (s.loaded = true → 65535 ≤ s.clock.shipDay →
      exec (.dayRoll tag (.fit ()) .whole) s = .next (s.replied 0xE1#8 tag (.refused .range))) ∧
    (s.loaded = true → 1 ≤ x → x ≤ 7 → exec (.portArrive tag (.fit x)) s = .next ({ s with
      clock := { s.clock with port := .inPort, region := x } }.replied 0xE2#8 tag (.port .inPort x))) ∧
    (s.loaded = true → (x = 0 ∨ 7 < x) →
      exec (.portArrive tag (.fit x)) s = .next (s.replied 0xE2#8 tag (.refused .range))) ∧
    (s.loaded = false →
      exec (.dayRoll tag (.fit ()) .whole) s = .next (s.replied 0xE1#8 tag (.refused .notReady)) ∧
      exec (.portArrive tag (.fit x)) s = .next (s.replied 0xE2#8 tag (.refused .notReady)))

/-- R113, R116, R125, R140, R149: SAIL in port puts the ship at sea, clears every soft gate with a hold record and
a LANE_HELD notice for each effective gate, in ascending lane, makes every ASHORE card MISSED and empties the ashore
list, and raises MISSED_AT_SAIL with the numbers by class; the reply gives the numbers too. At sea it is
refused. -/
def Obligations.SailLeavesNobodyAshore : Prop :=
  ∀ (s : State) (tag : Byte), s.atWork = true →
    (s.clock.port = .atSea → exec (.sail tag (.fit ()) .whole) s =
      .next (s.replied 0xE3#8 tag (.refused .state))) ∧
    (∀ (count : CardClass → Nat) (gates : List Nat) (shut : Lane → Lane) (cards : Table Card),
      s.clock.port = .inPort → s.tablesLaw = true → s.ashoreLaw = true → s.countLaw = true →
      (∀ k, count k = (s.store.cards.filter fun e =>
        decide (e.2.presence = .ashore) && decide (e.2.config.cls = k)).length) →
      gates = (([0, 1, 2, 3] : List Nat).filter fun n => (Four.get s.lanes n).gate) →
      (∀ l, shut l = if l.gate then { l with
          softGate := false
          gate := false
          decoder := .clear
          mark := false
          settling := false
          flowEnd := none
          hold := some ⟨l.counters, l.openTime.shipTime, s.clock.shipTime, .sail⟩ }
        else { l with softGate := false }) →
      cards = (s.store.cards.map fun (e : Nat × Card) => (e.1,
        if e.2.presence = Presence.ashore then { e.2 with
          presence := Presence.missed
          departure := none } else e.2)) →
      exec (.sail tag (.fit ()) .whole) s = .next ({ s with
        store := { s.store with cards := cards }
        tracker := ⟨PresenceCounts.ofCards cards, []⟩
        lanes := ⟨shut s.lanes.l0, shut s.lanes.l1, shut s.lanes.l2, shut s.lanes.l3⟩
        clock := { s.clock with port := .atSea, region := 0 }
        link := ((gates.foldl (fun (x : State) n => x.raise (.laneHeld n .sail)) s).raise
          (.missedAtSail (count .guest) (count .child) (count .crew) (count .security))).link }.replied
        0xE3#8 tag (.sailed (count .guest) (count .child) (count .crew) (count .security) gates.length)))

/-- R57, R113, R116, R125, R150, R151: MODE.SET SECURE cancels every strike request, calls for the relatch of every
RELEASED door that does not owe it, in ascending door id while there is room for the order and owed after that,
clears every soft gate, with a hold record and a notice for each gate lost in ascending lane, and answers the
numbers (that all relatches owed are counted is the model's choice, log 18). MODE.SET SERVICE sets the audit pointer
to 0. The mode in force changes nothing (its reply is the model's choice, log 17). -/
def Obligations.ModeSetLocksDownAndReopens : Prop :=
  ∀ (s : State) (tag : Byte), s.atWork = true →
    (s.store.mode = .secure → exec (.modeSetSecure tag .whole) s =
      .next (s.replied 0xE4#8 tag (.outcome .accepted))) ∧
    (s.store.mode = .service → exec (.modeSetService tag (.fit 0)) s =
      .next (s.replied 0xE4#8 tag (.outcome .accepted))) ∧
    (s.store.mode = .secure → exec (.modeSetService tag (.fit 0)) s = .next ({ s with
      store := { s.store with opState := .service, mode := .service }
      doorUnit := { s.doorUnit with auditPointer := 0 } }.replied 0xE4#8 tag (.outcome .accepted))) ∧
    (∀ code, 1 < code → exec (.modeSetService tag (.fit code)) s =
      .next (s.replied 0xE4#8 tag (.refused .range))) ∧
    (∀ (released placed owing gates : List Nat) (shut : Lane → Lane), s.store.mode = .service →
      s.tablesLaw = true →
      released = (s.doorUnit.channels.filter fun e => e.2.state.isReleased && !e.2.relatchOwed).map Prod.fst →
      placed = released.take (64 - s.scheduler.orders.length) →
      owing = released.drop (64 - s.scheduler.orders.length) →
      gates = (([0, 1, 2, 3] : List Nat).filter fun n => (Four.get s.lanes n).gate) →
      (∀ l, shut l = if l.gate then { l with
          softGate := false
          gate := false
          decoder := .clear
          mark := false
          settling := false
          flowEnd := none
          hold := some ⟨l.counters, l.openTime.shipTime, s.clock.shipTime, .secure⟩ }
        else { l with softGate := false }) →
      ∃ t : State,
      exec (.modeSetSecure tag .whole) s = .next (t.replied 0xE4#8 tag
        (.lockdown (s.scheduler.buses.map fun e => e.2.queue.length).sum placed.length
          ((s.doorUnit.channels.filter fun e => e.2.relatchOwed).length + owing.length) gates.length)) ∧
      t = { s with
        store := { s.store with opState := .secure, mode := .secure }
        doorUnit := { s.doorUnit with channels := t.doorUnit.channels }
        scheduler := { s.scheduler with
          buses := t.scheduler.buses
          orders := s.scheduler.orders ++
            placed.map fun d => ⟨.relatch, d, s.clock.runSeconds⟩ }
        lanes := ⟨shut s.lanes.l0, shut s.lanes.l1, shut s.lanes.l2, shut s.lanes.l3⟩
        link := (gates.foldl (fun (x : State) n => x.raise (.laneHeld n .secure)) s).link } ∧
      (∀ b, t.bus b = ⟨[], (s.bus b).history⟩) ∧
      ∀ d c, c = s.channel d →
        (c.state = .pending → c.lastReport = some (.closed, .latched) →
          t.channel d = { c with state := .secured }) ∧
        (c.state = .pending → c.lastReport ≠ some (.closed, .latched) →
          t.channel d = { c with state := .unknown }) ∧
        (∀ timer confirm, c.state = .released timer confirm → c.relatchOwed = false →
          (d ∈ placed → t.channel d = { c with state := .relatching .awaitingFetch }) ∧
          (d ∉ placed → d ∈ owing ∧
            t.channel d = { c with state := .released none confirm, relatchOwed := true })) ∧
        (c.state ≠ .pending → (c.relatchOwed = true ∨ c.state.isReleased = false) → t.channel d = c))

/-- R156: the requests whose execution takes time stay in execution, with the part as it was, until they end;
then they have the effect and the reply of the whole request (log 3). With no such request in execution the
end of one changes nothing. -/
def Obligations.RequestsThatTakeTimeEndWhole : Prop :=
  ∀ (s : State) (tag : Byte) (q : Body Unit) (p : Body TierPutReq), s.ready = true →
    (∀ (whole long : Instr) (t : State),
      (whole = .loadEnd tag q .whole ∧ long = .loadEnd tag q .takesTime ∨
        whole = .tierPut tag p .whole ∧ long = .tierPut tag p .takesTime ∨
        whole = .dayRoll tag q .whole ∧ long = .dayRoll tag q .takesTime ∨
        whole = .sail tag q .whole ∧ long = .sail tag q .takesTime ∨
        whole = .modeSetSecure tag .whole ∧ long = .modeSetSecure tag .takesTime) →
      t = s.setLink { s.link with
        places := s.link.places ++ [.executing whole]
        buffer := some whole } →
      exec long s = .next t ∧ exec .requestCompletion t = exec whole s) ∧
    exec .requestCompletion s = .next s

/-! ## Retention and the starts (R164 to R169) -/

/-- R164 to R167: RETAIN and PFAIL begin the entry, which empties the link but for a request in execution;
the capture, once none is, abandons the debounce changes and writes the check word with the mark. Without its
supply the image is lost, and what its mark reads is a free value (log 12). In reset, where R165 has no event taken,
PFAIL asserted changes only its level (the model's reading, log 16), and a supply failure before RETAINED is found at
the capture. -/
def Obligations.RetentionIsEnteredAndCaptured : Prop :=
  ∀ (s : State) (tag : Byte) (muted : Option Transfer),
    muted = (s.link.transfer.map fun t => { t with sending := none }) →
    (s.ready = true → exec (.retain tag (.fit ())) s = .next { s with
      retention := { s.retention with phase := .entering }
      link := ⟨muted, none, [], s.link.notices, s.link.lost⟩ }) ∧
    (s.retention.resetHeld = true → exec .pfailAsserted s = .next { s with
      retention := { s.retention with pfail := true } }) ∧
    (s.retention.resetHeld = false → s.retention.phase ≠ .running → exec .pfailAsserted s = .next { s with
      retention := { s.retention with pfail := true, pfailSeen := true } }) ∧
    (s.takesFrames = true → s.link.executing = none → exec .pfailAsserted s = .next { s with
      retention := { s.retention with phase := .entering, pfail := true, pfailSeen := true }
      link := ⟨muted, none, [], s.link.notices, s.link.lost⟩ }) ∧
    (∀ c, s.takesFrames = true → s.link.executing = some c → exec .pfailAsserted s = .next { s with
      retention := { s.retention with phase := .entering, pfail := true, pfailSeen := true }
      link := ⟨muted, some c, [.executing c], s.link.notices, s.link.lost⟩ }) ∧
    (∀ quiet : Lane → Lane, (∀ l, quiet l = { l with
        s := { l.s with since := none }
        i := { l.i with since := none }
        brace := { l.brace with since := none }
        held := none
        alone := none }) →
      s.retention.resetHeld = false → s.retention.phase = .entering → s.link.executing = none →
      (s.retention.vretFailed = false → exec .retentionCapture s = .next { s with
        lanes := ⟨quiet s.lanes.l0, quiet s.lanes.l1, quiet s.lanes.l2, quiet s.lanes.l3⟩
        retention := { s.retention with
          phase := .retained
          checkWord := some (crc32 (Config.imageOrder s.image))
          mark := true
          store := .kept } }) ∧
      (s.retention.vretFailed = true → exec .retentionCapture s = .next { s with
        lanes := ⟨quiet s.lanes.l0, quiet s.lanes.l1, quiet s.lanes.l2, quiet s.lanes.l3⟩
        retention := { s.retention with
          phase := .retained
          checkWord := some (crc32 (Config.imageOrder s.image))
          mark := true
          store := .lost (Config.decayedMarkReads s.freeCount) }
        freeCount := s.freeCount + 1 })) ∧
    ((s.retention.resetHeld = true ∨ s.retention.phase ≠ .entering ∨ s.link.executing ≠ none) →
      exec .retentionCapture s = .next s) ∧
    (s.retention.resetHeld = false → s.retention.phase = .retained →
      exec .retentionSupplyFailure s = .next { s with
        retention := { s.retention with store := .lost (Config.decayedMarkReads s.freeCount) }
        freeCount := s.freeCount + 1 }) ∧
    ((s.retention.resetHeld = true ∨ s.retention.phase ≠ .retained) →
      exec .retentionSupplyFailure s = .next { s with
        retention := { s.retention with vretFailed := true } })

/-- R63, R108 to R110, R128, R136, R165, R166, R168, R169: the starts. A cold start takes the reset values; a wake
whose image stands keeps the store, the tabs, the postings, the hold records and the day, and starts everything else
afresh. Every lane starts with its levels CLEAR, CLEAR and OPEN, and a pin that is low begins a change at
millisecond 0. RESETN, power-up, the end of PFAIL and RESTART make the start that the mark and the check word give; a
RESTART completed while retention is entered is followed by the entry. These are the model's: a RESTART finds the
retention supply as it was (log 14); POWER_UP wakes a marked part whether or not PFAIL was seen, in reset only
deasserts PFAIL, and WAKE outside RETAINED does the same (log 15); the pins keep their levels over a start (log 24); a
wake over a mark that reads absent is COLD (log 26); a reply being clocked out at a start sends idle bytes from then
on (log 31). -/
def Obligations.StartsAreColdOrKeepTheImage : Prop :=
  ∀ (s : State) (tag : Byte) (lane : Lane → Option HoldRecord → Lane) (cold : WakeResult → Bool → State)
    (wake : Bool → State) (muted : Option Transfer),
    muted = (s.link.transfer.map fun t => { t with sending := none }) →
    (∀ l h, lane l h = {
      s := ⟨false, l.s.pin, if l.s.pin then some 0 else none⟩
      i := ⟨false, l.i.pin, if l.i.pin then some 0 else none⟩
      brace := ⟨false, l.brace.pin, if l.brace.pin then some 0 else none⟩
      held := none
      alone := none
      softGate := false
      gate := false
      decoder := .clear
      mark := false
      settling := false
      counters := ⟨0, 0, 0, 0, 0⟩
      openTime := ⟨0, none⟩
      flowCount := 0
      flowEnd := none
      crowdingArmed := true
      armedIn := true
      armedOut := true
      hold := h }) →
    (∀ v pfail, cold v pfail = { State.reset with
      lanes := ⟨lane s.lanes.l0 none, lane s.lanes.l1 none, lane s.lanes.l2 none, lane s.lanes.l3 none⟩
      retention := { State.reset.retention with pfail := pfail }
      link := { State.reset.link with transfer := muted, notices := [⟨.wakeResult v, 0, none⟩] }
      freeCount := s.freeCount
      pending := s.pending }) →
    (∀ pfail, wake pfail = { State.reset with
      store := { s.store with
        cards := s.store.cards.map fun (e : Nat × Card) => (e.1, { e.2 with
          departure := e.2.departure.map fun d => { d with runSeconds := 0 } })
        accounts := s.store.accounts.map fun (e : Nat × Account) => (e.1, { e.2 with
          lastAdultDeparture := none }) }
      tracker := s.tracker
      engine := { s.engine with
        tabs := s.engine.tabs.map fun (e : Nat × TabSlot) => (e.1, { e.2 with
          state := match e.2.state with
            | .opened t _ => .opened { t with lastActivity := 0 } (s.store.settings.tabIdleLimit * 60)
            | x => x })
        postings := s.engine.postings.map fun (p : Posting) => { p with voidable := false }
        highWaterArmed := decide (s.engine.postings.length < s.store.settings.highWater) }
      doorUnit := ⟨[], 0, if s.loaded = true ∧ s.store.settings.auditInterval ≠ 0 then
        some s.store.settings.auditInterval else none⟩
      lanes := ⟨lane s.lanes.l0 s.lanes.l0.hold, lane s.lanes.l1 s.lanes.l1.hold,
        lane s.lanes.l2 s.lanes.l2.hold, lane s.lanes.l3 s.lanes.l3.hold⟩
      clock := ⟨s.clock.shipDay, none, s.clock.port, s.clock.region, 0, 0⟩
      retention := { State.reset.retention with pfail := pfail }
      link := { State.reset.link with transfer := muted, notices := [⟨.wakeResult .retained, 0, none⟩] }
      freeCount := s.freeCount
      pending := s.pending }) →
    exec .resetnAsserted s = .next { s with
      retention := { s.retention with resetHeld := true }
      link := ⟨muted, none, [], s.link.notices, s.link.lost⟩ } ∧
    (s.retention.resetHeld = true → exec .resetnDeasserted s = .next (cold .cold s.retention.pfail)) ∧
    (s.retention.resetHeld = false → exec .resetnDeasserted s = .next s) ∧
    (∀ c, c = .wake ∧ s.retention.pfailSeen = true ∨ c = .powerUp ∧ s.retention.mark = true →
      s.retention.resetHeld = false → s.retention.phase = .retained →
      (s.retention.store = .kept → s.retention.checkWord = some (crc32 (Config.imageOrder s.image)) →
        exec c s = .next (wake false)) ∧
      (s.retention.store = .kept → s.retention.checkWord ≠ some (crc32 (Config.imageOrder s.image)) →
        exec c s = .next (cold .checkFailed false)) ∧
      (s.retention.store = .lost true → exec c s = .next (cold .checkFailed false)) ∧
      (s.retention.store = .lost false → exec c s = .next (cold .cold false))) ∧
    ((s.retention.resetHeld = true ∨ s.retention.phase ≠ .retained ∨ s.retention.pfailSeen = false) →
      exec .wake s = .next { s with retention := { s.retention with pfail := false } }) ∧
    (s.retention.resetHeld = false → (s.retention.phase ≠ .retained ∨ s.retention.mark = false) →
      exec .powerUp s = .next (cold .cold false)) ∧
    (s.retention.resetHeld = true →
      exec .powerUp s = .next { s with retention := { s.retention with pfail := false } }) ∧
    (s.ready = true →
      exec (.restartWarm tag (.fit 0)) s = .next { wake s.retention.pfail with
        retention := { (wake s.retention.pfail).retention with
          vretFailed := s.retention.vretFailed } } ∧
      exec (.restartCold tag) s = .next { cold .cold s.retention.pfail with
        retention := { (cold .cold s.retention.pfail).retention with
          vretFailed := s.retention.vretFailed } } ∧
      ∀ code, 1 < code →
        exec (.restartWarm tag (.fit code)) s = .next (s.replied 0xF1#8 tag (.refused .range))) ∧
    (s.retention.resetHeld = false → s.retention.phase = .entering →
      (s.link.executing = some (.restartWarm tag (.fit 0)) →
        exec (.restartWarm tag (.fit 0)) s = .next { wake s.retention.pfail with
          retention := { (wake s.retention.pfail).retention with
            phase := .entering
            pfailSeen := s.retention.pfailSeen
            vretFailed := s.retention.vretFailed } }) ∧
      (s.link.executing = some (.restartCold tag) →
        exec (.restartCold tag) s = .next { cold .cold s.retention.pfail with
          retention := { (cold .cold s.retention.pfail).retention with
            phase := .entering
            pfailSeen := s.retention.pfailSeen
            vretFailed := s.retention.vretFailed } }))

/-! ## What every step keeps -/

/-- R1, R22, R144, R145: mode and operating state agree, run-seconds count the millisecond timer, the region
goes with the port condition, and every setting stays in its range. -/
def Obligations.EveryStepKeepsModeClockPortAndSettings : Prop :=
  ∀ s t : State, step s = .next t →
    (s.modeLaw = true → t.modeLaw = true) ∧ (s.clockLaw = true → t.clockLaw = true) ∧
    (s.portLaw = true → t.portLaw = true) ∧ (s.store.settings.law = true → t.store.settings.law = true)

/-- R2, R58, R59, R61, R100, R155, R161: every table stays in its canonical form, every queue within its
room, and a part that is not loaded holds no orders, postings, tabs or gates. -/
def Obligations.EveryStepKeepsTablesAndRoom : Prop :=
  ∀ s t : State, step s = .next t →
    (s.tablesLaw = true → t.tablesLaw = true) ∧ (s.roomLaw = true → t.roomLaw = true) ∧
    (s.unloadedLaw = true → t.unloadedLaw = true)

/-- R109 to R119, R155 to R157: a gate is effective exactly over a set soft gate and a closed brace, the
decoder stands for the beams, the counters stay in range, and the places of the reply queue keep their order
within their room. -/
def Obligations.EveryStepKeepsLanesAndLink : Prop :=
  ∀ s t : State, step s = .next t →
    (s.laneLaw = true → t.laneLaw = true) ∧
    (s.roomLaw = true → s.linkLaw = true → t.linkLaw = true)

/-- R6, R7, R13, R84, R128 to R130: no two cards share a UID nor two accounts a number; a loaded part's cards
name accounts and configured doors; no card has used more than its tier's allowance; the sixteen counts are
those of the cards; and the ashore list holds exactly the ASHORE cards, which alone hold a departure. -/
def Obligations.EveryStepKeepsTheCardLaws : Prop :=
  ∀ s t : State, step s = .next t → s.tablesLaw = true →
    (s.keysLaw = true → t.keysLaw = true) ∧ (s.referenceLaw = true → t.referenceLaw = true) ∧
    (s.allowanceLaw = true → t.allowanceLaw = true) ∧
    (s.countLaw = true → s.ashoreLaw = true → t.countLaw = true ∧ t.ashoreLaw = true)

/-- R47, R58: a channel is PENDING exactly when its strike request stands once in the queue of its bus, and
relatches are owed only while the order queue is full. -/
def Obligations.EveryStepKeepsTheDoorLaws : Prop :=
  ∀ s t : State, step s = .next t → s.tablesLaw = true → s.roomLaw = true → s.unloadedLaw = true →
    s.pendingLaw = true → s.owedLaw = true → t.pendingLaw = true ∧ t.owedLaw = true

/-- R13, R80, R89, R91, R97: held amounts and open tab counts are those of the tabs, every tab's hold covers
its total, an OPEN tab's card is aboard, and no balance leaves its range. -/
def Obligations.EveryStepKeepsTheMoneyLaws : Prop :=
  ∀ s t : State, step s = .next t → s.tablesLaw = true → s.poolLaw = true → s.aboardLaw = true →
    s.balanceLaw = true → t.poolLaw = true ∧ t.aboardLaw = true ∧ t.balanceLaw = true

/-- R98, R100: the posting numbers rise by one with DELIVERED records before PENDING ones, and tabs wait only
while the posting queue is full. -/
def Obligations.EveryStepKeepsThePostingLaws : Prop :=
  ∀ s t : State, step s = .next t → s.tablesLaw = true → s.roomLaw = true → s.postingLaw = true →
    s.waitingLaw = true → t.postingLaw = true ∧ t.waitingLaw = true
end

