-- ==== Sys2Proof/Laws/State.lean ====
section
/-! SUPPORT. One lemma for each field of the state under each named update that leaves it alone, and the field
that it changes; all hold by definition. -/

namespace Sys2Proof.Machine

variable (s : State)

@[simp] theorem State.setCard_store (k : Nat) (v : Card) :
    (s.setCard k v).store = { s.store with cards := Table.put s.store.cards k v } := rfl
@[simp] theorem State.setCard_tracker (k : Nat) (v : Card) : (s.setCard k v).tracker = s.tracker := rfl
@[simp] theorem State.setCard_engine (k : Nat) (v : Card) : (s.setCard k v).engine = s.engine := rfl
@[simp] theorem State.setCard_doorUnit (k : Nat) (v : Card) : (s.setCard k v).doorUnit = s.doorUnit := rfl
@[simp] theorem State.setCard_scheduler (k : Nat) (v : Card) : (s.setCard k v).scheduler = s.scheduler := rfl
@[simp] theorem State.setCard_readers (k : Nat) (v : Card) : (s.setCard k v).readers = s.readers := rfl
@[simp] theorem State.setCard_lanes (k : Nat) (v : Card) : (s.setCard k v).lanes = s.lanes := rfl
@[simp] theorem State.setCard_clock (k : Nat) (v : Card) : (s.setCard k v).clock = s.clock := rfl
@[simp] theorem State.setCard_retention (k : Nat) (v : Card) : (s.setCard k v).retention = s.retention := rfl
@[simp] theorem State.setCard_link (k : Nat) (v : Card) : (s.setCard k v).link = s.link := rfl
@[simp] theorem State.setCard_freeCount (k : Nat) (v : Card) : (s.setCard k v).freeCount = s.freeCount := rfl
@[simp] theorem State.setCard_pending (k : Nat) (v : Card) : (s.setCard k v).pending = s.pending := rfl

@[simp] theorem State.setAccount_store (k : Nat) (v : Account) :
    (s.setAccount k v).store = { s.store with accounts := Table.put s.store.accounts k v } := rfl
@[simp] theorem State.setAccount_tracker (k : Nat) (v : Account) : (s.setAccount k v).tracker = s.tracker := rfl
@[simp] theorem State.setAccount_engine (k : Nat) (v : Account) : (s.setAccount k v).engine = s.engine := rfl
@[simp] theorem State.setAccount_doorUnit (k : Nat) (v : Account) : (s.setAccount k v).doorUnit = s.doorUnit := rfl
@[simp] theorem State.setAccount_scheduler (k : Nat) (v : Account) : (s.setAccount k v).scheduler = s.scheduler := rfl
@[simp] theorem State.setAccount_readers (k : Nat) (v : Account) : (s.setAccount k v).readers = s.readers := rfl
@[simp] theorem State.setAccount_lanes (k : Nat) (v : Account) : (s.setAccount k v).lanes = s.lanes := rfl
@[simp] theorem State.setAccount_clock (k : Nat) (v : Account) : (s.setAccount k v).clock = s.clock := rfl
@[simp] theorem State.setAccount_retention (k : Nat) (v : Account) : (s.setAccount k v).retention = s.retention := rfl
@[simp] theorem State.setAccount_link (k : Nat) (v : Account) : (s.setAccount k v).link = s.link := rfl
@[simp] theorem State.setAccount_freeCount (k : Nat) (v : Account) : (s.setAccount k v).freeCount = s.freeCount := rfl
@[simp] theorem State.setAccount_pending (k : Nat) (v : Account) : (s.setAccount k v).pending = s.pending := rfl

@[simp] theorem State.setSettings_store (v : Settings) :
    (s.setSettings v).store = { s.store with settings := v } := rfl
@[simp] theorem State.setSettings_tracker (v : Settings) : (s.setSettings v).tracker = s.tracker := rfl
@[simp] theorem State.setSettings_engine (v : Settings) : (s.setSettings v).engine = s.engine := rfl
@[simp] theorem State.setSettings_doorUnit (v : Settings) : (s.setSettings v).doorUnit = s.doorUnit := rfl
@[simp] theorem State.setSettings_scheduler (v : Settings) : (s.setSettings v).scheduler = s.scheduler := rfl
@[simp] theorem State.setSettings_readers (v : Settings) : (s.setSettings v).readers = s.readers := rfl
@[simp] theorem State.setSettings_lanes (v : Settings) : (s.setSettings v).lanes = s.lanes := rfl
@[simp] theorem State.setSettings_clock (v : Settings) : (s.setSettings v).clock = s.clock := rfl
@[simp] theorem State.setSettings_retention (v : Settings) : (s.setSettings v).retention = s.retention := rfl
@[simp] theorem State.setSettings_link (v : Settings) : (s.setSettings v).link = s.link := rfl
@[simp] theorem State.setSettings_freeCount (v : Settings) : (s.setSettings v).freeCount = s.freeCount := rfl
@[simp] theorem State.setSettings_pending (v : Settings) : (s.setSettings v).pending = s.pending := rfl

@[simp] theorem State.setDoorConfig_store (k : Nat) (v : DoorConfig) :
    (s.setDoorConfig k v).store = { s.store with doors := Table.set DoorConfig.cold s.store.doors k v } := rfl
@[simp] theorem State.setDoorConfig_tracker (k : Nat) (v : DoorConfig) : (s.setDoorConfig k v).tracker = s.tracker := rfl
@[simp] theorem State.setDoorConfig_engine (k : Nat) (v : DoorConfig) : (s.setDoorConfig k v).engine = s.engine := rfl
@[simp] theorem State.setDoorConfig_doorUnit (k : Nat) (v : DoorConfig) : (s.setDoorConfig k v).doorUnit = s.doorUnit := rfl
@[simp] theorem State.setDoorConfig_scheduler (k : Nat) (v : DoorConfig) : (s.setDoorConfig k v).scheduler = s.scheduler := rfl
@[simp] theorem State.setDoorConfig_readers (k : Nat) (v : DoorConfig) : (s.setDoorConfig k v).readers = s.readers := rfl
@[simp] theorem State.setDoorConfig_lanes (k : Nat) (v : DoorConfig) : (s.setDoorConfig k v).lanes = s.lanes := rfl
@[simp] theorem State.setDoorConfig_clock (k : Nat) (v : DoorConfig) : (s.setDoorConfig k v).clock = s.clock := rfl
@[simp] theorem State.setDoorConfig_retention (k : Nat) (v : DoorConfig) : (s.setDoorConfig k v).retention = s.retention := rfl
@[simp] theorem State.setDoorConfig_link (k : Nat) (v : DoorConfig) : (s.setDoorConfig k v).link = s.link := rfl
@[simp] theorem State.setDoorConfig_freeCount (k : Nat) (v : DoorConfig) : (s.setDoorConfig k v).freeCount = s.freeCount := rfl
@[simp] theorem State.setDoorConfig_pending (k : Nat) (v : DoorConfig) : (s.setDoorConfig k v).pending = s.pending := rfl

@[simp] theorem State.setMode_store (o : OpState) (m : Mode) :
    (s.setMode o m).store = { s.store with opState := o, mode := m } := rfl
@[simp] theorem State.setMode_tracker (o : OpState) (m : Mode) : (s.setMode o m).tracker = s.tracker := rfl
@[simp] theorem State.setMode_engine (o : OpState) (m : Mode) : (s.setMode o m).engine = s.engine := rfl
@[simp] theorem State.setMode_doorUnit (o : OpState) (m : Mode) : (s.setMode o m).doorUnit = s.doorUnit := rfl
@[simp] theorem State.setMode_scheduler (o : OpState) (m : Mode) : (s.setMode o m).scheduler = s.scheduler := rfl
@[simp] theorem State.setMode_readers (o : OpState) (m : Mode) : (s.setMode o m).readers = s.readers := rfl
@[simp] theorem State.setMode_lanes (o : OpState) (m : Mode) : (s.setMode o m).lanes = s.lanes := rfl
@[simp] theorem State.setMode_clock (o : OpState) (m : Mode) : (s.setMode o m).clock = s.clock := rfl
@[simp] theorem State.setMode_retention (o : OpState) (m : Mode) : (s.setMode o m).retention = s.retention := rfl
@[simp] theorem State.setMode_link (o : OpState) (m : Mode) : (s.setMode o m).link = s.link := rfl
@[simp] theorem State.setMode_freeCount (o : OpState) (m : Mode) : (s.setMode o m).freeCount = s.freeCount := rfl
@[simp] theorem State.setMode_pending (o : OpState) (m : Mode) : (s.setMode o m).pending = s.pending := rfl

@[simp] theorem State.setChannel_store (k : Nat) (v : Channel) : (s.setChannel k v).store = s.store := rfl
@[simp] theorem State.setChannel_tracker (k : Nat) (v : Channel) : (s.setChannel k v).tracker = s.tracker := rfl
@[simp] theorem State.setChannel_engine (k : Nat) (v : Channel) : (s.setChannel k v).engine = s.engine := rfl
@[simp] theorem State.setChannel_doorUnit (k : Nat) (v : Channel) :
    (s.setChannel k v).doorUnit = { s.doorUnit with channels := Table.set Channel.start s.doorUnit.channels k v } := rfl
@[simp] theorem State.setChannel_scheduler (k : Nat) (v : Channel) : (s.setChannel k v).scheduler = s.scheduler := rfl
@[simp] theorem State.setChannel_readers (k : Nat) (v : Channel) : (s.setChannel k v).readers = s.readers := rfl
@[simp] theorem State.setChannel_lanes (k : Nat) (v : Channel) : (s.setChannel k v).lanes = s.lanes := rfl
@[simp] theorem State.setChannel_clock (k : Nat) (v : Channel) : (s.setChannel k v).clock = s.clock := rfl
@[simp] theorem State.setChannel_retention (k : Nat) (v : Channel) : (s.setChannel k v).retention = s.retention := rfl
@[simp] theorem State.setChannel_link (k : Nat) (v : Channel) : (s.setChannel k v).link = s.link := rfl
@[simp] theorem State.setChannel_freeCount (k : Nat) (v : Channel) : (s.setChannel k v).freeCount = s.freeCount := rfl
@[simp] theorem State.setChannel_pending (k : Nat) (v : Channel) : (s.setChannel k v).pending = s.pending := rfl

@[simp] theorem State.setChannelState_store (k : Nat) (v : ChannelState) : (s.setChannelState k v).store = s.store := rfl
@[simp] theorem State.setChannelState_tracker (k : Nat) (v : ChannelState) : (s.setChannelState k v).tracker = s.tracker := rfl
@[simp] theorem State.setChannelState_engine (k : Nat) (v : ChannelState) : (s.setChannelState k v).engine = s.engine := rfl
@[simp] theorem State.setChannelState_scheduler (k : Nat) (v : ChannelState) : (s.setChannelState k v).scheduler = s.scheduler := rfl
@[simp] theorem State.setChannelState_readers (k : Nat) (v : ChannelState) : (s.setChannelState k v).readers = s.readers := rfl
@[simp] theorem State.setChannelState_lanes (k : Nat) (v : ChannelState) : (s.setChannelState k v).lanes = s.lanes := rfl
@[simp] theorem State.setChannelState_clock (k : Nat) (v : ChannelState) : (s.setChannelState k v).clock = s.clock := rfl
@[simp] theorem State.setChannelState_retention (k : Nat) (v : ChannelState) : (s.setChannelState k v).retention = s.retention := rfl
@[simp] theorem State.setChannelState_link (k : Nat) (v : ChannelState) : (s.setChannelState k v).link = s.link := rfl
@[simp] theorem State.setChannelState_freeCount (k : Nat) (v : ChannelState) : (s.setChannelState k v).freeCount = s.freeCount := rfl
@[simp] theorem State.setChannelState_pending (k : Nat) (v : ChannelState) : (s.setChannelState k v).pending = s.pending := rfl

@[simp] theorem State.setReader_store (k : Nat) (v : Reader) : (s.setReader k v).store = s.store := rfl
@[simp] theorem State.setReader_tracker (k : Nat) (v : Reader) : (s.setReader k v).tracker = s.tracker := rfl
@[simp] theorem State.setReader_engine (k : Nat) (v : Reader) : (s.setReader k v).engine = s.engine := rfl
@[simp] theorem State.setReader_doorUnit (k : Nat) (v : Reader) : (s.setReader k v).doorUnit = s.doorUnit := rfl
@[simp] theorem State.setReader_scheduler (k : Nat) (v : Reader) : (s.setReader k v).scheduler = s.scheduler := rfl
@[simp] theorem State.setReader_readers (k : Nat) (v : Reader) :
    (s.setReader k v).readers = Table.set Reader.start s.readers k v := rfl
@[simp] theorem State.setReader_lanes (k : Nat) (v : Reader) : (s.setReader k v).lanes = s.lanes := rfl
@[simp] theorem State.setReader_clock (k : Nat) (v : Reader) : (s.setReader k v).clock = s.clock := rfl
@[simp] theorem State.setReader_retention (k : Nat) (v : Reader) : (s.setReader k v).retention = s.retention := rfl
@[simp] theorem State.setReader_link (k : Nat) (v : Reader) : (s.setReader k v).link = s.link := rfl
@[simp] theorem State.setReader_freeCount (k : Nat) (v : Reader) : (s.setReader k v).freeCount = s.freeCount := rfl
@[simp] theorem State.setReader_pending (k : Nat) (v : Reader) : (s.setReader k v).pending = s.pending := rfl

@[simp] theorem State.setBus_store (k : Nat) (v : Bus) : (s.setBus k v).store = s.store := rfl
@[simp] theorem State.setBus_tracker (k : Nat) (v : Bus) : (s.setBus k v).tracker = s.tracker := rfl
@[simp] theorem State.setBus_engine (k : Nat) (v : Bus) : (s.setBus k v).engine = s.engine := rfl
@[simp] theorem State.setBus_doorUnit (k : Nat) (v : Bus) : (s.setBus k v).doorUnit = s.doorUnit := rfl
@[simp] theorem State.setBus_scheduler (k : Nat) (v : Bus) :
    (s.setBus k v).scheduler = { s.scheduler with buses := Table.set Bus.start s.scheduler.buses k v } := rfl
@[simp] theorem State.setBus_readers (k : Nat) (v : Bus) : (s.setBus k v).readers = s.readers := rfl
@[simp] theorem State.setBus_lanes (k : Nat) (v : Bus) : (s.setBus k v).lanes = s.lanes := rfl
@[simp] theorem State.setBus_clock (k : Nat) (v : Bus) : (s.setBus k v).clock = s.clock := rfl
@[simp] theorem State.setBus_retention (k : Nat) (v : Bus) : (s.setBus k v).retention = s.retention := rfl
@[simp] theorem State.setBus_link (k : Nat) (v : Bus) : (s.setBus k v).link = s.link := rfl
@[simp] theorem State.setBus_freeCount (k : Nat) (v : Bus) : (s.setBus k v).freeCount = s.freeCount := rfl
@[simp] theorem State.setBus_pending (k : Nat) (v : Bus) : (s.setBus k v).pending = s.pending := rfl

@[simp] theorem State.placeOrder_store (o : OrderKind) (d : Nat) : (s.placeOrder o d).store = s.store := rfl
@[simp] theorem State.placeOrder_tracker (o : OrderKind) (d : Nat) : (s.placeOrder o d).tracker = s.tracker := rfl
@[simp] theorem State.placeOrder_engine (o : OrderKind) (d : Nat) : (s.placeOrder o d).engine = s.engine := rfl
@[simp] theorem State.placeOrder_doorUnit (o : OrderKind) (d : Nat) : (s.placeOrder o d).doorUnit = s.doorUnit := rfl
@[simp] theorem State.placeOrder_scheduler (o : OrderKind) (d : Nat) :
    (s.placeOrder o d).scheduler = { s.scheduler with orders := s.scheduler.orders ++ [⟨o, d, s.clock.runSeconds⟩] } := rfl
@[simp] theorem State.placeOrder_readers (o : OrderKind) (d : Nat) : (s.placeOrder o d).readers = s.readers := rfl
@[simp] theorem State.placeOrder_lanes (o : OrderKind) (d : Nat) : (s.placeOrder o d).lanes = s.lanes := rfl
@[simp] theorem State.placeOrder_clock (o : OrderKind) (d : Nat) : (s.placeOrder o d).clock = s.clock := rfl
@[simp] theorem State.placeOrder_retention (o : OrderKind) (d : Nat) : (s.placeOrder o d).retention = s.retention := rfl
@[simp] theorem State.placeOrder_link (o : OrderKind) (d : Nat) : (s.placeOrder o d).link = s.link := rfl
@[simp] theorem State.placeOrder_freeCount (o : OrderKind) (d : Nat) : (s.placeOrder o d).freeCount = s.freeCount := rfl
@[simp] theorem State.placeOrder_pending (o : OrderKind) (d : Nat) : (s.placeOrder o d).pending = s.pending := rfl

@[simp] theorem State.setLane_store (k : Nat) (v : Lane) : (s.setLane k v).store = s.store := rfl
@[simp] theorem State.setLane_tracker (k : Nat) (v : Lane) : (s.setLane k v).tracker = s.tracker := rfl
@[simp] theorem State.setLane_engine (k : Nat) (v : Lane) : (s.setLane k v).engine = s.engine := rfl
@[simp] theorem State.setLane_doorUnit (k : Nat) (v : Lane) : (s.setLane k v).doorUnit = s.doorUnit := rfl
@[simp] theorem State.setLane_scheduler (k : Nat) (v : Lane) : (s.setLane k v).scheduler = s.scheduler := rfl
@[simp] theorem State.setLane_readers (k : Nat) (v : Lane) : (s.setLane k v).readers = s.readers := rfl
@[simp] theorem State.setLane_lanes (k : Nat) (v : Lane) :
    (s.setLane k v).lanes = Four.set s.lanes k v := rfl
@[simp] theorem State.setLane_clock (k : Nat) (v : Lane) : (s.setLane k v).clock = s.clock := rfl
@[simp] theorem State.setLane_retention (k : Nat) (v : Lane) : (s.setLane k v).retention = s.retention := rfl
@[simp] theorem State.setLane_link (k : Nat) (v : Lane) : (s.setLane k v).link = s.link := rfl
@[simp] theorem State.setLane_freeCount (k : Nat) (v : Lane) : (s.setLane k v).freeCount = s.freeCount := rfl
@[simp] theorem State.setLane_pending (k : Nat) (v : Lane) : (s.setLane k v).pending = s.pending := rfl

@[simp] theorem State.setLink_store (v : Link) : (s.setLink v).store = s.store := rfl
@[simp] theorem State.setLink_tracker (v : Link) : (s.setLink v).tracker = s.tracker := rfl
@[simp] theorem State.setLink_engine (v : Link) : (s.setLink v).engine = s.engine := rfl
@[simp] theorem State.setLink_doorUnit (v : Link) : (s.setLink v).doorUnit = s.doorUnit := rfl
@[simp] theorem State.setLink_scheduler (v : Link) : (s.setLink v).scheduler = s.scheduler := rfl
@[simp] theorem State.setLink_readers (v : Link) : (s.setLink v).readers = s.readers := rfl
@[simp] theorem State.setLink_lanes (v : Link) : (s.setLink v).lanes = s.lanes := rfl
@[simp] theorem State.setLink_clock (v : Link) : (s.setLink v).clock = s.clock := rfl
@[simp] theorem State.setLink_retention (v : Link) : (s.setLink v).retention = s.retention := rfl
@[simp] theorem State.setLink_link (v : Link) :
    (s.setLink v).link = v := rfl
@[simp] theorem State.setLink_freeCount (v : Link) : (s.setLink v).freeCount = s.freeCount := rfl
@[simp] theorem State.setLink_pending (v : Link) : (s.setLink v).pending = s.pending := rfl

@[simp] theorem State.setTabSlot_store (k : Nat) (v : TabSlot) : (s.setTabSlot k v).store = s.store := rfl
@[simp] theorem State.setTabSlot_tracker (k : Nat) (v : TabSlot) : (s.setTabSlot k v).tracker = s.tracker := rfl
@[simp] theorem State.setTabSlot_engine (k : Nat) (v : TabSlot) :
    (s.setTabSlot k v).engine = { s.engine with tabs := Table.set TabSlot.cold s.engine.tabs k v } := rfl
@[simp] theorem State.setTabSlot_doorUnit (k : Nat) (v : TabSlot) : (s.setTabSlot k v).doorUnit = s.doorUnit := rfl
@[simp] theorem State.setTabSlot_scheduler (k : Nat) (v : TabSlot) : (s.setTabSlot k v).scheduler = s.scheduler := rfl
@[simp] theorem State.setTabSlot_readers (k : Nat) (v : TabSlot) : (s.setTabSlot k v).readers = s.readers := rfl
@[simp] theorem State.setTabSlot_lanes (k : Nat) (v : TabSlot) : (s.setTabSlot k v).lanes = s.lanes := rfl
@[simp] theorem State.setTabSlot_clock (k : Nat) (v : TabSlot) : (s.setTabSlot k v).clock = s.clock := rfl
@[simp] theorem State.setTabSlot_retention (k : Nat) (v : TabSlot) : (s.setTabSlot k v).retention = s.retention := rfl
@[simp] theorem State.setTabSlot_link (k : Nat) (v : TabSlot) : (s.setTabSlot k v).link = s.link := rfl
@[simp] theorem State.setTabSlot_freeCount (k : Nat) (v : TabSlot) : (s.setTabSlot k v).freeCount = s.freeCount := rfl
@[simp] theorem State.setTabSlot_pending (k : Nat) (v : TabSlot) : (s.setTabSlot k v).pending = s.pending := rfl

@[simp] theorem State.setTerminalTabs_store (k n : Nat) : (s.setTerminalTabs k n).store = s.store := rfl
@[simp] theorem State.setTerminalTabs_tracker (k n : Nat) : (s.setTerminalTabs k n).tracker = s.tracker := rfl
@[simp] theorem State.setTerminalTabs_engine (k n : Nat) :
    (s.setTerminalTabs k n).engine = { s.engine with terminalTabs := Table.set 0 s.engine.terminalTabs k n } := rfl
@[simp] theorem State.setTerminalTabs_doorUnit (k n : Nat) : (s.setTerminalTabs k n).doorUnit = s.doorUnit := rfl
@[simp] theorem State.setTerminalTabs_scheduler (k n : Nat) : (s.setTerminalTabs k n).scheduler = s.scheduler := rfl
@[simp] theorem State.setTerminalTabs_readers (k n : Nat) : (s.setTerminalTabs k n).readers = s.readers := rfl
@[simp] theorem State.setTerminalTabs_lanes (k n : Nat) : (s.setTerminalTabs k n).lanes = s.lanes := rfl
@[simp] theorem State.setTerminalTabs_clock (k n : Nat) : (s.setTerminalTabs k n).clock = s.clock := rfl
@[simp] theorem State.setTerminalTabs_retention (k n : Nat) : (s.setTerminalTabs k n).retention = s.retention := rfl
@[simp] theorem State.setTerminalTabs_link (k n : Nat) : (s.setTerminalTabs k n).link = s.link := rfl
@[simp] theorem State.setTerminalTabs_freeCount (k n : Nat) : (s.setTerminalTabs k n).freeCount = s.freeCount := rfl
@[simp] theorem State.setTerminalTabs_pending (k n : Nat) : (s.setTerminalTabs k n).pending = s.pending := rfl

@[simp] theorem State.setPostings_store (v : List Posting) : (s.setPostings v).store = s.store := rfl
@[simp] theorem State.setPostings_tracker (v : List Posting) : (s.setPostings v).tracker = s.tracker := rfl
@[simp] theorem State.setPostings_engine (v : List Posting) :
    (s.setPostings v).engine = { s.engine with postings := v } := rfl
@[simp] theorem State.setPostings_doorUnit (v : List Posting) : (s.setPostings v).doorUnit = s.doorUnit := rfl
@[simp] theorem State.setPostings_scheduler (v : List Posting) : (s.setPostings v).scheduler = s.scheduler := rfl
@[simp] theorem State.setPostings_readers (v : List Posting) : (s.setPostings v).readers = s.readers := rfl
@[simp] theorem State.setPostings_lanes (v : List Posting) : (s.setPostings v).lanes = s.lanes := rfl
@[simp] theorem State.setPostings_clock (v : List Posting) : (s.setPostings v).clock = s.clock := rfl
@[simp] theorem State.setPostings_retention (v : List Posting) : (s.setPostings v).retention = s.retention := rfl
@[simp] theorem State.setPostings_link (v : List Posting) : (s.setPostings v).link = s.link := rfl
@[simp] theorem State.setPostings_freeCount (v : List Posting) : (s.setPostings v).freeCount = s.freeCount := rfl
@[simp] theorem State.setPostings_pending (v : List Posting) : (s.setPostings v).pending = s.pending := rfl

@[simp] theorem State.advanceTo_store (t : Nat) : (s.advanceTo t).store = s.store := rfl
@[simp] theorem State.advanceTo_tracker (t : Nat) : (s.advanceTo t).tracker = s.tracker := rfl
@[simp] theorem State.advanceTo_engine (t : Nat) : (s.advanceTo t).engine = s.engine := rfl
@[simp] theorem State.advanceTo_doorUnit (t : Nat) : (s.advanceTo t).doorUnit = s.doorUnit := rfl
@[simp] theorem State.advanceTo_scheduler (t : Nat) : (s.advanceTo t).scheduler = s.scheduler := rfl
@[simp] theorem State.advanceTo_readers (t : Nat) : (s.advanceTo t).readers = s.readers := rfl
@[simp] theorem State.advanceTo_lanes (t : Nat) : (s.advanceTo t).lanes = s.lanes := rfl
@[simp] theorem State.advanceTo_clock (t : Nat) :
    (s.advanceTo t).clock = s.clock.advanceTo t := rfl
@[simp] theorem State.advanceTo_retention (t : Nat) : (s.advanceTo t).retention = s.retention := rfl
@[simp] theorem State.advanceTo_link (t : Nat) : (s.advanceTo t).link = s.link := rfl
@[simp] theorem State.advanceTo_freeCount (t : Nat) : (s.advanceTo t).freeCount = s.freeCount := rfl
@[simp] theorem State.advanceTo_pending (t : Nat) : (s.advanceTo t).pending = s.pending := rfl

@[simp] theorem State.setPfail_store (b : Bool) : (s.setPfail b).store = s.store := rfl
@[simp] theorem State.setPfail_tracker (b : Bool) : (s.setPfail b).tracker = s.tracker := rfl
@[simp] theorem State.setPfail_engine (b : Bool) : (s.setPfail b).engine = s.engine := rfl
@[simp] theorem State.setPfail_doorUnit (b : Bool) : (s.setPfail b).doorUnit = s.doorUnit := rfl
@[simp] theorem State.setPfail_scheduler (b : Bool) : (s.setPfail b).scheduler = s.scheduler := rfl
@[simp] theorem State.setPfail_readers (b : Bool) : (s.setPfail b).readers = s.readers := rfl
@[simp] theorem State.setPfail_lanes (b : Bool) : (s.setPfail b).lanes = s.lanes := rfl
@[simp] theorem State.setPfail_clock (b : Bool) : (s.setPfail b).clock = s.clock := rfl
@[simp] theorem State.setPfail_retention (b : Bool) :
    (s.setPfail b).retention = { s.retention with pfail := b } := rfl
@[simp] theorem State.setPfail_link (b : Bool) : (s.setPfail b).link = s.link := rfl
@[simp] theorem State.setPfail_freeCount (b : Bool) : (s.setPfail b).freeCount = s.freeCount := rfl
@[simp] theorem State.setPfail_pending (b : Bool) : (s.setPfail b).pending = s.pending := rfl

/-! ## The lane field `alone` -/

@[simp] theorem Lane.forget_s (l : Lane) (b : Beam) : (l.forget b).s = l.s := rfl
@[simp] theorem Lane.forget_i (l : Lane) (b : Beam) : (l.forget b).i = l.i := rfl
@[simp] theorem Lane.forget_brace (l : Lane) (b : Beam) : (l.forget b).brace = l.brace := rfl
@[simp] theorem Lane.forget_held (l : Lane) (b : Beam) : (l.forget b).held = l.held := rfl
@[simp] theorem Lane.forget_softGate (l : Lane) (b : Beam) : (l.forget b).softGate = l.softGate := rfl
@[simp] theorem Lane.forget_gate (l : Lane) (b : Beam) : (l.forget b).gate = l.gate := rfl
@[simp] theorem Lane.forget_decoder (l : Lane) (b : Beam) : (l.forget b).decoder = l.decoder := rfl
@[simp] theorem Lane.forget_mark (l : Lane) (b : Beam) : (l.forget b).mark = l.mark := rfl
@[simp] theorem Lane.forget_settling (l : Lane) (b : Beam) : (l.forget b).settling = l.settling := rfl
@[simp] theorem Lane.forget_counters (l : Lane) (b : Beam) : (l.forget b).counters = l.counters := rfl
@[simp] theorem Lane.forget_openTime (l : Lane) (b : Beam) : (l.forget b).openTime = l.openTime := rfl
@[simp] theorem Lane.forget_flowCount (l : Lane) (b : Beam) : (l.forget b).flowCount = l.flowCount := rfl
@[simp] theorem Lane.forget_flowEnd (l : Lane) (b : Beam) : (l.forget b).flowEnd = l.flowEnd := rfl
@[simp] theorem Lane.forget_crowdingArmed (l : Lane) (b : Beam) : (l.forget b).crowdingArmed = l.crowdingArmed := rfl
@[simp] theorem Lane.forget_armedIn (l : Lane) (b : Beam) : (l.forget b).armedIn = l.armedIn := rfl
@[simp] theorem Lane.forget_armedOut (l : Lane) (b : Beam) : (l.forget b).armedOut = l.armedOut := rfl
@[simp] theorem Lane.forget_hold (l : Lane) (b : Beam) : (l.forget b).hold = l.hold := rfl
@[simp] theorem Lane.forget_alone (l : Lane) (b : Beam) :
    (l.forget b).alone = if l.alone = some b then none else l.alone := rfl

@[simp] theorem Lane.unpaired_s (l : Lane) : l.unpaired.s = l.s := rfl
@[simp] theorem Lane.unpaired_i (l : Lane) : l.unpaired.i = l.i := rfl
@[simp] theorem Lane.unpaired_brace (l : Lane) : l.unpaired.brace = l.brace := rfl
@[simp] theorem Lane.unpaired_held (l : Lane) : l.unpaired.held = l.held := rfl
@[simp] theorem Lane.unpaired_softGate (l : Lane) : l.unpaired.softGate = l.softGate := rfl
@[simp] theorem Lane.unpaired_gate (l : Lane) : l.unpaired.gate = l.gate := rfl
@[simp] theorem Lane.unpaired_decoder (l : Lane) : l.unpaired.decoder = l.decoder := rfl
@[simp] theorem Lane.unpaired_mark (l : Lane) : l.unpaired.mark = l.mark := rfl
@[simp] theorem Lane.unpaired_settling (l : Lane) : l.unpaired.settling = l.settling := rfl
@[simp] theorem Lane.unpaired_counters (l : Lane) : l.unpaired.counters = l.counters := rfl
@[simp] theorem Lane.unpaired_openTime (l : Lane) : l.unpaired.openTime = l.openTime := rfl
@[simp] theorem Lane.unpaired_flowCount (l : Lane) : l.unpaired.flowCount = l.flowCount := rfl
@[simp] theorem Lane.unpaired_flowEnd (l : Lane) : l.unpaired.flowEnd = l.flowEnd := rfl
@[simp] theorem Lane.unpaired_crowdingArmed (l : Lane) : l.unpaired.crowdingArmed = l.crowdingArmed := rfl
@[simp] theorem Lane.unpaired_armedIn (l : Lane) : l.unpaired.armedIn = l.armedIn := rfl
@[simp] theorem Lane.unpaired_armedOut (l : Lane) : l.unpaired.armedOut = l.armedOut := rfl
@[simp] theorem Lane.unpaired_hold (l : Lane) : l.unpaired.hold = l.hold := rfl

end Sys2Proof.Machine
end

