-- ==== Sys2Proof/Laws/Link.lean ====
section
/-! SUPPORT. What the turn of a request does to the link, said once: a request command on a free link, its
reply, and the notices it raises. -/

namespace Sys2Proof.Machine

/-! ## Notices -/

/-- Raising a notice changes the notice queue or the lost flag, and nothing else. -/
theorem State.raise_eq (s : State) (b : NoticeBody) :
    s.raise b = s.setLink
      (if s.link.notices.length < noticeQueueRoom then
        { s.link with notices := s.link.notices ++ [⟨b, s.clock.runSeconds, s.clock.shipTime⟩] }
      else { s.link with lost := true }) := by
  unfold State.raise
  split <;> rfl

@[simp] theorem State.raise_store (s : State) (b : NoticeBody) : (s.raise b).store = s.store := by
  rw [State.raise_eq]; rfl
@[simp] theorem State.raise_tracker (s : State) (b : NoticeBody) : (s.raise b).tracker = s.tracker := by
  rw [State.raise_eq]; rfl
@[simp] theorem State.raise_engine (s : State) (b : NoticeBody) : (s.raise b).engine = s.engine := by
  rw [State.raise_eq]; rfl
@[simp] theorem State.raise_doorUnit (s : State) (b : NoticeBody) : (s.raise b).doorUnit = s.doorUnit := by
  rw [State.raise_eq]; rfl
@[simp] theorem State.raise_scheduler (s : State) (b : NoticeBody) :
    (s.raise b).scheduler = s.scheduler := by
  rw [State.raise_eq]; rfl
@[simp] theorem State.raise_readers (s : State) (b : NoticeBody) : (s.raise b).readers = s.readers := by
  rw [State.raise_eq]; rfl
@[simp] theorem State.raise_lanes (s : State) (b : NoticeBody) : (s.raise b).lanes = s.lanes := by
  rw [State.raise_eq]; rfl
@[simp] theorem State.raise_clock (s : State) (b : NoticeBody) : (s.raise b).clock = s.clock := by
  rw [State.raise_eq]; rfl
@[simp] theorem State.raise_retention (s : State) (b : NoticeBody) :
    (s.raise b).retention = s.retention := by
  rw [State.raise_eq]; rfl
@[simp] theorem State.raise_freeCount (s : State) (b : NoticeBody) :
    (s.raise b).freeCount = s.freeCount := by
  rw [State.raise_eq]; rfl
@[simp] theorem State.raise_pending (s : State) (b : NoticeBody) : (s.raise b).pending = s.pending := by
  rw [State.raise_eq]; rfl
@[simp] theorem State.raise_places (s : State) (b : NoticeBody) :
    (s.raise b).link.places = s.link.places := by
  rw [State.raise_eq]; split <;> rfl
@[simp] theorem State.raise_buffer (s : State) (b : NoticeBody) :
    (s.raise b).link.buffer = s.link.buffer := by
  rw [State.raise_eq]; split <;> rfl

/-! ## Replies ahead of the request in execution -/

theorem executing_of_replies {ps : List Place} (h : ps.all Place.isReply = true) :
    ps.findSome? Place.executing? = none := by
  rw [List.findSome?_eq_none_iff]
  intro p hp
  have := List.all_eq_true.mp h p hp
  cases p <;> simp_all [Place.isReply, Place.executing?]

theorem beginOldest_of_replies {ps : List Place} (h : ps.all Place.isReply = true) :
    beginOldest ps = none := by
  induction ps with
  | nil => rfl
  | cons p ps ih =>
    simp only [List.all_cons, Bool.and_eq_true] at h
    cases p <;> simp_all [Place.isReply, beginOldest]

theorem beginOldest_append {ps : List Place} (h : ps.all Place.isReply = true) (c : Instr)
    (qs : List Place) :
    beginOldest (ps ++ .waiting c :: qs) = some (c, ps ++ .executing c :: qs) := by
  induction ps with
  | nil => rfl
  | cons p ps ih =>
    simp only [List.all_cons, Bool.and_eq_true] at h
    cases p <;> simp_all [Place.isReply, beginOldest]

theorem map_answered_replies {ps : List Place} (h : ps.all Place.isReply = true) (r : Reply) :
    ps.map (Place.answered r) = ps := by
  induction ps with
  | nil => rfl
  | cons p ps ih =>
    simp only [List.all_cons, Bool.and_eq_true] at h
    cases p <;> simp_all [Place.isReply, Place.answered]

/-! ## A request on a free link -/

/-- The state in which a request that finds the link free is executed. -/
def State.entering (s : State) (c : Instr) : State :=
  s.setLink { s.link with places := s.link.places ++ [.executing c], buffer := some c }

theorem takesEvents_of_takesFrames {s : State} (h : s.takesFrames = true) : s.takesEvents = true := by
  simp only [State.takesFrames, State.takesEvents, Bool.and_eq_true, decide_eq_true_eq] at *
  exact ⟨h.1, by simp [h.2]⟩

/-- A request command that finds the link free is executed at once. -/
theorem turn_of_ready {s : State} (h : s.ready = true) (c : Instr) :
    s.turn c = .runs (s.entering c.asFramed) := by
  simp only [State.ready, Bool.and_eq_true, decide_eq_true_eq, Option.isNone_iff_eq_none] at h
  obtain ⟨⟨⟨h1, h2⟩, h3⟩, h4⟩ := h
  have e0 : s.link.executing = none := executing_of_replies h2
  have offered : s.link.offer c.asFramed =
      { s.link with places := s.link.places ++ [.executing c.asFramed], buffer := some c.asFramed } := by
    have : ({ s.link with places := s.link.places ++ [.waiting c.asFramed] } : Link).executing = none := by
      simp [Link.executing, List.findSome?_append, executing_of_replies h2, Place.executing?]
    simp [Link.offer, h4, Link.beginNext, this, beginOldest_append h2]
  have e1 : Link.executing
      { s.link with
        places := s.link.places ++ [.executing c.asFramed]
        buffer := some c.asFramed } = some c.asFramed := by
    simp [Link.executing, List.findSome?_append, executing_of_replies h2, Place.executing?]
  simp [State.turn, takesEvents_of_takesFrames h1, h1, e0, State.entering, offered, e1]

/-- The completion of a request behind whose place nothing waits. -/
theorem complete_last {t : State} {ps : List Place} {c : Instr} (hf : t.takesFrames = true)
    (hp : t.link.places = ps ++ [.executing c]) (hr : ps.all Place.isReply = true) (r : Reply) :
    t.complete r = t.setLink { t.link with places := ps ++ [.reply r], buffer := none } := by
  have e : t.link.executing = some c := by
    simp [Link.executing, hp, List.findSome?_append, executing_of_replies hr, Place.executing?]
  have hall : (ps ++ [Place.reply r]).all Place.isReply = true := by
    simpa [Place.isReply] using hr
  have n : ({ t.link with places := ps ++ [.reply r], buffer := none } : Link).executing = none :=
    executing_of_replies hall
  simp [State.complete, e, hf, hp, map_answered_replies hr, Place.answered, Link.beginNext, n,
    beginOldest_of_replies hall]

/-- What a request command does on a free link: its block runs in the state that the frame's arrival left,
and its reply takes the place at the tail. -/
theorem serve_of_ready {s : State} (h : s.ready = true) (c : Instr) (run : State → State × Answer)
    (hf : (run (s.entering c.asFramed)).1.takesFrames = true)
    (hp : (run (s.entering c.asFramed)).1.link.places = s.link.places ++ [.executing c.asFramed]) :
    serve c run s = .next ((run (s.entering c.asFramed)).1.setLink
      { (run (s.entering c.asFramed)).1.link with
        places := s.link.places ++ [.reply (replyTo c (run (s.entering c.asFramed)).2)]
        buffer := none }) := by
  have hr : s.link.places.all Place.isReply = true := by
    simp only [State.ready, Bool.and_eq_true] at h
    exact h.1.1.2
  simp only [serve, turn_of_ready h c]
  rw [complete_last hf hp hr]

end Sys2Proof.Machine
end

