-- ==== Sys2Proof/Laws/Frames.lean ====
section
/-! SUPPORT. What each shared operation can change, said once: an operation on doors, on lanes or on tabs
leaves every other part of the state as it was. And what serving a request keeps: a property that does not
look at the link is kept when the owning block keeps it. -/

namespace Sys2Proof.Machine

/-! ## Doors -/

/-- `t` is `s` but for the door channels and the Strike Scheduler. -/
def DoorsOnly (s t : State) : Prop :=
  t = { s with
    doorUnit := { s.doorUnit with channels := t.doorUnit.channels }
    scheduler := t.scheduler }

theorem DoorsOnly.refl (s : State) : DoorsOnly s s := rfl

theorem DoorsOnly.trans {s t u : State} (h1 : DoorsOnly s t) (h2 : DoorsOnly t u) : DoorsOnly s u := by
  unfold DoorsOnly at *
  rw [h2, h1]

theorem setChannel_doorsOnly (s : State) (d : Nat) (c : Channel) : DoorsOnly s (s.setChannel d c) := rfl

theorem setChannelState_doorsOnly (s : State) (d : Nat) (v : ChannelState) :
    DoorsOnly s (s.setChannelState d v) := rfl

theorem setBus_doorsOnly (s : State) (b : Nat) (v : Bus) : DoorsOnly s (s.setBus b v) := rfl

theorem placeOrder_doorsOnly (s : State) (k : OrderKind) (d : Nat) : DoorsOnly s (s.placeOrder k d) := rfl

theorem callRelatch_doorsOnly (s : State) (d : Nat) (v : ChannelState) :
    DoorsOnly s (s.callRelatch d v) := by
  unfold State.callRelatch
  dsimp only
  split
  · exact (placeOrder_doorsOnly s _ d).trans (setChannel_doorsOnly _ d _)
  · exact setChannel_doorsOnly s d _

theorem release_doorsOnly (s : State) (b : Nat) : DoorsOnly s (s.release b) := by
  unfold State.release
  split
  · exact DoorsOnly.refl s
  · exact rfl

theorem considerFor_doorsOnly (fuel : Nat) : ∀ (s : State) (b : Nat), DoorsOnly s (s.considerFor fuel b) := by
  induction fuel with
  | zero => exact fun s _ => DoorsOnly.refl s
  | succ n ih =>
    intro s b
    simp only [State.considerFor]
    split
    · exact (release_doorsOnly s b).trans (ih _ b)
    · exact DoorsOnly.refl s

theorem consider_doorsOnly (s : State) (b : Nat) : DoorsOnly s (s.consider b) := considerFor_doorsOnly _ s b

theorem rotateFor_doorsOnly (fuel : Nat) : ∀ s : State, DoorsOnly s (s.rotateFor fuel) := by
  induction fuel with
  | zero => exact DoorsOnly.refl
  | succ n ih =>
    intro s
    simp only [State.rotateFor]
    split
    · exact (release_doorsOnly s _).trans (ih _)
    · exact DoorsOnly.refl s

theorem considerAll_doorsOnly (s : State) : DoorsOnly s s.considerAll := rotateFor_doorsOnly _ s

/-- A run of steps that each keep to the doors keeps to the doors. -/
theorem foldl_doorsOnly {α : Type} {f : State → α → State} (hf : ∀ s x, DoorsOnly s (f s x)) (xs : List α) :
    ∀ s, DoorsOnly s (xs.foldl f s) := by
  induction xs with
  | nil => exact DoorsOnly.refl
  | cons x xs ih => exact fun s => (hf s x).trans (ih _)

theorem serveOwed_doorsOnly (s : State) (d : Nat) : DoorsOnly s (s.serveOwed d) := by
  unfold State.serveOwed
  split
  · exact callRelatch_doorsOnly s d _
  · exact DoorsOnly.refl s

theorem refill_doorsOnly (s : State) : DoorsOnly s s.refill :=
  (foldl_doorsOnly serveOwed_doorsOnly _ s).trans (considerAll_doorsOnly _)

theorem deliver_doorsOnly (s : State) (o : Order) : DoorsOnly s (s.deliver o) := by
  unfold State.deliver
  split
  · exact setChannelState_doorsOnly s _ _
  · exact setChannelState_doorsOnly s _ _
  · exact DoorsOnly.refl s

theorem strikeRequest_doorsOnly (s : State) (d : Nat) : DoorsOnly s (s.strikeRequest d).state := by
  unfold State.strikeRequest
  dsimp only
  split
  · exact ((setBus_doorsOnly s _ _).trans (setChannel_doorsOnly _ d _)).trans (consider_doorsOnly _ _)
  · exact DoorsOnly.refl s

theorem grantAt_doorsOnly (s : State) (d : Nat) : DoorsOnly s (s.grantAt d).state := by
  unfold State.grantAt
  split
  · exact DoorsOnly.refl s
  · exact DoorsOnly.refl s
  · exact DoorsOnly.refl s
  · exact setChannel_doorsOnly s d _
  · exact strikeRequest_doorsOnly s d

theorem reportTransition_doorsOnly (s : State) (d : Nat) (c : Contact) (l : Latch) :
    DoorsOnly s (s.reportTransition d c l) := by
  unfold State.reportTransition
  split
  · unfold State.reportOpen
    split
    · exact (setBus_doorsOnly s _ _).trans (setChannel_doorsOnly _ d _)
    · exact DoorsOnly.refl s
    · exact DoorsOnly.refl s
    · exact setChannel_doorsOnly s d _
  · unfold State.reportLatched
    split
    · exact DoorsOnly.refl s
    · split
      · exact setChannel_doorsOnly s d _
      · exact DoorsOnly.refl s
    · exact setChannel_doorsOnly s d _
  · unfold State.reportUnlatched
    split
    · split
      · exact DoorsOnly.refl s
      · exact callRelatch_doorsOnly s d _
    · exact callRelatch_doorsOnly s d _
    · exact callRelatch_doorsOnly s d _
    · exact callRelatch_doorsOnly s d _
    · exact setChannelState_doorsOnly s d _
    · exact DoorsOnly.refl s
    · exact DoorsOnly.refl s
    · exact DoorsOnly.refl s

theorem takeReport_doorsOnly (s : State) (d : Nat) (c : Contact) (l : Latch) (dnd poll : Bool) :
    DoorsOnly s (s.takeReport d c l dnd poll) :=
  (setChannel_doorsOnly s d _).trans (reportTransition_doorsOnly _ d c l)

theorem cancelRequests_doorsOnly (s : State) : DoorsOnly s s.cancelRequests :=
  DoorsOnly.trans (t := { s with scheduler := { s.scheduler with
      buses := s.scheduler.buses.foldl (fun t e => Table.set Bus.start t e.1 e.2.emptied)
        s.scheduler.buses } }) rfl
    (foldl_doorsOnly (fun s d => setChannel_doorsOnly s d _) _ _)

theorem visit_doorsOnly (l : Lockdown) (d : Nat) : DoorsOnly l.state (l.visit d).state := by
  unfold Lockdown.visit
  split
  · exact callRelatch_doorsOnly l.state d _
  · exact DoorsOnly.refl _

theorem lockDoors_doorsOnly (s : State) : DoorsOnly s s.lockDoors.state := by
  have h : ∀ (ds : List Nat) (l : Lockdown), DoorsOnly l.state (ds.foldl Lockdown.visit l).state := by
    intro ds
    induction ds with
    | nil => exact fun l => DoorsOnly.refl _
    | cons d ds ih => exact fun l => (visit_doorsOnly l d).trans (ih _)
  exact (cancelRequests_doorsOnly s).trans (h _ ⟨s.cancelRequests, 0⟩)

/-! ## Lanes -/

/-- `t` is `s` but for the lanes and the notices raised. -/
def LanesOnly (s t : State) : Prop :=
  t = { s with
    lanes := t.lanes
    link := { s.link with notices := t.link.notices, lost := t.link.lost } }

theorem LanesOnly.refl (s : State) : LanesOnly s s := rfl

theorem LanesOnly.trans {s t u : State} (h1 : LanesOnly s t) (h2 : LanesOnly t u) : LanesOnly s u := by
  unfold LanesOnly at *
  rw [h2, h1]

theorem setLane_lanesOnly (s : State) (n : Nat) (l : Lane) : LanesOnly s (s.setLane n l) := rfl

theorem raise_lanesOnly (s : State) (b : NoticeBody) : LanesOnly s (s.raise b) := by
  rw [State.raise_eq]
  split <;> rfl

theorem gateEffective_lanesOnly (s : State) (n : Nat) : LanesOnly s (s.gateEffective n) := rfl

theorem gateLoss_lanesOnly (s : State) (n : Nat) (r : HoldReason) : LanesOnly s (s.gateLoss n r) :=
  (setLane_lanesOnly s n _).trans (raise_lanesOnly _ _)

theorem setSoftGate_lanesOnly (s : State) (n : Nat) : LanesOnly s (s.setSoftGate n) := by
  unfold State.setSoftGate
  dsimp only
  split
  · exact LanesOnly.refl s
  · split
    · exact (setLane_lanesOnly s n _).trans (gateEffective_lanesOnly _ n)
    · exact setLane_lanesOnly s n _

theorem clearSoftGate_lanesOnly (s : State) (n : Nat) (r : HoldReason) :
    LanesOnly s (s.clearSoftGate n r) := by
  unfold State.clearSoftGate
  dsimp only
  split
  · exact (setLane_lanesOnly s n _).trans (gateLoss_lanesOnly _ n r)
  · exact setLane_lanesOnly s n _

theorem closeLanes_lanesOnly (s : State) (r : HoldReason) : LanesOnly s (s.closeLanes r) := by
  have h : ∀ (ns : List Nat) (x : State),
      LanesOnly x (ns.foldl (fun x n => State.clearSoftGate x n r) x) := by
    intro ns
    induction ns with
    | nil => exact LanesOnly.refl
    | cons n ns ih => exact fun x => (clearSoftGate_lanesOnly x n r).trans (ih _)
  exact h _ s

theorem tailgate_lanesOnly (s : State) (n : Nat) (d : Direction) : LanesOnly s (s.tailgate n d) := by
  unfold State.tailgate
  dsimp only
  split
  · split
    · exact (setLane_lanesOnly s n _).trans (raise_lanesOnly _ _)
    · exact LanesOnly.refl s
  · exact setLane_lanesOnly s n _

theorem countScan_lanesOnly (s : State) (n : Nat) (d : Direction) : LanesOnly s (s.countScan n d) :=
  (setLane_lanesOnly s n _).trans (tailgate_lanesOnly _ n d)

theorem countPassage_lanesOnly (s : State) (n : Nat) (p : Passage) : LanesOnly s (s.countPassage n p) := by
  cases p with
  | inbound => exact (setLane_lanesOnly s n _).trans (tailgate_lanesOnly _ n .inward)
  | outbound => exact (setLane_lanesOnly s n _).trans (tailgate_lanesOnly _ n .outward)
  | ambiguous => exact setLane_lanesOnly s n _

theorem decodeBeams_lanesOnly (s : State) (n : Nat) (e : BeamEvent) : LanesOnly s (s.decodeBeams n e) := by
  unfold State.decodeBeams
  dsimp only
  split
  · exact setLane_lanesOnly s n _
  · exact (setLane_lanesOnly s n _).trans (countPassage_lanesOnly _ n _)

theorem takeBeams_lanesOnly (s : State) (n : Nat) (e : BeamEvent) : LanesOnly s (s.takeBeams n e) := by
  unfold State.takeBeams
  dsimp only
  split
  · split
    · split
      · exact (setLane_lanesOnly s n _).trans (setLane_lanesOnly _ n _)
      · exact setLane_lanesOnly s n _
    · exact (setLane_lanesOnly s n _).trans (decodeBeams_lanesOnly _ n e)
  · exact setLane_lanesOnly s n _

theorem takeHeld_lanesOnly (s : State) (n : Nat) : LanesOnly s (s.takeHeld n) := by
  unfold State.takeHeld
  split
  · exact (setLane_lanesOnly s n _).trans (takeBeams_lanesOnly _ n _)
  · exact LanesOnly.refl s

theorem expireHeld_lanesOnly (s : State) (n : Nat) : LanesOnly s (s.expireHeld n) :=
  (setLane_lanesOnly s n _).trans (takeHeld_lanesOnly _ n)

theorem beamEdge_lanesOnly (s : State) (n : Nat) (b : Beam) (low : Bool) :
    LanesOnly s (s.beamEdge n b low) := by
  unfold State.beamEdge
  dsimp only
  split
  · exact (setLane_lanesOnly s n _).trans (takeHeld_lanesOnly _ n)
  · exact setLane_lanesOnly s n _

theorem takeBrace_lanesOnly (s : State) (n : Nat) : LanesOnly s (s.takeBrace n) := by
  unfold State.takeBrace
  dsimp only
  split
  · split
    · exact (setLane_lanesOnly s n _).trans (gateEffective_lanesOnly _ n)
    · exact setLane_lanesOnly s n _
  · split
    · exact (setLane_lanesOnly s n _).trans (gateLoss_lanesOnly _ n _)
    · exact setLane_lanesOnly s n _

/-! ## Tabs and postings -/

/-- `t` is `s` but for the account table, the Charge Engine and the notices raised. -/
def MoneyOnly (s t : State) : Prop :=
  t = { s with
    store := { s.store with accounts := t.store.accounts }
    engine := t.engine
    link := { s.link with notices := t.link.notices, lost := t.link.lost } }

theorem MoneyOnly.refl (s : State) : MoneyOnly s s := rfl

theorem MoneyOnly.trans {s t u : State} (h1 : MoneyOnly s t) (h2 : MoneyOnly t u) : MoneyOnly s u := by
  unfold MoneyOnly at *
  rw [h2, h1]

theorem setEngine_moneyOnly (s : State) (e : Engine) : MoneyOnly s { s with engine := e } := rfl

theorem setAccount_moneyOnly (s : State) (k : Nat) (a : Account) : MoneyOnly s (s.setAccount k a) := rfl

theorem raise_moneyOnly (s : State) (b : NoticeBody) : MoneyOnly s (s.raise b) := by
  rw [State.raise_eq]
  split <;> rfl

theorem appendPosting_moneyOnly (s : State) (p : Posting) : MoneyOnly s (s.appendPosting p) := by
  unfold State.appendPosting
  dsimp only
  split
  · exact (setEngine_moneyOnly s _).trans (raise_moneyOnly _ _)
  · exact setEngine_moneyOnly s _

theorem releaseTab_moneyOnly (s : State) (slot : Nat) (t : Tab) : MoneyOnly s (s.releaseTab slot t) := by
  unfold State.releaseTab
  split
  · exact (setAccount_moneyOnly s _ _).trans (setEngine_moneyOnly _ _)
  · exact setEngine_moneyOnly s _

theorem settle_moneyOnly (s : State) (slot : Nat) (t : Tab) (r : CloseReason) :
    MoneyOnly s (s.settle slot t r) := by
  unfold State.settle
  split
  · exact releaseTab_moneyOnly s slot t
  · exact (appendPosting_moneyOnly s _).trans (releaseTab_moneyOnly _ slot t)

theorem forceSettle_moneyOnly (s : State) (slot : Nat) (t : Tab) (r : CloseReason) :
    MoneyOnly s (s.forceSettle slot t r) := by
  unfold State.forceSettle
  split
  · exact settle_moneyOnly s slot t r
  · exact setEngine_moneyOnly s _

theorem departed_moneyOnly (d : Departed) (slot : Nat) : MoneyOnly d.state (d.tab slot).state := by
  unfold Departed.tab
  split
  · split
    · exact forceSettle_moneyOnly _ slot _ _
    · exact forceSettle_moneyOnly _ slot _ _
  · exact MoneyOnly.refl _

theorem settleDeparted_moneyOnly (s : State) (slot : Nat) : MoneyOnly s (s.settleDeparted slot).state := by
  have h : ∀ (xs : List Nat) (d : Departed), MoneyOnly d.state (xs.foldl Departed.tab d).state := by
    intro xs
    induction xs with
    | nil => exact fun d => MoneyOnly.refl _
    | cons x xs ih => exact fun d => (departed_moneyOnly d x).trans (ih _)
  exact h _ ⟨s, 0, 0⟩

theorem serveWaiting_moneyOnly (s : State) : MoneyOnly s s.serveWaiting.state := by
  have h : ∀ (xs : List Nat) (v : Served), MoneyOnly v.state (Served.go xs v).state := by
    intro xs
    induction xs with
    | nil => exact fun v => MoneyOnly.refl _
    | cons x xs ih =>
      intro v
      unfold Served.go
      split
      · split
        · exact ((setEngine_moneyOnly v.state _).trans (settle_moneyOnly _ x _ _)).trans (ih _)
        · exact MoneyOnly.refl _
      · exact MoneyOnly.refl _
  exact h _ ⟨s, 0⟩

/-! ## What serving a request keeps -/

/-- A property that the link has no part in. -/
def LinkFree (P : State → Prop) : Prop := ∀ (s : State) (l : Link), P s → P (s.setLink l)

theorem setLink_self (s : State) : s.setLink s.link = s := rfl

/-- The turn of a request changes the link alone. -/
theorem turn_link (s : State) (c : Instr) :
    ∃ l : Link, s.turn c = .runs (s.setLink l) ∨ s.turn c = .waits (s.setLink l) := by
  unfold State.turn
  split
  · split
    · exact ⟨s.link, .inl rfl⟩
    · split
      · dsimp only
        split
        · exact ⟨_, .inl rfl⟩
        · exact ⟨_, .inr rfl⟩
      · exact ⟨s.link, .inr rfl⟩
  · exact ⟨s.link, .inr rfl⟩

/-- The completion of a request changes the link alone. -/
theorem complete_link (s : State) (r : Reply) : ∃ l : Link, s.complete r = s.setLink l := by
  unfold State.complete
  split
  · exact ⟨s.link, rfl⟩
  · split
    · exact ⟨_, rfl⟩
    · exact ⟨_, rfl⟩

/-- A request command answers a next state: its block's state with another link, or the state it found with
another link. -/
theorem serve_cases (c : Instr) (run : State → State × Answer) (s : State) :
    ∃ l m : Link, serve c run s = .next ((run (s.setLink l)).1.setLink m) ∨
      serve c run s = .next (s.setLink m) := by
  unfold serve
  obtain ⟨l, h | h⟩ := turn_link s c
  · rw [h]
    obtain ⟨m, hm⟩ := complete_link (run (s.setLink l)).1 (replyTo c (run (s.setLink l)).2)
    exact ⟨l, m, .inl (by simp only [hm])⟩
  · rw [h]
    exact ⟨l, l, .inr rfl⟩

/-- Serving a request keeps a link-free property that its block keeps. -/
theorem serve_keeps {P : State → Prop} (hl : LinkFree P) {c : Instr} {run : State → State × Answer}
    (hr : ∀ s, P s → P (run s).1) {s t : State} (h : serve c run s = .next t) (hs : P s) : P t := by
  obtain ⟨l, m, e | e⟩ := serve_cases c run s
  · rw [e] at h
    cases h
    exact hl _ m (hr _ (hl _ l hs))
  · rw [e] at h
    cases h
    exact hl _ m hs

/-- The same of a request that may take time. -/
theorem serveFor_keeps {P : State → Prop} (hl : LinkFree P) {span : Span} {c : Instr}
    {run : State → State × Answer} (hr : ∀ s, P s → P (run s).1) {s t : State}
    (h : serveFor span c run s = .next t) (hs : P s) : P t := by
  cases span with
  | whole => exact serve_keeps hl hr h hs
  | takesTime =>
    simp only [serveFor] at h
    obtain ⟨l, e | e⟩ := turn_link s c
    · rw [e] at h
      cases h
      exact hl _ l hs
    · rw [e] at h
      cases h
      exact hl _ l hs

/-- The judgement of length and operating state keeps what the owning block keeps. -/
theorem judged_keeps {P : State → Prop} {α : Type} {gate : Gate} {q : Body α}
    {block : α → State → State × Answer} (hb : ∀ x s, P s → P (block x s).1) (s : State) (hs : P s) :
    P (judged gate q block s).1 := by
  unfold judged
  split
  · exact hs
  · split
    · exact hs
    · exact hb _ s hs

/-- An event keeps what it keeps when it is taken. -/
theorem happens_keeps {P : State → Prop} {event : State → Option State}
    (he : ∀ s u, event s = some u → P s → P u) {s t : State} (h : happens event s = .next t) (hs : P s) :
    P t := by
  unfold happens at h
  split at h
  · cases h
    cases e : event s with
    | none => simpa [e] using hs
    | some u => simpa [e] using he s u e hs
  · cases h
    exact hs

/-- The step runs the command at the front of the queue, or idles. -/
theorem step_cases (s : State) :
    (s.pending = [] ∧ step s = .next s.idle) ∨
      ∃ c rest, s.pending = c :: rest ∧ step s = exec c { s with pending := rest } := by
  unfold step
  split
  · exact .inl ⟨by assumption, rfl⟩
  · exact .inr ⟨_, _, by assumption, rfl⟩

/-! ## The settlement of a departing card's tabs (R97) -/

/-- R96, R97: one step of the settlement: an OPEN tab settles, or becomes CLOSING without room. -/
theorem departed_tab_departs : departsBy Departed.tab := by
  intro d n generation deadline t e
  constructor
  · intro h
    have k : d.state.canSettle t = true := by
      simp only [State.canSettle, State.postRoom, Bool.or_eq_true, decide_eq_true_eq]
      exact h
    simp [Departed.tab, e, k, State.forceSettle]
  · intro z f
    have k : d.state.canSettle t = false := by
      simp only [State.canSettle, State.postRoom, Bool.or_eq_false_iff, decide_eq_false_iff_not, Nat.not_lt]
      exact ⟨z, f⟩
    simp [Departed.tab, e, k, State.forceSettle, State.setTabSlot, TabSlot.cold]

end Sys2Proof.Machine
end

