-- ==== Sys2Proof/Laws/Table.lean ====
section
/-! SUPPORT. What the operations on sparse tables and on lanes do: a read after a write, and the canonical
form, which every operation keeps. -/

namespace Sys2Proof.Machine

variable {α : Type}

/-! ## A read after a write -/

theorem Table.find_put_self (t : Table α) (k : Nat) (v : α) : (Table.put t k v).find k = some v := by
  induction t with
  | nil => simp [Table.put, Table.find]
  | cons e t ih =>
    obtain ⟨j, w⟩ := e
    simp only [Table.put]
    split
    · simp [Table.find]
    · split
      · simp [Table.find]
      · rename_i h
        simp [Table.find, Ne.symm h, ih]

theorem Table.find_put_other (t : Table α) {j k : Nat} (v : α) (h : j ≠ k) :
    (Table.put t k v).find j = t.find j := by
  induction t with
  | nil => simp [Table.put, Table.find, Ne.symm h]
  | cons e t ih =>
    obtain ⟨i, w⟩ := e
    simp only [Table.put]
    split
    · simp [Table.find, Ne.symm h]
    · split
      · rename_i hk
        subst hk
        simp [Table.find, Ne.symm h]
      · simp [Table.find, ih]

theorem Table.find_erase_self (t : Table α) (k : Nat) : (Table.erase t k).find k = none := by
  induction t with
  | nil => rfl
  | cons e t ih =>
    obtain ⟨j, w⟩ := e
    by_cases h : j = k
    · subst h
      simpa [Table.erase, List.filter_cons] using ih
    · simp only [Table.erase, List.filter_cons, bne_iff_ne, ne_eq, h, not_false_eq_true, if_true]
      simpa [Table.find, h, Table.erase] using ih

theorem Table.find_erase_other (t : Table α) {j k : Nat} (h : j ≠ k) :
    (Table.erase t k).find j = t.find j := by
  induction t with
  | nil => rfl
  | cons e t ih =>
    obtain ⟨i, w⟩ := e
    by_cases hi : i = k
    · subst hi
      simpa [Table.erase, List.filter_cons, Table.find, Ne.symm h] using ih
    · simp only [Table.erase, List.filter_cons, bne_iff_ne, ne_eq, hi, not_false_eq_true, if_true]
      by_cases hj : i = j
      · simp [Table.find, hj]
      · simpa [Table.find, hj, Table.erase] using ih

theorem Table.get_set_self [DecidableEq α] (d : α) (t : Table α) (k : Nat) (v : α) :
    Table.get d (Table.set d t k v) k = v := by
  unfold Table.get Table.set
  split
  · rename_i h
    simp [Table.find_erase_self, h]
  · simp [Table.find_put_self]

theorem Table.get_set_other [DecidableEq α] (d : α) (t : Table α) {j k : Nat} (v : α) (h : j ≠ k) :
    Table.get d (Table.set d t k v) j = Table.get d t j := by
  unfold Table.get Table.set
  split
  · simp [Table.find_erase_other t h]
  · simp [Table.find_put_other t v h]

theorem Table.put_put (t : Table α) (k : Nat) (v w : α) :
    Table.put (Table.put t k v) k w = Table.put t k w := by
  induction t with
  | nil => simp [Table.put]
  | cons e t ih =>
    obtain ⟨j, x⟩ := e
    by_cases h1 : k < j
    · simp [Table.put, h1]
    · by_cases h2 : k = j
      · simp [Table.put, h2]
      · simp [Table.put, h1, h2, ih]

/-! ## The canonical form -/

/-- Rising keys, as a statement about pairs of entries. -/
theorem Table.rising_iff (t : Table α) :
    Table.rising t = true ↔ List.Pairwise (fun a b => a.1 < b.1) t := by
  induction t with
  | nil => simp [Table.rising]
  | cons e t ih =>
    obtain ⟨j, v⟩ := e
    cases t with
    | nil => simp [Table.rising]
    | cons f t =>
      obtain ⟨k, w⟩ := f
      simp only [Table.rising, Bool.and_eq_true, decide_eq_true_eq, ih, List.pairwise_cons]
      constructor
      · rintro ⟨h1, h2, h3⟩
        refine ⟨?_, h2, h3⟩
        intro x hx
        rcases List.mem_cons.mp hx with rfl | hx
        · exact h1
        · exact Nat.lt_trans h1 (h2 x hx)
      · rintro ⟨h1, h2, h3⟩
        exact ⟨h1 _ (List.mem_cons_self ..), h2, h3⟩

theorem Table.rising_erase {t : Table α} (h : Table.rising t = true) (k : Nat) :
    Table.rising (Table.erase t k) = true :=
  (Table.rising_iff _).mpr (((Table.rising_iff t).mp h).filter _)

theorem Table.mem_put {t : Table α} {k : Nat} {v : α} {e : Nat × α} (h : e ∈ Table.put t k v) :
    e = (k, v) ∨ e ∈ t := by
  induction t with
  | nil => simpa [Table.put] using h
  | cons f t ih =>
    obtain ⟨j, w⟩ := f
    simp only [Table.put] at h
    split at h
    · simpa using h
    · split at h
      · rcases List.mem_cons.mp h with h | h
        · exact .inl h
        · exact .inr (List.mem_cons_of_mem _ h)
      · rcases List.mem_cons.mp h with h | h
        · exact .inr (by simp [h])
        · exact (ih h).imp id (List.mem_cons_of_mem _)

theorem Table.rising_put {t : Table α} (h : Table.rising t = true) (k : Nat) (v : α) :
    Table.rising (Table.put t k v) = true := by
  rw [Table.rising_iff] at *
  induction t with
  | nil => simp [Table.put]
  | cons e t ih =>
    obtain ⟨j, w⟩ := e
    obtain ⟨h1, h2⟩ := List.pairwise_cons.mp h
    simp only [Table.put]
    split
    · rename_i hk
      refine List.pairwise_cons.mpr ⟨?_, h⟩
      intro x hx
      rcases List.mem_cons.mp hx with rfl | hx
      · exact hk
      · exact Nat.lt_trans hk (h1 x hx)
    · split
      · rename_i hk
        subst hk
        exact List.pairwise_cons.mpr ⟨h1, h2⟩
      · refine List.pairwise_cons.mpr ⟨?_, ih h2⟩
        intro x hx
        rcases Table.mem_put hx with rfl | hx
        · show j < k
          omega
        · exact h1 x hx

theorem Table.canonical_set [DecidableEq α] {d : α} {t : Table α} (h : Table.canonical d t = true)
    (k : Nat) (v : α) : Table.canonical d (Table.set d t k v) = true := by
  simp only [Table.canonical, Bool.and_eq_true, List.all_eq_true, decide_eq_true_eq] at h ⊢
  obtain ⟨h1, h2⟩ := h
  unfold Table.set
  split
  · exact ⟨Table.rising_erase h1 k, fun x hx => h2 x (List.mem_of_mem_filter hx)⟩
  · rename_i hv
    refine ⟨Table.rising_put h1 k v, fun x hx => ?_⟩
    rcases Table.mem_put hx with rfl | hx
    · exact hv
    · exact h2 x hx

theorem Table.rising_mapEntries {β : Type} {f : α → β} {t : Table α} (h : Table.rising t = true) :
    Table.rising (Table.mapEntries f t) = true := by
  rw [Table.rising_iff] at *
  exact List.pairwise_map.mpr (h.imp fun h => h)

/-- The entries of a table with rising keys are what its keys find. -/
theorem Table.find_of_mem {t : Table α} (h : Table.rising t = true) {k : Nat} {v : α} (hm : (k, v) ∈ t) :
    t.find k = some v := by
  rw [Table.rising_iff] at h
  induction t with
  | nil => cases hm
  | cons e t ih =>
    obtain ⟨j, w⟩ := e
    obtain ⟨h1, h2⟩ := List.pairwise_cons.mp h
    rcases List.mem_cons.mp hm with hm | hm
    · cases hm
      simp [Table.find]
    · have := h1 _ hm
      have hne : j ≠ k := by
        intro hjk
        simp [hjk] at this
      simp [Table.find, hne, ih h2 hm]

theorem Table.mem_of_find {t : Table α} {k : Nat} {v : α} (h : t.find k = some v) : (k, v) ∈ t := by
  induction t with
  | nil => cases h
  | cons e t ih =>
    obtain ⟨j, w⟩ := e
    by_cases hj : j = k
    · subst hj
      simp only [Table.find, if_true, Option.some.injEq] at h
      simp [h]
    · simp only [Table.find, hj, if_false] at h
      exact List.mem_cons_of_mem _ (ih h)

/-! ## Lanes -/

theorem Four.get_set_self (f : Four α) {n : Nat} (h : n < 4) (v : α) : (f.set n v).get n = v := by
  match n, h with
  | 0, _ => rfl
  | 1, _ => rfl
  | 2, _ => rfl
  | 3, _ => rfl

theorem Four.get_set_other (f : Four α) {m n : Nat} (hm : m < 4) (h : m ≠ n) (v : α) :
    (f.set n v).get m = f.get m := by
  match m, hm with
  | 0, _ => match n, h with
    | 1, _ => rfl
    | 2, _ => rfl
    | 3, _ => rfl
    | n + 4, _ => rfl
  | 1, _ => match n, h with
    | 0, _ => rfl
    | 2, _ => rfl
    | 3, _ => rfl
    | n + 4, _ => rfl
  | 2, _ => match n, h with
    | 0, _ => rfl
    | 1, _ => rfl
    | 3, _ => rfl
    | n + 4, _ => rfl
  | 3, _ => match n, h with
    | 0, _ => rfl
    | 1, _ => rfl
    | 2, _ => rfl
    | n + 4, _ => rfl

end Sys2Proof.Machine
end

