-- ==== Sys2Proof/Tests/Slice0.lean ====
section
/-! SUPPORT. Sample states, and for each statement of Certificates/Slice0/Obligations.lean a theorem
`witness_<Name>` that applies the statement at concrete states and operands.  Such a theorem takes the
statement as its only hypothesis; its proof discharges EVERY hypothesis of the statement at those values by
kernel evaluation, so it compiles only where they hold together, and its conclusion says what then follows
(`∃ t, exec … = .next t` where a clause says that a command completes).  A statement of several clauses has a
witness for each.  The tests of decoding, of ill-formed terms and of the spec's worked examples stand at the
end of the file. -/

namespace Sys2Proof.Tests

open Sys2Proof Sys2Proof.Machine

set_option maxRecDepth 20000
set_option Elab.async false

/-! ## Sample states -/

/-- A card of account 500, current at issue 2, aboard, on ship days 0 to 10. -/
def sampleCard (uid : Nat) (cls : CardClass) (cabins : List Nat) (cap : Option Nat) : Card :=
  ⟨uid, 2, ⟨cls, 500, cabins, if cls = .crew then some ⟨0, 9⟩ else none,
    if cls = .crew then some ⟨360, 1320⟩ else none, 0, 10, true, if cls = .crew then 0 else 1, cap⟩, 0, 0,
    .aboard, none⟩

/-- Five cards: a guest, a child with a cap of 2,000, a crew and a security card, and a guest ashore. -/
def sampleCards : Table Card :=
  [(0, sampleCard 1000 .guest [5] none), (1, sampleCard 1001 .child [5] (some 2000)),
    (2, sampleCard 1002 .crew [] none), (3, sampleCard 1003 .security [] none),
    (4, { sampleCard 1004 .guest [5] none with
      presence := .ashore
      departure := some ⟨40, some 35000, some 0⟩ })]

/-- The guest's tab in slot 0. -/
def sampleTab : Tab := ⟨3, 0, 0, 7000, ⟨6000, 0, 0, 0, 0, 6000⟩, 1, 90⟩

/-- A posting of terminal 3 for the guest. -/
def samplePosting (number : Nat) (delivered : Bool) : Posting :=
  ⟨number, .charge, 3, 1000, 2, 500, 1, some 36000, 1, ⟨800, 0, 0, 0, 0, 800⟩, delivered, false, 60, true⟩

/-- A lane with its soft gate set over a closed brace. -/
def gateLane : Lane := { Lane.start false false true none with
  brace := ⟨true, true, none⟩
  softGate := true
  gate := true
  flowEnd := some 120000 }

/-- A part in service, in port, with doors 5 and 6 on bus 2, a tab, four postings and lane 0 effective. -/
def sample : State := { State.reset with
  store := { Store.cold with
    opState := .service
    cards := sampleCards
    accounts := [(0, ⟨500, 100000, .opened, 200, 7000, 1, some 50⟩)]
    doors := [(5, ⟨true, 1, 2⟩), (6, ⟨true, 2, 2⟩)]
    categories := [(1, ⟨true, true, 1500⟩)]
    regions := [(3, 700)]
    tiers := [(1, ⟨2#16, 4, 1000⟩)] }
  tracker := ⟨PresenceCounts.ofCards sampleCards, [4]⟩
  engine := { Engine.cold with
    tabs := [(0, ⟨9, .opened sampleTab 5000⟩)]
    terminalTabs := [(3, 1)]
    postings := [samplePosting 7 true, samplePosting 8 true, samplePosting 9 false, samplePosting 10 false]
    nextPosting := 11 }
  doorUnit := ⟨[(5, { Channel.start with
    state := .secured
    lastReport := some (.closed, .latched) })], 0, some 100⟩
  lanes := { State.reset.lanes with l0 := gateLane }
  clock := ⟨1, some 36000, .inPort, 3, 100, 100000⟩ }

/-- The sample with a door's channel in another state. -/
def atDoor (door : Nat) (st : ChannelState) : State := sample.setChannelState door st

/-- The sample with 64 POLL orders in the order queue. -/
def fullOrders (s : State) : State :=
  { s with scheduler := { s.scheduler with orders := List.replicate 64 ⟨.poll, 6, 0⟩ } }

/-- The sample with 1,024 PENDING postings, the first numbered 1. -/
def fullPostings (s : State) : State :=
  { s with engine := { s.engine with
    postings := (List.range 1024).map fun n => samplePosting (n + 1) false
    nextPosting := 1025 } }

/-- A state in SECURE. -/
def secured (s : State) : State :=
  { s with store := { s.store with opState := .secure, mode := .secure } }

/-- A state in an operating state before service. -/
def before (op : OpState) : State := { State.reset with store := { Store.cold with opState := op } }

/-- A state with one card changed. -/
def cardNow (s : State) (slot : Nat) (f : Card → Card) : State :=
  { s with store := { s.store with cards := s.store.cards.map fun e => if e.1 = slot then (e.1, f e.2) else e } }

/-- A state with other settings. -/
def tuned (s : State) (f : Settings → Settings) : State := s.setSettings (f s.store.settings)

/-- A state with one lane changed. -/
def laneNow (s : State) (n : Nat) (f : Lane → Lane) : State := s.setLane n (f (Four.get s.lanes n))

/-- A state with other replies, another transfer and another request buffer. -/
def linkNow (s : State) (t : Option Transfer) (b : Option Instr) (ps : List Place) : State :=
  s.setLink { s.link with transfer := t, buffer := b, places := ps }

/-- A state with the retention unit changed. -/
def retentionNow (s : State) (f : Retention → Retention) : State := { s with retention := f s.retention }

/-- A state with the engine changed. -/
def engineNow (s : State) (f : Engine → Engine) : State := { s with engine := f s.engine }

/-- A state with its account changed. -/
def accountNow (s : State) (f : Account → Account) : State :=
  { s with store := { s.store with accounts := s.store.accounts.map fun e => (e.1, f e.2) } }

/-- The sample's tab leaves its slot. -/
def sampleFreed (v : State) : State := { v with
  store := { v.store with accounts := Table.put v.store.accounts 0 ⟨500, 100000, .opened, 6200, 0, 0, some 50⟩ }
  engine := { v.engine with
    tabs := Table.set ⟨0, .free⟩ v.engine.tabs 0 ⟨9, .free⟩
    terminalTabs := Table.set 0 v.engine.terminalTabs 3 (v.terminalTabs 3 - 1) } }

/-- The sample's tab has its settlement record appended. -/
def sampleRecord (v : State) (r : CloseReason) : State :=
  v.appendPosting ⟨0, .tabSettle r, 3, 1000, 2, 500, v.clock.shipDay, v.clock.shipTime, 1, sampleTab.sums, false,
    false, v.clock.runSeconds, false⟩

/-- A lane whose debounce changes are abandoned. -/
def sampleQuiet (l : Lane) : Lane := { l with
  s := { l.s with since := none }
  i := { l.i with since := none }
  brace := { l.brace with since := none }
  held := none
  alone := none }

/-- A part in RETAINED after a PFAIL, its image as it was captured. -/
def retained : State := retentionNow sample fun r => { r with
  phase := .retained
  pfailSeen := true
  mark := true
  checkWord := some (crc32 (Config.imageOrder sample.image)) }

/-- The sample's guest card that is ashore. -/
def ashoreCard : Card := { sampleCard 1004 .guest [5] none with
  presence := .ashore
  departure := some ⟨40, some 35000, some 0⟩ }

/-- A CARD.PUT of a guest card at cabin door 5. -/
def cardReq (kind uid account : Nat) : CardPutReq :=
  ⟨kind, uid, 0, 1, 0, account, 1, 5, 0, ⟨0, ⟨0, 0⟩⟩, ⟨0, ⟨0, 0⟩⟩, 0, 65535, 1, 1, ⟨0, 0⟩⟩

/-- The configuration it carries. -/
def cardConfig (account : Nat) : CardConfig := ⟨.guest, account, [5], none, none, 0, 65535, true, 1, none⟩

/-- A table with its slots below `n` taken. -/
def filled {α : Type} (x : α) (n : Nat) : Table α := (List.range' 0 n).map fun k => (k, x)

theorem gap_filled {α : Type} (x : α) (k n : Nat) :
    Table.gap k ((List.range' k n).map fun j => (j, x)) = k + n := by
  induction n generalizing k with
  | zero => rfl
  | succ n ih =>
    rw [List.range'_succ, List.map_cons, Table.gap, if_pos rfl, ih]
    omega

theorem seek_filled {α : Type} (p : α → Bool) (x : α) (n : Nat) (hp : p x = false) :
    Table.seek p (filled x n) = none := by
  simp [Table.seek, filled, hp]

/-- A part in service with a full card table, all with UID 0. -/
def fullCards : State :=
  { sample with store := { sample.store with cards := filled (sampleCard 0 .guest [5] none) 8192 } }

theorem fullCards_none (uid : Nat) (h : (0 : Nat) ≠ uid) : fullCards.cardByUid uid = none :=
  seek_filled _ _ _ (by simpa [sampleCard] using h)

theorem fullCards_full : Table.freeSlot 8192 fullCards.store.cards = none := by
  have e : Table.gap 0 fullCards.store.cards = 8192 := gap_filled _ 0 8192
  simp [Table.freeSlot, e]

/-- A part in service with a full account table, all with number 0. -/
def fullAccounts : State :=
  { sample with store := { sample.store with accounts := filled ⟨0, 0, .opened, 0, 0, 0, none⟩ 4096 } }

theorem fullAccounts_none (number : Nat) (h : (0 : Nat) ≠ number) :
    fullAccounts.accountByNumber number = none :=
  seek_filled _ _ _ (by simpa using h)

theorem fullAccounts_full : Table.freeSlot 4096 fullAccounts.store.accounts = none := by
  have e : Table.gap 0 fullAccounts.store.accounts = 4096 := gap_filled _ 0 4096
  simp [Table.freeSlot, e]

/-- A full order queue, door 6 owing a relatch and a strike request for door 5 waiting on bus 2. -/
def orderedDoors : State :=
  fullOrders (State.setBus (State.setChannel (atDoor 5 .pending) 6 { Channel.start with relatchOwed := true }) 2
    ⟨[5], []⟩)

/-- The tab that waits at the head settles. -/
def serveOne (x : State) (slot : Nat) : State :=
  match (x.tabSlot slot).state with
  | .closing t r => State.settle { x with engine := { x.engine with waiting := x.engine.waiting.drop 1 } } slot t r
  | _ => x

/-- A lane at a start. -/
def startLane (l : Lane) (h : Option HoldRecord) : Lane := Lane.start l.s.pin l.i.pin l.brace.pin h

/-- A cold start from a state. -/
def coldOf (s : State) (v : WakeResult) (pfail : Bool) : State := { State.reset with
  lanes := ⟨startLane s.lanes.l0 none, startLane s.lanes.l1 none, startLane s.lanes.l2 none,
    startLane s.lanes.l3 none⟩
  retention := { State.reset.retention with pfail := pfail }
  link := { State.reset.link with
    transfer := s.link.transfer.map fun t => { t with sending := none }
    notices := [⟨.wakeResult v, 0, none⟩] }
  freeCount := s.freeCount
  pending := s.pending }

/-- A wake from a state. -/
def wakeOf (s : State) (pfail : Bool) : State := { s.wakeStart with
  retention := { State.reset.retention with pfail := pfail } }

/-- The sample with its tab CLOSING. -/
def closingTab : State := engineNow sample fun e => { e with tabs := [(0, ⟨9, .closing sampleTab .departed⟩)] }


/-! ## States of the clauses, numbered in the order of the statements -/


def case1 : State := linkNow sample none none (List.replicate 3 (.reply ⟨0x81#8, 1#8, .done⟩))

def case2 : State := { sample with link := { sample.link with notices := List.replicate 9 ⟨.wakeResult .cold, 0, none⟩, lost := true } }

def case3 : State := State.reset

def case4 : State := { sample with store := { sample.store with opState := .loading } }

def case5 : State := cardNow { sample with store := { sample.store with opState := .loading } } 2 fun c => { c with config := { c.config with account := 1 } }

def case6 : State := cardNow { sample with store := { sample.store with opState := .loading } } 0 fun c => { c with config := { c.config with cabins := [9] } }

def case7 : State := cardNow { sample with store := { sample.store with opState := .loading } } 0 fun c => { c with config := { c.config with section_ := some ⟨3, 2⟩ } }

def case8 : State := cardNow sample 0 fun c => { c with issue := 15 }

def case9 : State := secured (sample.setReader 5 ⟨[90], some 101⟩)

def case10 : State := cardNow (sample.setReader 5 ⟨[90], some 100⟩) 4 fun c => { c with config := { c.config with cls := .security } }

def case11 : State := sample.setReader 5 ⟨[40, 41, 98, 99, 99], some 100⟩

def case12 : State := secured sample

def case13 : State := { sample with clock := { sample.clock with shipTime := some 79200 } }

def case14 : State := sample.setChannel 6 { Channel.start with dnd := true }

def case15 : State := { sample with clock := { sample.clock with shipDay := 11 } }

def case16 : State := atDoor 5 .ajar

def case17 : State := atDoor 5 .fault

def case18 : State := State.setBus (atDoor 5 .pending) 2 ⟨[6, 5], []⟩

def case19 : State := atDoor 5 (.released none .awaitingFetch)

def case20 : State := atDoor 5 (.released none .satisfied)

def case21 : State := atDoor 5 (.released (some 9) .awaitingFetch)

def case22 : State := fullOrders sample

def case23 : State := atDoor 5 (.released (some 100500) .satisfied)

def case24 : State := fullOrders (atDoor 5 (.released (some 100500) .satisfied))

def case25 : State := atDoor 5 (.released (some 9) (.running 101000))

def case26 : State := atDoor 5 (.opened 101000)

def case27 : State := atDoor 5 (.relatching (.running 9))

def case28 : State := { sample with doorUnit := { sample.doorUnit with auditPointer := 6 } }

def case29 : State := sample.setChannel 5 ⟨.secured, false, none, false, true, 1⟩

def case30 : State := sample.setChannel 5 ⟨.secured, false, none, false, true, 2⟩

def case31 : State := fullPostings sample

def case32 : State := tuned sample fun v => { v with highWater := 5 }

def case33 : State := cardNow sample 0 fun _ => sampleCard 1001 .child [5] (some 2000)

def case34 : State := engineNow (fullPostings sample) fun e => { e with postings := samplePosting 1 true :: e.postings.drop 1, tabs := [(0, ⟨9, .closing sampleTab .expired⟩)], waiting := [0], highWaterArmed := false }

def case35 : State := { sample with clock := { sample.clock with port := .atSea, region := 0 } }

def case36 : State := laneNow sample 3 fun l => { l with brace := ⟨true, true, none⟩, s := ⟨true, true, none⟩ }

def case37 : State := laneNow sample 3 fun l => { l with softGate := true }

def case38 : State := laneNow sample 3 fun l => { l with brace := ⟨false, true, some 99990⟩ }

def case39 : State := laneNow sample 3 fun l => { l with brace := ⟨false, true, some 99990⟩, softGate := true }

def case40 : State := laneNow sample 0 fun l => { l with brace := ⟨true, false, some 99990⟩ }

def case41 : State := laneNow sample 0 fun l => { l with flowCount := 40, crowdingArmed := false }

def case42 : State := laneNow sample 0 fun l => { l with flowCount := 41 }

def case43 : State := { sample with clock := { sample.clock with shipDay := 65534 } }

def case44 : State := { sample with clock := { sample.clock with shipDay := 65535 } }

def case45 : State := { sample with store := { sample.store with opState := .loading } }

def case46 : State := retentionNow sample fun r => { r with resetHeld := true }

def case47 : State := retentionNow sample fun r => { r with phase := .retained }

def case48 : State := linkNow sample (some ⟨some ⟨0x81#8, 1#8, .done⟩, true⟩) none [.reply ⟨0x81#8, 1#8, .done⟩]

def case49 : State := linkNow sample none (some (.summary 1#8 (.fit ()))) [.reply ⟨0x81#8, 1#8, .done⟩, .executing (.summary 1#8 (.fit ())), .waiting (.summary 2#8 (.fit ()))]

def case50 : State := retentionNow sample fun r => { r with phase := .entering }

def case51 : State := retentionNow sample fun r => { r with phase := .entering, vretFailed := true }

def case52 : State := retentionNow retained fun r => { r with checkWord := none }

def case53 : State := retentionNow retained fun r => { r with store := .lost true }

def case54 : State := retentionNow retained fun r => { r with store := .lost false }

def case55 : State := retentionNow sample fun r => { r with vretFailed := true, pfail := true }

def case56 : State := { sample with clock := { sample.clock with ms := 4294967295000, runSeconds := 4294967295 } }

def case57 : State := { sample with clock := ⟨1, some 86399, .inPort, 3, 100, 100999⟩ }

def case58 : State := retentionNow (linkNow sample (some ⟨none, false⟩) none []) fun r => { r with phase := .entering }

def case59 : State := linkNow sample (some ⟨none, false⟩) none []

def case60 : State := linkNow sample (some ⟨none, false⟩) (some (.summary 1#8 (.fit ()))) [.executing (.summary 1#8 (.fit ())), .waiting (.summary 2#8 (.fit ())), .waiting (.summary 3#8 (.fit ()))]

def case61 : State := linkNow sample (some ⟨none, false⟩) none (List.replicate 4 (.reply ⟨0x81#8, 1#8, .done⟩))

def case62 : State := linkNow sample (some ⟨none, false⟩) (some (.summary 1#8 (.fit ()))) (List.replicate 4 (.reply ⟨0x81#8, 1#8, .done⟩))

def case63 : State := tuned sample fun v => { v with auditInterval := 0 }

def case64 : State := before .loading

def case65 : State := before .unloaded

def case66 : State := sample.setBus 2 ⟨[5], [99990, 99991, 99992, 99993]⟩

def case67 : State := atDoor 5 .pending

def case68 : State := atDoor 5 (.released (some 101000) .satisfied)

def case69 : State := sample.setBus 2 ⟨[6, 7, 8, 9, 10, 11, 12, 13], []⟩

def case70 : State := sample.setBus 2 ⟨[], [99201, 99990, 99991, 99992]⟩

def case71 : State := sample.setBus 2 ⟨[], [99200, 99990, 99991, 99992]⟩

def case72 : State := sample.setReader 5 ⟨[90], some 100⟩

def case73 : State := sample.setReader 5 ⟨[], some 101⟩

def case74 : State := { atDoor 5 (.released (some 9) .awaitingFetch) with scheduler := ⟨[], [⟨.strike, 5, 1⟩], 2⟩ }

def case75 : State := { atDoor 5 (.relatching .awaitingFetch) with scheduler := ⟨[], [⟨.relatch, 5, 1⟩], 2⟩ }

def case76 : State := { sample with scheduler := ⟨[], [⟨.poll, 5, 1⟩], 2⟩ }

def case77 : State := accountNow sample fun a => { a with status := .frozen }

def case78 : State := engineNow sample fun e => { e with tabs := (List.range 128).map fun n => (n, ⟨1, .opened sampleTab 5000⟩) }

def case79 : State := accountNow sample fun a => { a with openTabs := 2 }

def case80 : State := engineNow sample fun e => { e with tabs := [(0, ⟨9, .closing sampleTab .expired⟩)], waiting := [0] }

def case81 : State := engineNow sample fun e => { e with tabs := [(0, ⟨9, .opened { sampleTab with sums := ⟨0, 0, 0, 0, 0, 0⟩ } 5000⟩)] }

def case82 : State := engineNow (fullPostings sample) fun e => { e with postings := samplePosting 1 true :: e.postings.drop 1, tabs := [(0, ⟨9, .closing sampleTab .expired⟩), (127, ⟨1, .closing sampleTab .expired⟩)], waiting := [127, 0], highWaterArmed := false }

def case83 : State := laneNow sample 3 fun l => { l with i := ⟨false, true, none⟩, held := some ⟨.i, 99995⟩ }

def case84 : State := laneNow sample 0 fun l => { l with s := ⟨false, true, some 99995⟩, i := ⟨false, true, none⟩, gate := true, alone := none, held := some ⟨.i, 99990⟩ }

def case85 : State := laneNow sample 0 fun l => { l with s := ⟨false, true, some 99995⟩, i := ⟨false, true, none⟩, gate := false, alone := some .s, held := some ⟨.i, 99990⟩ }

def case86 : State := laneNow sample 3 fun l => { l with s := ⟨false, true, some 99990⟩ }

def case87 : State := laneNow sample 3 fun l => { l with s := ⟨false, true, some 99990⟩, i := ⟨false, true, some 99999⟩, alone := some .s }

def case88 : State := laneNow sample 3 fun l => { l with s := ⟨false, true, some 99990⟩, i := ⟨false, true, none⟩, alone := some .s, held := some ⟨.i, 99990⟩ }

def case89 : State := laneNow sample 0 fun l => { l with i := ⟨true, false, some 99990⟩, settling := true }

def case90 : State := laneNow sample 0 fun l => { l with i := ⟨false, true, some 99990⟩ }

def case91 : State := laneNow sample 0 fun l => { l with s := ⟨true, false, some 99990⟩, decoder := .in1 }

def case92 : State := laneNow sample 0 fun l => { l with s := ⟨true, false, some 99990⟩, decoder := .out3, counters := ⟨0, 16777215, 0, 0, 0⟩ }

def case93 : State := laneNow sample 0 fun l => { l with i := ⟨true, false, some 99990⟩, decoder := .in3, counters := ⟨3, 0, 0, 0, 0⟩ }

def case94 : State := laneNow sample 0 fun l => { l with i := ⟨true, false, some 99990⟩, decoder := .in3, counters := ⟨3, 0, 0, 0, 0⟩, armedIn := false }

def case95 : State := laneNow sample 0 fun l => { l with i := ⟨true, false, some 99990⟩, decoder := .in3, mark := true }

def case96 : State := laneNow sample 3 fun l => { l with s := ⟨false, true, some 99990⟩, i := ⟨false, true, none⟩, held := some ⟨.i, 99990⟩ }

def case97 : State := laneNow sample 3 fun l => { l with s := ⟨false, true, some 99990⟩, i := ⟨false, true, some 99990⟩ }

def case98 : State := laneNow sample 0 fun l => { l with s := ⟨false, true, some 99990⟩, i := ⟨false, true, none⟩, held := some ⟨.i, 99990⟩, settling := true }

def case99 : State := laneNow sample 0 fun l => { l with s := ⟨false, true, some 99990⟩, i := ⟨false, true, some 99990⟩ }

def case100 : State := laneNow sample 0 fun l => { l with s := ⟨true, false, some 99990⟩, i := ⟨false, true, none⟩, held := some ⟨.i, 99990⟩, decoder := .in1 }

def case101 : State := laneNow sample 0 fun l => { l with s := ⟨true, false, some 99990⟩, i := ⟨true, false, some 99990⟩, decoder := .spanX, mark := true }

def case102 : State := laneNow sample 3 fun l => { l with s := ⟨false, true, some 99990⟩, i := ⟨false, true, some 99991⟩ }

def case103 : State := laneNow sample 3 fun l => { l with s := ⟨false, true, some 99990⟩, i := ⟨false, true, some 99990⟩, alone := some .i }

def case104 : State := laneNow sample 3 fun l => { l with s := ⟨false, true, some 99990⟩, i := ⟨false, true, some 99991⟩, alone := some .s }

def case105 : State := laneNow sample 3 fun l => { l with s := ⟨false, true, some 99990⟩, i := ⟨false, true, none⟩, held := some ⟨.i, 99989⟩ }

def case106 : State := laneNow sample 0 fun l => { l with s := ⟨false, true, some 99990⟩, i := ⟨false, true, none⟩, held := some ⟨.i, 99989⟩ }

def case107 : State := laneNow sample 0 fun l => { l with counters := ⟨0, 0, 0, 3, 0⟩, armedIn := false }

def case108 : State := laneNow sample 0 fun l => { l with counters := ⟨8388607, 0, 0, 16777215, 0⟩ }

def case109 : State := laneNow sample 0 fun l => { l with counters := ⟨0, 1, 0, 0, 0⟩, armedOut := false }

def case110 : State := laneNow sample 0 fun l => { l with counters := ⟨0, 0, 0, 0, 8388607⟩ }

def case111 : State := retentionNow (linkNow sample none (some (.restartWarm 4#8 (.fit 0))) [.executing (.restartWarm 4#8 (.fit 0))]) fun r => { r with phase := .entering, pfailSeen := true }

def case112 : State := retentionNow (linkNow sample none (some (.restartCold 4#8)) [.executing (.restartCold 4#8)]) fun r => { r with phase := .entering, pfailSeen := true }

def case113 : State := linkNow sample none none []

def case114 : State := linkNow sample (some ⟨none, true⟩) none []

def case115 : State := linkNow sample (some ⟨some ⟨0x81#8, 1#8, .refused .length⟩, true⟩) none [.reply ⟨0x81#8, 1#8, .refused .length⟩]

def case116 : State := linkNow sample (some ⟨some ⟨0x81#8, 1#8, .refused .length⟩, true⟩) none []

def case117 : State := linkNow sample none none [.reply ⟨0x81#8, 1#8, .refused .length⟩]

def case118 : State := linkNow sample (some ⟨some ⟨0x81#8, 1#8, .refused .length⟩, true⟩) (some (.summary 1#8 (.fit ()))) [.reply ⟨0x81#8, 1#8, .refused .length⟩, .executing (.summary 1#8 (.fit ()))]

def case119 : State := linkNow sample (some ⟨some ⟨0x81#8, 1#8, .refused .length⟩, true⟩) (some (.summary 1#8 (.fit ()))) (List.replicate 4 (.reply ⟨0x81#8, 1#8, .refused .length⟩))

def case120 : State := laneNow sample 3 fun l => { l with counters := ⟨16777215, 8388608, 0, 0, 0⟩ }

def case121 : State := atDoor 6 .fault

def case122 : State := atDoor 6 .pending

def case123 : State := cardNow sample 0 fun c => { c with allowanceUsed := 4 }

def case124 : State := sample.setBus 2 ⟨[5, 6], [1, 2, 3, 4, 5, 6, 7, 8]⟩

def case125 : State := fullOrders (sample.setBus 2 ⟨[5, 6], []⟩)

def case126 : State := { sample with scheduler := ⟨[(0, ⟨[5], []⟩), (14, ⟨[6], []⟩)], [], 14⟩ }

def case127 : State := { sample with scheduler := ⟨[(14, ⟨[6], []⟩)], [], 14⟩ }

def case128 : State := State.setBus (tuned sample fun v => { v with busBudget := 2 }) 2 ⟨[5, 6], [90000, 99201, 99500]⟩

def case129 : State := State.setBus sample 2 ⟨[5], [99200]⟩

def case130 : State := State.setBus sample 2 ⟨[], [99200]⟩

def case131 : State := State.setBus (tuned sample fun v => { v with busBudget := 1 }) 2 ⟨[5], [99201]⟩

def case132 : State := cardNow sample 0 fun c => { c with daySpent := 700, allowanceUsed := 1 }

def case133 : State := { sample with clock := { sample.clock with shipDay := 2 } }

def case134 : State := engineNow sample fun e => { e with postings := [{ samplePosting 9 false with account := 9 }] }

def case135 : State := engineNow sample fun e => { e with postings := [{ samplePosting 9 false with account := 9, uid := 9 }] }

def case136 : State := tuned sample fun v => { v with voidWindow := 40 }

def case137 : State := cardNow sample 0 fun c => { c with presence := .missed }

def case138 : State := tuned sample fun v => { v with laneRole := ⟨.board, .both, .both, .both⟩ }

def case139 : State := tuned sample fun v => { v with escortWindow := 51 }

def case140 : State := tuned sample fun v => { v with escortWindow := 50 }

def case141 : State := tuned (cardNow sample 0 fun c => { c with presence := .expected }) fun v => { v with laneRole := ⟨.leave, .both, .both, .both⟩ }

def case142 : State := tuned (cardNow sample 0 fun c => { c with presence := .missed }) fun v => { v with laneRole := ⟨.leave, .both, .both, .both⟩ }

def case143 : State := tuned (cardNow sample 2 fun c => { c with presence := .ashore }) fun v => { v with laneRole := ⟨.leave, .both, .both, .both⟩ }

def case144 : State := tuned sample fun v => { v with laneRole := ⟨.leave, .both, .both, .both⟩ }

def case145 : State := cardNow sample 0 fun c => { c with presence := .unverified }

def case146 : State := engineNow sample fun e => { e with tabs := [(0, ⟨9, .opened { sampleTab with sums := ⟨0, 0, 0, 0, 0, 0⟩ } 5000⟩), (127, ⟨1, .opened sampleTab 6000⟩)] }

def case147 : State := fullPostings (engineNow sample fun e => { e with tabs := [(0, ⟨9, .opened { sampleTab with sums := ⟨0, 0, 0, 0, 0, 0⟩ } 5000⟩), (127, ⟨1, .opened sampleTab 6000⟩)] })

def case148 : State := { sample with store := { sample.store with cards := [] } }

def case149 : State := { closingTab with store := { closingTab.store with cards := [] } }

def case150 : State := { accountNow sample (fun a => { a with held := 0, openTabs := 0 }) with store := { (accountNow sample (fun a => { a with held := 0, openTabs := 0 })).store with cards := [] } }

/-! ## Witnesses -/

theorem witness_TimePassesWithRisesAndIdleSteps (h : Obligations.TimePassesWithRisesAndIdleSteps) :
    (∃ t, exec Instr.runSecondsRise sample = .next t) ∧
    (∃ t, exec Instr.runSecondsRise case56 = .next t) ∧
    (∃ t, step sample = .next t) ∧
    (∃ t, step case56 = .next t) ∧
    (∃ t, step case57 = .next t) ∧
    (∃ t, step case57 = .next t) ∧
    (∃ t, exec Instr.runSecondsRise case47 = .next t) ∧
    (∃ t, step case46 = .next t) :=
  ⟨⟨_, ((h sample).1 (by decide +kernel) (by decide +kernel)).1 (by decide +kernel)⟩,
    ⟨_, ((h case56).1 (by decide +kernel) (by decide +kernel)).2.1 (by decide +kernel)⟩,
    ⟨_, by
      refine ((h sample).1 ?_ ?_).2.2.1 ?_ (Or.inl ?_) <;> decide +kernel⟩,
    ⟨_, by
      refine ((h case56).1 ?_ ?_).2.2.1 ?_ (Or.inr ?_) <;> decide +kernel⟩,
    ⟨_, by
      refine ((h case57).1 ?_ ?_).2.2.2 ?_ ?_ ?_ <;> decide +kernel⟩,
    ⟨_, (h case57).2.1 (by decide +kernel) (by decide +kernel)⟩,
    ⟨_, (h case47).2.2.1 (by decide +kernel)⟩,
    ⟨_, (h case46).2.2.2 (by decide +kernel) (by decide +kernel)⟩⟩

theorem witness_FramesAreReceivedAsSent (h : Obligations.FramesAreReceivedAsSent) :
    (receiveFrame ([0#8, 196#8] ++ frameBytes (1#8) (42#8) (List.replicate 240 165#8) ++ [1#8]) = some
      (Frame.sound (1#8) (42#8) (List.replicate 240 165#8))) ∧
    (receiveFrame ([] ++ syncByte :: natToBytes 2 0 ++ [1#8, 42#8] ++ [50#8, 216#8]) = some (Frame.badCrc
      42#8)) ∧
    (receiveFrame ([7#8] ++ [syncByte, 0#8, 241#8, 1#8, 2#8]) = some Frame.tooLong) :=
  ⟨(h [0#8, 0xC4#8] (List.replicate 240 0xA5#8) [1#8] 0x01#8 0x2A#8 (by decide +kernel)).1
      (by decide +kernel),
    (h [] [] [] 0x01#8 0x2A#8 (by decide +kernel)).2.1 0x32#8 0xD8#8 (by decide +kernel) (by decide +kernel),
    (h [7#8] [] [1#8, 2#8] 0x01#8 0x2A#8 (by decide +kernel)).2.2 0#8 241#8 (by decide +kernel)⟩

theorem witness_CatalogueFramesRoundTrip (h : Obligations.CatalogueFramesRoundTrip) :
    (Option.map Frame.request (receiveFrame ((Instr.settingPut (7#8) (Body.fit
      { id := 16, lane := 0, value := 65535 })).frame.getD [])) = some (Instr.settingPut (7#8) (Body.fit
      { id := 16, lane := 0, value := 65535 }))) ∧
    (Option.map Frame.request (receiveFrame ((Instr.accountCredit (7#8) (Body.fit
      { account := 4294967295, amount := -2147483648 })).frame.getD [])) = some (Instr.accountCredit (7#8)
      (Body.fit { account := 4294967295, amount := -2147483648 }))) :=
  ⟨h (.settingPut 7#8 (.fit ⟨16, 0, 65535⟩)) ((Instr.frame (.settingPut 7#8 (.fit ⟨16, 0, 65535⟩))).getD [])
      (by decide +kernel) (by decide +kernel) (by decide +kernel),
    h (.accountCredit 7#8 (.fit ⟨4294967295, -2147483648⟩)) ((Instr.frame (.accountCredit 7#8 (.fit
      ⟨4294967295, -2147483648⟩))).getD []) (by decide +kernel) (by decide +kernel) (by decide +kernel)⟩

theorem witness_ReceivedRequestsAreWellFormed (h : Obligations.ReceivedRequestsAreWellFormed) :
    ((Frame.sound 48#8 9#8 [1#8]).request.wf = true) :=
  h (frameBytes 0x30#8 9#8 [1#8]) (.sound 0x30#8 9#8 [1#8]) (by decide +kernel)

theorem witness_LengthAndOperatingStateAreJudgedFirst (h : Obligations.LengthAndOperatingStateAreJudgedFirst) :
    (∃ t, exec (Instr.cardReissue (9#8) (Body.misfit 6)) State.reset = .next t) ∧
    (∃ t, exec (Instr.cardReissue (9#8) (Body.fit 77)) State.reset = .next t) ∧
    (∃ t, exec (Instr.loadBegin (9#8) (Body.fit 77)) sample = .next t) :=
  ⟨⟨_, by
      refine (h (.cardReissue 9#8 (.misfit 6)) 0x14#8 State.reset ?_ ?_ ?_).1 ?_ <;> decide +kernel⟩,
    ⟨_, by
      refine (h (.cardReissue 9#8 (.fit 77)) 0x14#8 State.reset ?_ ?_ ?_).2 .fromLoading .notReady ?_ ?_ ?_
        <;> decide +kernel⟩,
    ⟨_, by
      refine (h (.loadBegin 9#8 (.fit 77)) 0x10#8 sample ?_ ?_ ?_).2 .whenUnloaded .state ?_ ?_ ?_
        <;> decide +kernel⟩⟩

theorem witness_NoFrameIsTakenOutsideOperation (h : Obligations.NoFrameIsTakenOutsideOperation) :
    (∃ t, exec (Instr.frameReceived Reception.inOperation [195#8]) case58 = .next t) ∧
    (∃ t, exec (Instr.frameReceived Reception.inOperation (frameBytes 1#8 9#8 [])) case58 = .next t) ∧
    (∃ t, exec (Instr.summary (1#8) (Body.fit ())) case46 = .next t) :=
  ⟨⟨_, (h case58 .inOperation [0xC3#8] (by decide +kernel)).1 (by decide +kernel)⟩,
    ⟨_, (h case58 .inOperation (frameBytes 0x01#8 9#8 []) (by decide +kernel)).2.1 ⟨none, false⟩
      (by decide +kernel) (by decide +kernel)⟩,
    ⟨_, (h case46 .inOperation [] (by decide +kernel)).2.2 (.summary 1#8 (.fit ())) 0x01#8
      (by decide +kernel) (by decide +kernel)⟩⟩

theorem witness_FramesGoByTheReplyQueue (h : Obligations.FramesGoByTheReplyQueue) :
    (∃ t, exec (Instr.frameReceived Reception.inOperation (frameBytes 1#8 9#8 [])) case59 = .next t) ∧
    (∃ t, exec (Instr.frameReceived Reception.inOperation (frameBytes 1#8 9#8 [])) case60 = .next t) ∧
    (∃ t, exec (Instr.frameReceived Reception.inOperation (frameBytes 1#8 9#8 [])) case61 = .next t) ∧
    (∃ t, exec (Instr.frameReceived Reception.inOperation (frameBytes 1#8 9#8 [])) case62 = .next t) ∧
    (∃ t, exec (Instr.frameReceived Reception.beforeWake (frameBytes 1#8 9#8 [])) case59 = .next t) ∧
    (∃ t, exec (Instr.frameReceived Reception.beforeWake [195#8]) case59 = .next t) ∧
    (∃ t, exec (.frameReceived .inOperation (frameBytes 0x01#8 9#8 [])) (case59.setLink
      { case59.link with transfer := some ⟨none, true⟩ }) = .next t) :=
  ⟨⟨_, by
      refine (h case59 (frameBytes 0x01#8 9#8 []) (.sound 0x01#8 9#8 []) ⟨none, false⟩ ?_ ?_ ?_ ?_).1 ?_ ?_
        <;> decide +kernel⟩,
    ⟨_, by
      refine (h case60 (frameBytes 0x01#8 9#8 []) (.sound 0x01#8 9#8 []) ⟨none, false⟩ ?_ ?_ ?_ ?_).2.1
        (.summary 1#8 (.fit ())) ?_ ?_ <;> decide +kernel⟩,
    ⟨_, by
      refine (h case61 (frameBytes 0x01#8 9#8 []) (.sound 0x01#8 9#8 []) ⟨none, false⟩ ?_ ?_ ?_ ?_).2.2.1 ?_
        ?_ <;> decide +kernel⟩,
    ⟨_, by
      refine (h case62 (frameBytes 0x01#8 9#8 []) (.sound 0x01#8 9#8 []) ⟨none, false⟩ ?_ ?_ ?_ ?_).2.2.2.1
        (.summary 1#8 (.fit ())) ?_ ?_ <;> decide +kernel⟩,
    ⟨_, by
      refine (h case59 (frameBytes 0x01#8 9#8 []) (.sound 0x01#8 9#8 []) ⟨none, false⟩ ?_ ?_ ?_ ?_).2.2.2.2.1
        <;> decide +kernel⟩,
    ⟨_, by
      refine (h case59 (frameBytes 0x01#8 9#8 []) (.sound 0x01#8 9#8 []) ⟨none, false⟩ ?_ ?_ ?_
        ?_).2.2.2.2.2.1 .beforeWake [0xC3#8] ?_ <;> decide +kernel⟩,
    ⟨_, by
      refine (h case59 (frameBytes 0x01#8 9#8 []) (.sound 0x01#8 9#8 []) ⟨none, false⟩ ?_ ?_ ?_
        ?_).2.2.2.2.2.2 .inOperation (frameBytes 0x01#8 9#8 []) <;> decide +kernel⟩⟩

theorem witness_TransfersReadTheHeadReply (h : Obligations.TransfersReadTheHeadReply) :
    (∃ t, exec Instr.transferStart case113 = .next t) ∧
    (∃ t, exec Instr.transferStart case46 = .next t) ∧
    (∃ t, exec Instr.transferStart case114 = .next t) ∧
    (∃ t, exec (Instr.transferEnd 9) case114 = .next t) ∧
    (case114.sdo 9 = List.replicate 9 0#8) ∧
    ((case115.sdo 9).length = 9) ∧
    ((case115.sdo 9)[8]? = some ((Reply.mk 0x81#8 1#8 (.refused .length)).bytes.getD 8 0#8)) ∧
    (∃ t, exec (Instr.transferEnd 7) case115 = .next t) ∧
    (∃ t, exec (Instr.transferEnd 8) case116 = .next t) ∧
    (∃ t, exec Instr.transferStart case117 = .next t) ∧
    (∃ t, exec (Instr.transferEnd 8) case115 = .next t) ∧
    (∃ t, exec (Instr.transferEnd 8) case118 = .next t) ∧
    (∃ t, exec (Instr.transferEnd 8) case119 = .next t) :=
  ⟨⟨_, (h case113 0).1 (Or.inr (fun _ _ => nofun)) (by decide +kernel)⟩,
    ⟨_, (h case46 0).1 (Or.inl (by decide +kernel)) (by decide +kernel)⟩,
    ⟨_, (h case114 9).2.1 ⟨none, true⟩ (by decide +kernel)⟩,
    ⟨_, ((h case114 9).2.2.1 true (by decide +kernel)).1⟩,
    ((h case114 9).2.2.1 true (by decide +kernel)).2,
    ((h case115 9).2.2.2.1 ⟨0x81#8, 1#8, .refused .length⟩ true (by decide +kernel)).1,
    ((h case115 9).2.2.2.1 ⟨0x81#8, 1#8, .refused .length⟩ true (by decide +kernel)).2.1 8
      (by decide +kernel),
    ⟨_, ((h case115 7).2.2.2.1 ⟨0x81#8, 1#8, .refused .length⟩ true (by decide +kernel)).2.2 (Or.inl
      (by decide +kernel))⟩,
    ⟨_, ((h case116 8).2.2.2.1 ⟨0x81#8, 1#8, .refused .length⟩ true (by decide +kernel)).2.2 (Or.inr fun _ =>
      nofun)⟩,
    ⟨_, ((h case117 0).2.2.2.2 ⟨0x81#8, 1#8, .refused .length⟩ [] (by decide +kernel)).1 (by decide +kernel)
      (by decide +kernel)⟩,
    ⟨_, by
      refine (((h case115 8).2.2.2.2 ⟨0x81#8, 1#8, .refused .length⟩ [] ?_).2 true ?_ ?_).1 (Or.inl ?_)
        <;> decide +kernel⟩,
    ⟨_, by
      refine (((h case118 8).2.2.2.2 ⟨0x81#8, 1#8, .refused .length⟩ [.executing (.summary 1#8 (.fit ()))]
        ?_).2 true ?_ ?_).1 (Or.inr ⟨(.summary 1#8 (.fit ())), ?_⟩) <;> decide +kernel⟩,
    ⟨_, by
      refine (((h case119 8).2.2.2.2 ⟨0x81#8, 1#8, .refused .length⟩ (List.replicate 3 (.reply ⟨0x81#8, 1#8,
        .refused .length⟩)) ?_).2 true ?_ ?_).2 (.summary 1#8 (.fit ())) ?_ ?_ <;> decide +kernel⟩⟩

theorem witness_BadFramesAndUnknownCodesAreAnswered (h : Obligations.BadFramesAndUnknownCodesAreAnswered) :
    (∃ t, exec (Instr.badFrame BadMark.badCrc 5#8) sample = .next t) ∧
    (∃ t, exec (Instr.unknownCode 119#8 5#8) sample = .next t) ∧
    (∃ t, exec (Instr.badFrame BadMark.tooLong 5#8) case1 = .next t) ∧
    (∃ t, exec (Instr.unknownCode 119#8 5#8) case1 = .next t) :=
  ⟨⟨_, (h sample .badCrc 0x77#8 5#8 (by decide +kernel)).1⟩,
    ⟨_, (h sample .badCrc 0x77#8 5#8 (by decide +kernel)).2⟩,
    ⟨_, (h case1 .tooLong 0x77#8 5#8 (by decide +kernel)).1⟩,
    ⟨_, (h case1 .tooLong 0x77#8 5#8 (by decide +kernel)).2⟩⟩

theorem witness_NoticeFetchRemovesTheOldestNotices (h : Obligations.NoticeFetchRemovesTheOldestNotices) :
    (∃ t, exec (Instr.noticeFetch (4#8) (Body.fit ())) case2 = .next t) :=
  ⟨_, h case2 4#8 (by decide +kernel)⟩

theorem witness_ReadsAnswerAndChangeNothing (h : Obligations.ReadsAnswerAndChangeNothing) :
    (∃ t, exec (Instr.summary (4#8) (Body.fit ())) sample = .next t) ∧
    (∃ t, exec (Instr.cardRead (4#8) (Body.fit { selector := 0, uid := 1004, slot := 3 })) sample = .next t) ∧
    (∃ t, exec (Instr.cardRead (4#8) (Body.fit { selector := 1, uid := 0, slot := 0 })) sample = .next t) ∧
    (∃ t, exec (Instr.cardRead (4#8) (Body.fit { selector := 1, uid := 0, slot := 8192 })) sample = .next t) ∧
    (∃ t, exec (Instr.cardRead (4#8) (Body.fit { selector := 2, uid := 0, slot := 0 })) sample = .next t) ∧
    (∃ t, exec (Instr.cardRead (4#8) (Body.fit { selector := 0, uid := 9, slot := 0 })) sample = .next t) ∧
    (∃ t, exec (Instr.cardRead (4#8) (Body.fit { selector := 1, uid := 0, slot := 8191 })) sample = .next t) ∧
    (∃ t, exec (Instr.accountRead (4#8) (Body.fit 500)) sample = .next t) ∧
    (∃ t, exec (Instr.accountRead (4#8) (Body.fit 501)) sample = .next t) ∧
    (∃ t, exec (Instr.doorRead (4#8) (Body.fit 4095)) sample = .next t) ∧
    (∃ t, exec (Instr.doorRead (4#8) (Body.fit 4096)) sample = .next t) ∧
    (∃ t, exec (Instr.settingRead (4#8) (Body.fit { id := 19, lane := 3 })) sample = .next t) ∧
    (∃ t, exec (Instr.tabRead (4#8) (Body.fit 128)) sample = .next t) ∧
    (∃ t, exec (Instr.tabRead (4#8) (Body.fit 127)) sample = .next t) ∧
    (∃ t, exec (Instr.tabRead (4#8) (Body.fit 0)) sample = .next t) ∧
    (∃ t, exec (Instr.tabRead (4#8) (Body.fit 0)) case80 = .next t) ∧
    (∃ t, exec (Instr.laneRead (4#8) (Body.fit 3)) case120 = .next t) ∧
    (∃ t, exec (Instr.laneRead (4#8) (Body.fit 0)) sample = .next t) ∧
    (∃ t, exec (Instr.laneRead (4#8) (Body.fit 4)) sample = .next t) ∧
    (∃ t, exec (Instr.allaboardQuery (4#8) (Body.fit { start := 0, count := 16 })) sample = .next t) ∧
    (∃ t, exec (Instr.allaboardQuery (4#8) (Body.fit { start := 8192, count := 1 })) sample = .next t) ∧
    (∃ t, exec (Instr.allaboardQuery (4#8) (Body.fit { start := 0, count := 17 })) sample = .next t) :=
  ⟨⟨_, (h sample 4#8 (by decide +kernel)).1⟩,
    ⟨_, (h sample 4#8 (by decide +kernel)).2.1 1004 3 4 ashoreCard (by decide +kernel)⟩,
    ⟨_, (h sample 4#8 (by decide +kernel)).2.2.1 0 0 (sampleCard 1000 .guest [5] none) (by decide +kernel)
      (by decide +kernel)⟩,
    ⟨_, ((h sample 4#8 (by decide +kernel)).2.2.2.1 1 0 8192).1 (by decide +kernel)⟩,
    ⟨_, ((h sample 4#8 (by decide +kernel)).2.2.2.1 2 0 0).1 (by decide +kernel)⟩,
    ⟨_, ((h sample 4#8 (by decide +kernel)).2.2.2.1 0 9 0).2 (by decide +kernel)⟩,
    ⟨_, ((h sample 4#8 (by decide +kernel)).2.2.2.1 1 0 8191).2 (by decide +kernel)⟩,
    ⟨_, ((h sample 4#8 (by decide +kernel)).2.2.2.2.1 500).1 0 ⟨500, 100000, .opened, 200, 7000, 1, some 50⟩
      (by decide +kernel)⟩,
    ⟨_, ((h sample 4#8 (by decide +kernel)).2.2.2.2.1 501).2 (by decide +kernel)⟩,
    ⟨_, ((h sample 4#8 (by decide +kernel)).2.2.2.2.2.1 4095).1 (by decide +kernel)⟩,
    ⟨_, ((h sample 4#8 (by decide +kernel)).2.2.2.2.2.1 4096).2 (by decide +kernel)⟩,
    ⟨_, (h sample 4#8 (by decide +kernel)).2.2.2.2.2.2.1 19 3 (.flowLimit 3) (by decide +kernel)⟩,
    ⟨_, (h sample 4#8 (by decide +kernel)).2.2.2.2.2.2.2.1 128 (by decide +kernel)⟩,
    ⟨_, (h sample 4#8 (by decide +kernel)).2.2.2.2.2.2.2.2.1 127 0 (by decide +kernel) (by decide +kernel)⟩,
    ⟨_, by
      refine (h sample 4#8 ?_).2.2.2.2.2.2.2.2.2.1 0 9 (.opened sampleTab 5000) sampleTab (some 5000) none
        (some 4900) none ?_ ?_ (Or.inl ⟨⟨5000, rfl, rfl, ?_⟩, rfl, rfl⟩) <;> decide +kernel⟩,
    ⟨_, by
      refine (h case80 4#8 ?_).2.2.2.2.2.2.2.2.2.1 0 9 (.closing sampleTab .expired) sampleTab none (some
        .expired) none (some 1) ?_ ?_ (Or.inr ⟨⟨.expired, rfl, rfl⟩, rfl, rfl, ?_⟩) <;> decide +kernel⟩,
    ⟨_, by
      refine ((h case120 4#8 ?_).2.2.2.2.2.2.2.2.2.2.1 3
        { Lane.start false false false none with counters := ⟨16777215, 8388608, 0, 0, 0⟩ }).1 (-1)
        (-8388608) ?_ ?_ ⟨-1, ?_⟩ ⟨-1, ?_⟩ ?_ ?_ ?_ ?_ <;> decide +kernel⟩,
    ⟨_, by
      refine ((h sample 4#8 ?_).2.2.2.2.2.2.2.2.2.2.1 0 gateLane).1 0 0 ?_ ?_ ⟨0, ?_⟩ ⟨0, ?_⟩ ?_ ?_ ?_ ?_
        <;> decide +kernel⟩,
    ⟨_, ((h sample 4#8 (by decide +kernel)).2.2.2.2.2.2.2.2.2.2.1 4 gateLane).2 (by decide +kernel)⟩,
    ⟨_, by
      refine ((h sample 4#8 ?_).2.2.2.2.2.2.2.2.2.2.2 0 16 ?_).1 ?_ ?_ ?_ <;> decide +kernel⟩,
    ⟨_, ((h sample 4#8 (by decide +kernel)).2.2.2.2.2.2.2.2.2.2.2 8192 1 (by decide +kernel)).2
      (by decide +kernel)⟩,
    ⟨_, ((h sample 4#8 (by decide +kernel)).2.2.2.2.2.2.2.2.2.2.2 0 17 (by decide +kernel)).2
      (by decide +kernel)⟩⟩

theorem witness_LoadBeginOpensLoading (h : Obligations.LoadBeginOpensLoading) :
    (∃ t, exec (Instr.loadBegin (4#8) (Body.fit 65535)) case3 = .next t) ∧
    (∃ t, exec (Instr.loadBegin (4#8) (Body.fit 7)) sample = .next t) :=
  ⟨⟨_, (h case3 4#8 65535 (by decide +kernel)).1 (by decide +kernel)⟩,
    ⟨_, (h sample 4#8 7 (by decide +kernel)).2 (by decide +kernel)⟩⟩

theorem witness_LoadEndEntersServiceOrNamesTheFailure (h : Obligations.LoadEndEntersServiceOrNamesTheFailure) :
    (∃ t, exec (Instr.loadEnd (4#8) (Body.fit ()) Span.whole) case4 = .next t) ∧
    (∃ t, exec (Instr.loadEnd (4#8) (Body.fit ()) Span.whole) case5 = .next t) ∧
    (∃ t, exec (Instr.loadEnd (4#8) (Body.fit ()) Span.whole) case6 = .next t) ∧
    (∃ t, exec (Instr.loadEnd (4#8) (Body.fit ()) Span.whole) case7 = .next t) :=
  ⟨⟨_, (h case4 4#8 (by decide +kernel) (by decide +kernel)).1 (by decide +kernel)⟩,
    ⟨_, by
      refine ((h case5 4#8 ?_ ?_).2 (sampleCards.take 2) 2
        { sampleCard 1002 .crew [] none with config := { (sampleCard 1002 .crew [] none).config with account := 1 } }
        (sampleCards.drop 3) ?_ ?_).1 ?_ <;> decide +kernel⟩,
    ⟨_, by
      refine ((h case6 4#8 ?_ ?_).2 [] 0 (sampleCard 1000 .guest [9] none) (sampleCards.drop 1) ?_ ?_).2.1 ?_
        ⟨9, ?_, ?_⟩ <;> decide +kernel⟩,
    ⟨_, by
      refine ((h case7 4#8 ?_ ?_).2 [] 0
        { sampleCard 1000 .guest [5] none with config := { (sampleCard 1000 .guest [5] none).config with section_ := some ⟨3, 2⟩ } }
        (sampleCards.drop 1) ?_ ?_).2.2 ⟨3, 2⟩ ?_ ?_ ?_ ?_ <;> decide +kernel⟩⟩

theorem witness_CardPutsWriteTheCardTable (h : Obligations.CardPutsWriteTheCardTable) :
    (∃ t, exec (Instr.cardPut (4#8) (Body.fit (let __src := cardReq 0 2000 500;
      { kind := __src.kind, uid := __src.uid, issue := __src.issue, presence := __src.presence, cls := 4, account := __src.account, cabinCount := __src.cabinCount, cabin0 := __src.cabin0, cabin1 := __src.cabin1, section_ := __src.section_, hours := __src.hours, firstDay := __src.firstDay, lastDay := __src.lastDay, privilege := __src.privilege, tier := __src.tier, dailyCap := __src.dailyCap })))
      sample = .next t) ∧
    (∃ t, exec (Instr.cardPut (4#8) (Body.fit (let __src := cardReq 1 2000 500;
      { kind := __src.kind, uid := __src.uid, issue := __src.issue, presence := __src.presence, cls := __src.cls, account := __src.account, cabinCount := __src.cabinCount, cabin0 := __src.cabin0, cabin1 := __src.cabin1, section_ := __src.section_, hours := __src.hours, firstDay := __src.firstDay, lastDay := __src.lastDay, privilege := __src.privilege, tier := __src.tier, dailyCap := { presence := 1, value := 1000000 } })))
      case45 = .next t) ∧
    (∃ t, exec (Instr.cardPut (4#8) (Body.fit (cardReq 0 1000 500))) sample = .next t) ∧
    (∃ t, exec (Instr.cardPut (4#8) (Body.fit (cardReq 0 2000 500))) fullCards = .next t) ∧
    (∃ t, exec (Instr.cardPut (4#8) (Body.fit (cardReq 1 2000 500))) sample = .next t) ∧
    (∃ t, exec (Instr.cardPut (4#8) (Body.fit (cardReq 0 2000 501))) sample = .next t) ∧
    (∃ t, exec (Instr.cardPut (4#8) (Body.fit (let __src := cardReq 1 1000 500;
      { kind := __src.kind, uid := __src.uid, issue := __src.issue, presence := __src.presence, cls := __src.cls, account := __src.account, cabinCount := __src.cabinCount, cabin0 := 7, cabin1 := __src.cabin1, section_ := __src.section_, hours := __src.hours, firstDay := __src.firstDay, lastDay := __src.lastDay, privilege := __src.privilege, tier := __src.tier, dailyCap := __src.dailyCap })))
      sample = .next t) ∧
    (∃ t, exec (Instr.cardPut (4#8) (Body.fit (let __src := cardReq 1 1002 500;
      { kind := __src.kind, uid := __src.uid, issue := __src.issue, presence := __src.presence, cls := 2, account := __src.account, cabinCount := __src.cabinCount, cabin0 := __src.cabin0, cabin1 := __src.cabin1, section_ := { presence := 1, value := { first := 9, second := 8 } }, hours := __src.hours, firstDay := __src.firstDay, lastDay := __src.lastDay, privilege := __src.privilege, tier := __src.tier, dailyCap := __src.dailyCap })))
      sample = .next t) ∧
    (∃ t, exec (Instr.cardPut (4#8) (Body.fit (let __src := cardReq 0 2000 500;
      { kind := __src.kind, uid := __src.uid, issue := 15, presence := __src.presence, cls := __src.cls, account := __src.account, cabinCount := __src.cabinCount, cabin0 := __src.cabin0, cabin1 := __src.cabin1, section_ := __src.section_, hours := __src.hours, firstDay := __src.firstDay, lastDay := __src.lastDay, privilege := __src.privilege, tier := __src.tier, dailyCap := __src.dailyCap })))
      sample = .next t) ∧
    (∃ t, exec (Instr.cardPut (4#8) (Body.fit (let __src := cardReq 1 1001 500;
      { kind := __src.kind, uid := __src.uid, issue := __src.issue, presence := __src.presence, cls := __src.cls, account := __src.account, cabinCount := __src.cabinCount, cabin0 := __src.cabin0, cabin1 := __src.cabin1, section_ := __src.section_, hours := __src.hours, firstDay := __src.firstDay, lastDay := __src.lastDay, privilege := __src.privilege, tier := 2, dailyCap := __src.dailyCap })))
      sample = .next t) ∧
    (∃ t, exec (Instr.cardPut (4#8) (Body.fit (cardReq 1 1000 501))) case45 = .next t) :=
  ⟨⟨_, (h sample 4#8 ({ cardReq 0 2000 500 with cls := 4 }) (by decide +kernel) (by decide +kernel)).1
      (by decide +kernel)⟩,
    ⟨_, (h case45 4#8 ({ cardReq 1 2000 500 with dailyCap := ⟨1, 1000000⟩ }) (by decide +kernel)
      (by decide +kernel)).1 (by decide +kernel)⟩,
    ⟨_, by
      refine (((h sample 4#8 (cardReq 0 1000 500) ?_ ?_).2 (cardConfig 500) ?_).1 .aboard ?_ ?_ ?_).1 ⟨(0,
        sampleCard 1000 .guest [5] none), ?_⟩ <;> decide +kernel⟩,
    ⟨_, by
      refine (((h fullCards 4#8 (cardReq 0 2000 500) ?_ ?_).2 (cardConfig 500) ?_).1 .aboard ?_ ?_ ?_).2
        (fullCards_none 2000 ?_) fullCards_full <;> decide +kernel⟩,
    ⟨_, by
      refine ((h sample 4#8 (cardReq 1 2000 500) ?_ ?_).2 (cardConfig 500) ?_).2.1 ?_ ?_ <;> decide +kernel⟩,
    ⟨_, by
      refine ((h sample 4#8 (cardReq 0 2000 501) ?_ ?_).2 (cardConfig 501) ?_).2.2.1 .notFound ?_ (Or.inl ?_)
        (Or.inl ?_) <;> decide +kernel⟩,
    ⟨_, by
      refine ((h sample 4#8 ({ cardReq 1 1000 500 with cabin0 := 7 }) ?_ ?_).2
        { cardConfig 500 with cabins := [7] } ?_).2.2.1 .notFound ?_ (Or.inr ⟨?_, Or.inl ?_⟩) (Or.inr ?_)
        <;> decide +kernel⟩,
    ⟨_, by
      refine ((h sample 4#8 ({ cardReq 1 1002 500 with cls := 2, section_ := ⟨1, ⟨9, 8⟩⟩ }) ?_ ?_).2
        { cardConfig 500 with cls := .crew, section_ := some ⟨9, 8⟩ } ?_).2.2.1 .range ?_ (Or.inr ⟨?_, Or.inr
        ⟨?_, ⟨⟨9, 8⟩, ?_⟩, ?_⟩⟩) (Or.inr ?_) <;> decide +kernel⟩,
    ⟨_, by
      refine (((h sample 4#8 ({ cardReq 0 2000 500 with issue := 15 }) ?_ ?_).2 (cardConfig 500) ?_).2.2.2
        (Or.inr ⟨?_, ?_, ?_, by intro p e; cases e⟩)).1 .aboard 5 ?_ ?_ ?_ ?_ ?_ <;> decide +kernel⟩,
    ⟨_, by
      refine (((h sample 4#8 ({ cardReq 1 1001 500 with tier := 2 }) ?_ ?_).2
        { cardConfig 500 with tier := 2 } ?_).2.2.2 (Or.inr ⟨?_, ?_, ?_, by intro p e; cases e⟩)).2.1 1
        (sampleCard 1001 .child [5] (some 2000)) ?_ ?_ ?_ <;> decide +kernel⟩,
    ⟨_, by
      refine (((h case45 4#8 (cardReq 1 1000 501) ?_ ?_).2 (cardConfig 501) ?_).2.2.2 (Or.inl ?_)).2.2 0
        (sampleCard 1000 .guest [5] none) ?_ ?_ ?_ ?_ <;> decide +kernel⟩⟩

theorem witness_CardsAreReissuedAndRetired (h : Obligations.CardsAreReissuedAndRetired) :
    (∃ t, exec (Instr.cardReissue (4#8) (Body.fit 77)) sample = .next t) ∧
    (∃ t, exec (Instr.cardRetire (4#8) (Body.fit 77)) sample = .next t) ∧
    (∃ t, exec (Instr.cardReissue (4#8) (Body.fit 1004)) sample = .next t) ∧
    (∃ t, exec (Instr.cardReissue (4#8) (Body.fit 1000)) case8 = .next t) ∧
    (∃ t, exec (Instr.cardRetire (4#8) (Body.fit 1004)) sample = .next t) ∧
    (∃ t, exec (Instr.cardRetire (4#8) (Body.fit 1000)) sample = .next t) :=
  ⟨⟨_, ((h sample 4#8 77 (by decide +kernel) (by decide +kernel)).1 (by decide +kernel)).1⟩,
    ⟨_, ((h sample 4#8 77 (by decide +kernel) (by decide +kernel)).1 (by decide +kernel)).2⟩,
    ⟨_, by
      refine ((h sample 4#8 1004 ?_ ?_).2 4 ((Table.find sampleCards 4).getD (sampleCard 0 .guest [] none))
        ?_).1 ?_ <;> decide +kernel⟩,
    ⟨_, by
      refine ((h case8 4#8 1000 ?_ ?_).2 0 { sampleCard 1000 .guest [5] none with issue := 15 } ?_).2.1 ?_
        <;> decide +kernel⟩,
    ⟨_, by
      refine ((h sample 4#8 1004 ?_ ?_).2 4 ((Table.find sampleCards 4).getD (sampleCard 0 .guest [] none))
        ?_).2.2.1 ?_ <;> decide +kernel⟩,
    ⟨_, by
      refine ((h sample 4#8 1000 ?_ ?_).2 0 (sampleCard 1000 .guest [5] none) ?_).2.2.2 ?_
        <;> decide +kernel⟩⟩

theorem witness_AccountRequestsWriteTheAccountTable (h : Obligations.AccountRequestsWriteTheAccountTable) :
    (∃ t, exec (Instr.accountPut (4#8) (Body.fit
      { kind := 0, account := 500, limit := 10000001, status := 0 })) sample = .next t) ∧
    (∃ t, exec (Instr.accountPut (4#8) (Body.fit { kind := 1, account := 501, limit := 0, status := 2 }))
      sample = .next t) ∧
    (∃ t, exec (Instr.accountPut (4#8) (Body.fit { kind := 0, account := 500, limit := ↑0, status := 1 }))
      sample = .next t) ∧
    (∃ t, exec (Instr.accountPut (4#8) (Body.fit
      { kind := 1, account := 501, limit := ↑10000000, status := 1 })) sample = .next t) ∧
    (∃ t, exec (Instr.accountPut (4#8) (Body.fit { kind := 0, account := 77, limit := ↑0, status := 0 }))
      fullAccounts = .next t) ∧
    (∃ t, exec (Instr.accountPut (4#8) (Body.fit
      { kind := 0, account := 501, limit := ↑10000000, status := 1 })) sample = .next t) ∧
    (∃ t, exec (Instr.accountCredit (4#8) (Body.fit { account := 501, amount := 0 })) sample = .next t) ∧
    (∃ t, exec (Instr.accountCredit (4#8) (Body.fit { account := 500, amount := 10000001 })) sample = .next
      t) ∧
    (∃ t, exec (Instr.accountCredit (4#8) (Body.fit { account := 501, amount := ↑1 })) sample = .next t) ∧
    (∃ t, exec (Instr.accountRetire (4#8) (Body.fit 501)) sample = .next t) ∧
    (∃ t, exec (Instr.accountPut (4#8) (Body.fit { kind := 1, account := 500, limit := ↑0, status := 1 }))
      sample = .next t) ∧
    (∃ t, exec (Instr.accountCredit (4#8) (Body.fit { account := 500, amount := ↑10000000 })) sample = .next
      t) ∧
    (∃ t, exec (Instr.accountRetire (4#8) (Body.fit 500)) closingTab = .next t) ∧
    (∃ t, exec (Instr.accountRetire (4#8) (Body.fit 500)) sample = .next t) ∧
    (∃ t, exec (Instr.accountRetire (4#8) (Body.fit 500)) case148 = .next t) ∧
    (∃ t, exec (Instr.accountRetire (4#8) (Body.fit 500)) case149 = .next t) ∧
    (∃ t, exec (Instr.accountRetire (4#8) (Body.fit 500)) case150 = .next t) :=
  ⟨⟨_, (h sample 4#8 500 (by decide +kernel) (by decide +kernel)).1 0 0 10000001 (by decide +kernel)⟩,
    ⟨_, (h sample 4#8 501 (by decide +kernel) (by decide +kernel)).1 1 2 0 (by decide +kernel)⟩,
    ⟨_, by
      refine ((h sample 4#8 500 ?_ ?_).2.1 0 1 .frozen ?_ ?_).1 ⟨(0, ⟨500, 100000, .opened, 200, 7000, 1,
        some 50⟩), ?_⟩ <;> decide +kernel⟩,
    ⟨_, by
      refine (((h sample 4#8 501 ?_ ?_).2.1 10000000 1 .frozen ?_ ?_).2 ?_).1 <;> decide +kernel⟩,
    ⟨_, by
      refine (((h fullAccounts 4#8 77 ?_ ?_).2.1 0 0 .opened ?_ ?_).2 (fullAccounts_none 77 ?_)).2
        fullAccounts_full <;> decide +kernel⟩,
    ⟨_, by
      refine (h sample 4#8 501 ?_ ?_).2.2.1 10000000 1 .frozen 1 ?_ ?_ ?_ ?_ <;> decide +kernel⟩,
    ⟨_, (h sample 4#8 501 (by decide +kernel) (by decide +kernel)).2.2.2.1 0 (by decide +kernel)⟩,
    ⟨_, (h sample 4#8 500 (by decide +kernel) (by decide +kernel)).2.2.2.1 10000001 (by decide +kernel)⟩,
    ⟨_, by
      refine ((h sample 4#8 501 ?_ ?_).2.2.2.2.1 ?_).1 1 ?_ ?_ <;> decide +kernel⟩,
    ⟨_, ((h sample 4#8 501 (by decide +kernel) (by decide +kernel)).2.2.2.2.1 (by decide +kernel)).2⟩,
    ⟨_, by
      refine ((h sample 4#8 500 ?_ ?_).2.2.2.2.2 0 ⟨500, 100000, .opened, 200, 7000, 1, some 50⟩ ?_).1 0 1
        .frozen ?_ ?_ <;> decide +kernel⟩,
    ⟨_, by
      refine ((h sample 4#8 500 ?_ ?_).2.2.2.2.2 0 ⟨500, 100000, .opened, 200, 7000, 1, some 50⟩ ?_).2.1
        10000000 ?_ ?_ ?_ <;> decide +kernel⟩,
    ⟨_, by
      refine (((h closingTab 4#8 500 ?_ ?_).2.2.2.2.2 0 ⟨500, 100000, .opened, 200, 7000, 1, some 50⟩ ?_).2.2
        true 5 ?_ ?_).1 rfl ?_ <;> decide +kernel⟩,
    ⟨_, by
      refine (((h sample 4#8 500 ?_ ?_).2.2.2.2.2 0 ⟨500, 100000, .opened, 200, 7000, 1, some 50⟩ ?_).2.2
        false 5 ?_ ?_).2.1 rfl ?_ <;> decide +kernel⟩,
    ⟨_, by
      refine (((h case148 4#8 500 ?_ ?_).2.2.2.2.2 0 ⟨500, 100000, .opened, 200, 7000, 1, some 50⟩ ?_).2.2
        false 0 ?_ ?_).2.2.1 rfl ?_ <;> decide +kernel⟩,
    ⟨_, by
      refine (((h case149 4#8 500 ?_ ?_).2.2.2.2.2 0 ⟨500, 100000, .opened, 200, 7000, 1, some 50⟩ ?_).2.2
        true 0 ?_ ?_).2.2.1 rfl ?_ <;> decide +kernel⟩,
    ⟨_, by
      refine (((h case150 4#8 500 ?_ ?_).2.2.2.2.2 0 ⟨500, 100000, .opened, 200, 0, 0, some 50⟩ ?_).2.2 false
        0 ?_ ?_).2.2.2 rfl rfl ?_ ?_ <;> decide +kernel⟩⟩

theorem witness_DoorPutsConfigureDoors (h : Obligations.DoorPutsConfigureDoors) :
    (∃ t, exec (Instr.doorPut (4#8) (Body.fit { door := 4096, configured := 0, label := 0, bus := 0 }))
      case64 = .next t) ∧
    (∃ t, exec (Instr.doorPut (4#8) (Body.fit { door := 0, configured := 0, label := 65536, bus := 0 }))
      case64 = .next t) ∧
    (∃ t, exec (Instr.doorPut (4#8) (Body.fit { door := 0, configured := 0, label := 0, bus := 16 })) case64
      = .next t) ∧
    (∃ t, exec (Instr.doorPut (4#8) (Body.fit { door := 0, configured := 2, label := 0, bus := 0 })) case64 =
      .next t) ∧
    (∃ t, exec (Instr.doorPut (4#8) (Body.fit { door := 4095, configured := 1, label := 65535, bus := 15 }))
      case64 = .next t) ∧
    (∃ t, exec (Instr.doorPut (4#8) (Body.fit { door := 7, configured := 1, label := 1, bus := 0 })) sample =
      .next t) ∧
    (∃ t, exec (Instr.doorPut (4#8) (Body.fit { door := 6, configured := 0, label := 1, bus := 0 })) case121
      = .next t) ∧
    (∃ t, exec (Instr.doorPut (4#8) (Body.fit { door := 6, configured := 1, label := 1, bus := 2 })) case122
      = .next t) ∧
    (∃ t, exec (Instr.doorPut (4#8) (Body.fit { door := 6, configured := 1, label := 1, bus := 3 })) case122
      = .next t) ∧
    (∃ t, exec (Instr.doorPut (4#8) (Body.fit { door := 5, configured := 0, label := 1, bus := 2 })) sample =
      .next t) :=
  ⟨⟨_, (h case64 4#8 4096 0 0 0 (by decide +kernel) (by decide +kernel)).1 (by decide +kernel)⟩,
    ⟨_, (h case64 4#8 0 65536 0 0 (by decide +kernel) (by decide +kernel)).1 (by decide +kernel)⟩,
    ⟨_, (h case64 4#8 0 0 16 0 (by decide +kernel) (by decide +kernel)).1 (by decide +kernel)⟩,
    ⟨_, (h case64 4#8 0 0 0 2 (by decide +kernel) (by decide +kernel)).1 (by decide +kernel)⟩,
    ⟨_, by
      refine ((h case64 4#8 4095 65535 15 1 ?_ ?_).2 true ?_ ?_ ?_ ?_).1 ?_ <;> decide +kernel⟩,
    ⟨_, by
      refine ((h sample 4#8 7 1 0 1 ?_ ?_).2 true ?_ ?_ ?_ ?_).2.1 ?_ ?_ ?_ ?_ <;> decide +kernel⟩,
    ⟨_, by
      refine ((h case121 4#8 6 1 0 0 ?_ ?_).2 false ?_ ?_ ?_ ?_).2.2.1 ?_ ?_ ?_ ?_ ?_ <;> decide +kernel⟩,
    ⟨_, by
      refine ((h case122 4#8 6 1 2 1 ?_ ?_).2 true ?_ ?_ ?_ ?_).2.2.2.1 ?_ ?_ ?_ ?_ <;> decide +kernel⟩,
    ⟨_, by
      refine ((h case122 4#8 6 1 3 1 ?_ ?_).2 true ?_ ?_ ?_ ?_).2.2.2.2 ?_ (Or.inr ?_) <;> decide +kernel⟩,
    ⟨_, by
      refine ((h sample 4#8 5 1 2 0 ?_ ?_).2 false ?_ ?_ ?_ ?_).2.2.2.2 ?_ (Or.inl ⟨?_, Or.inr ⟨(0,
        sampleCard 1000 .guest [5] none), ?_, ?_⟩⟩) <;> decide +kernel⟩⟩

theorem witness_RatePutsReplaceEntries (h : Obligations.RatePutsReplaceEntries) :
    (∃ t, exec (Instr.categoryPut (4#8) (Body.fit
      { category := 16, alcohol := 0, taxable := 0, gratuity := 0 })) sample = .next t) ∧
    (∃ t, exec (Instr.categoryPut (4#8) (Body.fit
      { category := 0, alcohol := 0, taxable := 0, gratuity := 2501 })) sample = .next t) ∧
    (∃ t, exec (Instr.categoryPut (4#8) (Body.fit
      { category := 0, alcohol := 2, taxable := 0, gratuity := 0 })) sample = .next t) ∧
    (∃ t, exec (Instr.categoryPut (4#8) (Body.fit
      { category := 0, alcohol := 0, taxable := 2, gratuity := 0 })) sample = .next t) ∧
    (∃ t, exec (Instr.regionPut (4#8) (Body.fit { region := 8, rate := 0 })) sample = .next t) ∧
    (∃ t, exec (Instr.regionPut (4#8) (Body.fit { region := 0, rate := 3001 })) sample = .next t) ∧
    (∃ t, exec (Instr.categoryPut (4#8) (Body.fit
      { category := 15, alcohol := 1, taxable := 0, gratuity := 2500 })) sample = .next t) ∧
    (∃ t, exec (Instr.regionPut (4#8) (Body.fit { region := 7, rate := 3000 })) sample = .next t) ∧
    (∃ t, exec (Instr.tierPut (4#8) (Body.fit
      { tier := 1, covered := 2#16, allowance := 3, coverCap := 99999 }) Span.whole) case123 = .next t) ∧
    (∃ t, exec (Instr.tierPut (4#8) (Body.fit { tier := 3, covered := 2#16, allowance := 31, coverCap := 0 })
      Span.whole) sample = .next t) ∧
    (∃ t, exec (Instr.tierPut (4#8) (Body.fit { tier := 0, covered := 2#16, allowance := 31, coverCap := 0 })
      Span.whole) sample = .next t) :=
  ⟨⟨_, (h sample 4#8 (by decide +kernel)).1 16 0 0 0 (by decide +kernel)⟩,
    ⟨_, (h sample 4#8 (by decide +kernel)).1 0 2501 0 0 (by decide +kernel)⟩,
    ⟨_, (h sample 4#8 (by decide +kernel)).1 0 0 2 0 (by decide +kernel)⟩,
    ⟨_, (h sample 4#8 (by decide +kernel)).1 0 0 0 2 (by decide +kernel)⟩,
    ⟨_, (h sample 4#8 (by decide +kernel)).2.1 8 0 (by decide +kernel)⟩,
    ⟨_, (h sample 4#8 (by decide +kernel)).2.1 0 3001 (by decide +kernel)⟩,
    ⟨_, by
      refine (h sample 4#8 ?_).2.2.1 15 2500 1 0 true false ?_ ?_ ?_ ?_ <;> decide +kernel⟩,
    ⟨_, (h sample 4#8 (by decide +kernel)).2.2.2.1 7 3000 (by decide +kernel) (by decide +kernel)⟩,
    ⟨_, by
      refine (h case123 4#8 ?_).2.2.2.2.1 1 2#16 3 99999 ?_ ?_ ?_ ?_ <;> decide +kernel⟩,
    ⟨_, by
      refine (h sample 4#8 ?_).2.2.2.2.1 3 2#16 31 0 ?_ ?_ ?_ ?_ <;> decide +kernel⟩,
    ⟨_, (h sample 4#8 (by decide +kernel)).2.2.2.2.2 0 2#16 31 0 (by decide +kernel)⟩⟩

theorem witness_SettingPutsClampAndAnswer (h : Obligations.SettingPutsClampAndAnswer) :
    ((sample.store.settings.write SettingName.relatchTime 31).read SettingName.relatchTime = 30) ∧
    ((sample.store.settings.write SettingName.relatchTime 1).read SettingName.relatchTime = 2) ∧
    ((sample.store.settings.write SettingName.ajarTime 601).read SettingName.ajarTime = 600) ∧
    ((sample.store.settings.write SettingName.ajarTime 9).read SettingName.ajarTime = 10) ∧
    ((sample.store.settings.write SettingName.busWindow 2001).read SettingName.busWindow = 2000) ∧
    ((sample.store.settings.write SettingName.busWindow 199).read SettingName.busWindow = 200) ∧
    ((sample.store.settings.write SettingName.tabDefaultHold 100001).read SettingName.tabDefaultHold =
      100000) ∧
    ((sample.store.settings.write SettingName.highWater 1025).read SettingName.highWater = 1024) ∧
    ((sample.store.settings.write SettingName.highWater 0).read SettingName.highWater = 1) ∧
    ((sample.store.settings.write (SettingName.laneRole 3) 0).read (SettingName.laneRole 3) = 0) ∧
    ((sample.store.settings.write (SettingName.laneRole 3) 7).read (SettingName.laneRole 3) = 2) ∧
    ((sample.store.settings.write (SettingName.flowWindow 3) 19).read (SettingName.flowWindow 3) = 10) ∧
    ((sample.store.settings.write (SettingName.flowWindow 3) 20).read (SettingName.flowWindow 3) = 30) ∧
    ((sample.store.settings.write (SettingName.flowWindow 3) 44).read (SettingName.flowWindow 3) = 30) ∧
    ((sample.store.settings.write (SettingName.flowWindow 3) 45).read (SettingName.flowWindow 3) = 60) ∧
    ((sample.store.settings.write (SettingName.flowLimit 0) 256).read (SettingName.flowLimit 0) = 255) ∧
    ((sample.store.settings.write SettingName.relatchTime 31).read SettingName.ajarTime =
      sample.store.settings.read SettingName.ajarTime) ∧
    ((sample.store.settings.write (SettingName.flowWindow 3) 20).read (SettingName.flowWindow 2) =
      sample.store.settings.read (SettingName.flowWindow 2)) ∧
    (∃ t, exec (Instr.settingPut (4#8) (Body.fit { id := 1, lane := 9, value := 31 })) sample = .next t) ∧
    (∃ t, exec (Instr.settingPut (4#8) (Body.fit { id := 10, lane := 9, value := 0 })) sample = .next t) ∧
    (∃ t, exec (Instr.settingPut (4#8) (Body.fit { id := 10, lane := 9, value := 65535 })) case63 = .next t) ∧
    (∃ t, exec (Instr.settingPut (4#8) (Body.fit { id := 10, lane := 9, value := 5 })) case64 = .next t) ∧
    (∃ t, exec (Instr.settingPut (4#8) (Body.fit { id := 10, lane := 9, value := 61 })) case65 = .next t) ∧
    (∃ t, exec (Instr.settingPut (4#8) (Body.fit { id := 5, lane := 9, value := 9 })) case66 = .next t) ∧
    (∃ t, exec (Instr.settingPut (4#8) (Body.fit { id := 22, lane := 9, value := 6 })) sample = .next t) ∧
    (∃ t, exec (Instr.settingRead (4#8) (Body.fit { id := 22, lane := 9 })) sample = .next t) ∧
    (∃ t, exec (Instr.settingPut (4#8) (Body.fit { id := 0, lane := 9, value := 6 })) sample = .next t) ∧
    (∃ t, exec (Instr.settingRead (4#8) (Body.fit { id := 0, lane := 9 })) sample = .next t) ∧
    (∃ t, exec (Instr.settingPut (4#8) (Body.fit { id := 19, lane := 4, value := 6 })) sample = .next t) ∧
    (∃ t, exec (Instr.settingRead (4#8) (Body.fit { id := 19, lane := 4 })) sample = .next t) :=
  ⟨(h sample 4#8 1 9 31 30 2 30 .relatchTime _ (by decide +kernel) rfl (by decide +kernel)).1,
    (h sample 4#8 1 9 1 2 2 30 .relatchTime _ (by decide +kernel) rfl (by decide +kernel)).1,
    (h sample 4#8 2 9 601 600 10 600 .ajarTime _ (by decide +kernel) rfl (by decide +kernel)).1,
    (h sample 4#8 2 9 9 10 10 600 .ajarTime _ (by decide +kernel) rfl (by decide +kernel)).1,
    (h sample 4#8 6 9 2001 2000 200 2000 .busWindow _ (by decide +kernel) rfl (by decide +kernel)).1,
    (h sample 4#8 6 9 199 200 200 2000 .busWindow _ (by decide +kernel) rfl (by decide +kernel)).1,
    (h sample 4#8 13 9 100001 100000 0 100000 .tabDefaultHold _ (by decide +kernel) rfl
      (by decide +kernel)).1,
    (h sample 4#8 21 9 1025 1024 1 1024 .highWater _ (by decide +kernel) rfl (by decide +kernel)).1,
    (h sample 4#8 21 9 0 1 1 1024 .highWater _ (by decide +kernel) rfl (by decide +kernel)).1,
    (h sample 4#8 17 3 0 0 0 0 (.laneRole 3) _ (by decide +kernel) rfl (by decide +kernel)).1,
    (h sample 4#8 17 3 7 2 0 0 (.laneRole 3) _ (by decide +kernel) rfl (by decide +kernel)).1,
    (h sample 4#8 18 3 19 10 0 0 (.flowWindow 3) _ (by decide +kernel) rfl (by decide +kernel)).1,
    (h sample 4#8 18 3 20 30 0 0 (.flowWindow 3) _ (by decide +kernel) rfl (by decide +kernel)).1,
    (h sample 4#8 18 3 44 30 0 0 (.flowWindow 3) _ (by decide +kernel) rfl (by decide +kernel)).1,
    (h sample 4#8 18 3 45 60 0 0 (.flowWindow 3) _ (by decide +kernel) rfl (by decide +kernel)).1,
    (h sample 4#8 19 0 256 255 0 0 (.flowLimit 0) _ (by decide +kernel) rfl (by decide +kernel)).1,
    (h sample 4#8 1 9 31 30 2 30 .relatchTime _ (by decide +kernel) rfl (by decide +kernel)).2.1 .ajarTime
      nofun (by intro n e; rcases e with e | e | e <;> cases e),
    (h sample 4#8 18 3 20 30 0 0 (.flowWindow 3) _ (by decide +kernel) rfl (by decide +kernel)).2.1
      (.flowWindow 2) nofun (by intro n e; rcases e with e | e | e <;> cases e; decide),
    ⟨_, (h sample 4#8 1 9 31 30 2 30 .relatchTime _ (by decide +kernel) rfl (by decide +kernel)).2.2.1 nofun
      nofun nofun⟩,
    ⟨_, (h sample 4#8 10 9 0 0 0 60 .auditInterval _ (by decide +kernel) rfl (by decide +kernel)).2.2.2.1
      rfl⟩,
    ⟨_, (h case63 4#8 10 9 65535 60 0 60 .auditInterval _ (by decide +kernel) rfl
      (by decide +kernel)).2.2.2.1 rfl⟩,
    ⟨_, (h case64 4#8 10 9 5 5 0 60 .auditInterval _ (by decide +kernel) rfl (by decide +kernel)).2.2.2.1
      rfl⟩,
    ⟨_, (h case65 4#8 10 9 61 60 0 60 .auditInterval _ (by decide +kernel) rfl (by decide +kernel)).2.2.2.1
      rfl⟩,
    ⟨_, (h case66 4#8 5 9 9 8 1 8 .busBudget _ (by decide +kernel) rfl (by decide +kernel)).2.2.2.2.1 (Or.inl
      rfl)⟩,
    ⟨_, ((h sample 4#8 1 9 6 6 2 30 .relatchTime _ (by decide +kernel) rfl (by decide +kernel)).2.2.2.2.2.1
      22 (by decide +kernel)).1⟩,
    ⟨_, ((h sample 4#8 1 9 6 6 2 30 .relatchTime _ (by decide +kernel) rfl (by decide +kernel)).2.2.2.2.2.1
      22 (by decide +kernel)).2⟩,
    ⟨_, ((h sample 4#8 1 9 6 6 2 30 .relatchTime _ (by decide +kernel) rfl (by decide +kernel)).2.2.2.2.2.1 0
      (by decide +kernel)).1⟩,
    ⟨_, ((h sample 4#8 1 9 6 6 2 30 .relatchTime _ (by decide +kernel) rfl (by decide +kernel)).2.2.2.2.2.1 0
      (by decide +kernel)).2⟩,
    ⟨_, by
      refine ((h sample 4#8 1 9 6 6 2 30 .relatchTime _ ?_ rfl ?_).2.2.2.2.2.2 19 4 ?_ ?_ ?_).1
        <;> decide +kernel⟩,
    ⟨_, by
      refine ((h sample 4#8 1 9 6 6 2 30 .relatchTime _ ?_ rfl ?_).2.2.2.2.2.2 19 4 ?_ ?_ ?_).2
        <;> decide +kernel⟩⟩

theorem witness_SecurityCardsAreGrantedUnmetered (h : Obligations.SecurityCardsAreGrantedUnmetered) :
    (∃ t, exec (Instr.doorCard (4#8) (Body.fit
      { door := 5, uid := 1003, issue := (sampleCard 1003 CardClass.security [] none).issue })) sample =
      .next t) ∧
    (∃ t, exec (Instr.doorCard (4#8) (Body.fit
      { door := 5, uid := 1003, issue := (sampleCard 1003 CardClass.security [] none).issue })) case9 = .next
      t) ∧
    (∃ t, exec (Instr.doorCard (4#8) (Body.fit { door := 5, uid := 1004, issue := 2 })) case10 = .next t) :=
  ⟨⟨_, by
      refine (h sample sample sample 4#8 5 1003 3 (sampleCard 1003 .security [] none) ?_ ?_ ?_ ?_ ?_ ?_
        (Or.inl ⟨?_, rfl⟩) (Or.inl ⟨?_, ?_, rfl⟩)).1 ?_ <;> decide +kernel⟩,
    ⟨_, by
      refine (h case9 (secured (sample.setReader 5 ⟨[90], some 101⟩)) ((secured (sample.setReader 5 ⟨[90],
        some 101⟩)).raise (.override 1003 5)) 4#8 5 1003 3 (sampleCard 1003 .security [] none) ?_ ?_ ?_ ?_ ?_
        ?_ (Or.inl ⟨Or.inr ⟨101, ?_, ?_⟩, rfl⟩) (Or.inr ⟨?_, rfl⟩)).1 ?_ <;> decide +kernel⟩,
    ⟨_, by
      refine (h case10 (State.setReader (cardNow (sample.setReader 5 ⟨[90], some 100⟩) 4 fun c =>
        { c with config := { c.config with cls := .security } }) 5 ⟨[90], none⟩) (State.setReader (cardNow
        (sample.setReader 5 ⟨[90], some 100⟩) 4 fun c =>
        { c with config := { c.config with cls := .security } }) 5 ⟨[90], none⟩) 4#8 5 1004 4
        { sampleCard 1004 .guest [5] none with config := { (sampleCard 1004 .guest [5] none).config with cls := .security }, presence := .ashore, departure := some ⟨40, some 35000, some 0⟩ }
        ?_ ?_ ?_ ?_ ?_ ?_ (Or.inr ⟨⟨100, ?_, ?_⟩, rfl⟩) (Or.inl ⟨?_, ?_, rfl⟩)).2 ?_ <;> decide +kernel⟩⟩

theorem witness_CardsAreGrantedByTheChannel (h : Obligations.CardsAreGrantedByTheChannel) :
    (∃ t, exec (Instr.doorCard (4#8) (Body.fit
      { door := 5, uid := 1000, issue := (sampleCard 1000 CardClass.guest [5] none).issue })) case67 = .next
      t) ∧
    (∃ t, exec (Instr.doorCard (4#8) (Body.fit { door := 5, uid := 1004, issue := ashoreCard.issue })) case67
      = .next t) ∧
    (∃ t, exec (Instr.doorCard (4#8) (Body.fit
      { door := 5, uid := 1001, issue := (sampleCard 1001 CardClass.child [5] (some 2000)).issue })) case16 =
      .next t) ∧
    (∃ t, exec (Instr.doorCard (4#8) (Body.fit
      { door := 5, uid := 1000, issue := (sampleCard 1000 CardClass.guest [5] none).issue })) case68 = .next
      t) ∧
    (∃ t, exec (Instr.doorCard (4#8) (Body.fit
      { door := 5, uid := 1000, issue := (sampleCard 1000 CardClass.guest [5] none).issue })) case69 = .next
      t) ∧
    (∃ t, exec (Instr.doorCard (4#8) (Body.fit { door := 5, uid := 1004, issue := ashoreCard.issue })) case69
      = .next t) ∧
    (∃ t, exec (Instr.doorCard (4#8) (Body.fit
      { door := 5, uid := 1000, issue := (sampleCard 1000 CardClass.guest [5] none).issue })) case70 = .next
      t) ∧
    (∃ t, exec (Instr.doorCard (4#8) (Body.fit
      { door := 6, uid := 1002, issue := (sampleCard 1002 CardClass.crew [] none).issue })) case22 = .next t) ∧
    (∃ t, exec (Instr.doorCard (4#8) (Body.fit
      { door := 5, uid := 1000, issue := (sampleCard 1000 CardClass.guest [5] none).issue })) case71 = .next
      t) ∧
    (∃ t, exec (Instr.doorCard (4#8) (Body.fit { door := 5, uid := 1004, issue := ashoreCard.issue })) case72
      = .next t) :=
  ⟨⟨_, by
      refine (h case67 _ 4#8 5 1000 0 2 (sampleCard 1000 .guest [5] none) [] [] (fun v => v) .aboard ?_ ?_ ?_
        ?_ (Or.inl ⟨?_, rfl⟩) ?_ ?_ ?_ (Or.inl ⟨?_, ?_, fun _ => rfl⟩) ?_ ?_ (Or.inl ?_) ?_ ?_).1 ?_
        <;> decide +kernel⟩,
    ⟨_, by
      refine (h case67 _ 4#8 5 1004 4 2 ashoreCard [] [] _ .unverified ?_ ?_ ?_ ?_ (Or.inl ⟨?_, rfl⟩) ?_ ?_
        ?_ (Or.inr ⟨?_, ?_, fun _ => rfl⟩) ?_ ?_ (Or.inl ?_) ?_ ?_).1 ?_ <;> decide +kernel⟩,
    ⟨_, by
      refine (h case16 _ 4#8 5 1001 1 2 (sampleCard 1001 .child [5] (some 2000)) [] [] (fun v => v) .aboard
        ?_ ?_ ?_ ?_ (Or.inl ⟨?_, rfl⟩) ?_ ?_ ?_ (Or.inl ⟨?_, ?_, fun _ => rfl⟩) ?_ ?_ (Or.inl ?_) ?_ ?_).2.1
        .ajar ?_ (Or.inl rfl) <;> decide +kernel⟩,
    ⟨_, by
      refine (h case68 _ 4#8 5 1000 0 2 (sampleCard 1000 .guest [5] none) [] [] (fun v => v) .aboard ?_ ?_ ?_
        ?_ (Or.inl ⟨?_, rfl⟩) ?_ ?_ ?_ (Or.inl ⟨?_, ?_, fun _ => rfl⟩) ?_ ?_ (Or.inl ?_) ?_ ?_).2.2.1 (some
        101000) .satisfied (.released (some 106000) .satisfied) ?_ ?_ <;> decide +kernel⟩,
    ⟨_, by
      refine ((h case69 _ 4#8 5 1000 0 2 (sampleCard 1000 .guest [5] none) [6, 7, 8, 9, 10, 11, 12, 13] []
        (fun v => v) .aboard ?_ ?_ ?_ ?_ (Or.inl ⟨?_, rfl⟩) ?_ ?_ ?_ (Or.inl ⟨?_, ?_, fun _ => rfl⟩) ?_ ?_
        (Or.inl ?_) ?_ ?_).2.2.2 .secured ?_ (Or.inr (Or.inl rfl))).1 ?_ <;> decide +kernel⟩,
    ⟨_, by
      refine ((h case69 _ 4#8 5 1004 4 2 ashoreCard [6, 7, 8, 9, 10, 11, 12, 13] [] _ .unverified ?_ ?_ ?_ ?_
        (Or.inl ⟨?_, rfl⟩) ?_ ?_ ?_ (Or.inr ⟨?_, ?_, fun _ => rfl⟩) ?_ ?_ (Or.inl ?_) ?_ ?_).2.2.2 .secured
        ?_ (Or.inr (Or.inl rfl))).1 ?_ <;> decide +kernel⟩,
    ⟨_, by
      refine ((h case70 _ 4#8 5 1000 0 2 (sampleCard 1000 .guest [5] none) [] [99201, 99990, 99991, 99992]
        (fun v => v) .aboard ?_ ?_ ?_ ?_ (Or.inl ⟨?_, rfl⟩) ?_ ?_ ?_ (Or.inl ⟨?_, ?_, fun _ => rfl⟩) ?_ ?_
        (Or.inl ?_) ?_ ?_).2.2.2 .secured ?_ (Or.inr (Or.inl rfl))).2.1 ?_ (Or.inr ?_) <;> decide +kernel⟩,
    ⟨_, by
      refine ((h case22 _ 4#8 6 1002 2 2 (sampleCard 1002 .crew [] none) [] [] (fun v => v) .aboard ?_ ?_ ?_
        ?_ (Or.inl ⟨?_, rfl⟩) ?_ ?_ ?_ (Or.inl ⟨?_, ?_, fun _ => rfl⟩) ?_ ?_ (Or.inr ⟨⟨0, 9⟩, ⟨360, 1320⟩,
        36000, ?_⟩) ?_ ?_).2.2.2 .unknown ?_ (Or.inl rfl)).2.1 ?_ (Or.inl ?_) <;> decide +kernel⟩,
    ⟨_, by
      refine ((h case71 _ 4#8 5 1000 0 2 (sampleCard 1000 .guest [5] none) [] [99200, 99990, 99991, 99992]
        (fun v => v) .aboard ?_ ?_ ?_ ?_ (Or.inl ⟨?_, rfl⟩) ?_ ?_ ?_ (Or.inl ⟨?_, ?_, fun _ => rfl⟩) ?_ ?_
        (Or.inl ?_) ?_ ?_).2.2.2 .secured ?_ (Or.inr (Or.inl rfl))).2.2 ?_ ?_ ?_ <;> decide +kernel⟩,
    ⟨_, by
      refine ((h case72 _ 4#8 5 1004 4 2 ashoreCard [] [] _ .unverified ?_ ?_ ?_ ?_ (Or.inr ⟨⟨100, ?_, ?_⟩,
        rfl⟩) ?_ ?_ ?_ (Or.inr ⟨?_, ?_, fun _ => rfl⟩) ?_ ?_ (Or.inl ?_) ?_ ?_).2.2.2 .secured ?_ (Or.inr
        (Or.inl rfl))).2.2 ?_ ?_ ?_ <;> decide +kernel⟩⟩

theorem witness_DoorRefusalsAreMetered (h : Obligations.DoorRefusalsAreMetered) :
    (∃ t, exec (Instr.doorCard (4#8) (Body.fit { door := 5, uid := 7777, issue := 15 })) sample = .next t) ∧
    (∃ t, exec (Instr.doorCard (4#8) (Body.fit { door := 5, uid := 1000, issue := 3 })) case11 = .next t) ∧
    (∃ t, exec (Instr.doorCard (4#8) (Body.fit { door := 5, uid := 1000, issue := 1 })) sample = .next t) ∧
    (∃ t, exec (Instr.doorCard (4#8) (Body.fit { door := 5, uid := 1000, issue := 2 })) case12 = .next t) ∧
    (∃ t, exec (Instr.doorCard (4#8) (Body.fit { door := 6, uid := 1000, issue := 2 })) sample = .next t) ∧
    (∃ t, exec (Instr.doorCard (4#8) (Body.fit { door := 6, uid := 1002, issue := 2 })) case13 = .next t) ∧
    (∃ t, exec (Instr.doorCard (4#8) (Body.fit { door := 6, uid := 1002, issue := 2 })) case14 = .next t) ∧
    (∃ t, exec (Instr.doorCard (4#8) (Body.fit { door := 5, uid := 1000, issue := 2 })) case15 = .next t) :=
  ⟨⟨_, by
      refine (h sample (sample.setReader 5 ⟨[100], none⟩) sample 4#8 5 7777 15 0 (sampleCard 1000 .guest [5]
        none) [100] ?_ ?_ ?_ ?_ (Or.inl ?_) ?_ (Or.inl ⟨?_, rfl⟩)).1 ?_ (Or.inl ?_) <;> decide +kernel⟩,
    ⟨_, by
      refine (h case11 ((State.setReader (sample.setReader 5 ⟨[40, 41, 98, 99, 99], some 100⟩) 5 ⟨[], some
        130⟩).raise (.readerBlocked 5 30)) (sample.setReader 5 ⟨[40, 41, 98, 99, 99], some 100⟩) 4#8 5 1000 3
        0 (sampleCard 1000 .guest [5] none) [41, 98, 99, 99, 100] ?_ ?_ ?_ ?_ (Or.inr ⟨100, ?_, ?_⟩) ?_
        (Or.inr ⟨?_, rfl⟩)).1 ?_ (Or.inr ?_) <;> decide +kernel⟩,
    ⟨_, by
      refine (h sample ((sample.raise (.supersededCard 1000 1)).setReader 5 ⟨[100], none⟩) (sample.raise
        (.supersededCard 1000 1)) 4#8 5 1000 1 0 (sampleCard 1000 .guest [5] none) [100] ?_ ?_ ?_ ?_ (Or.inl
        ?_) ?_ (Or.inl ⟨?_, rfl⟩)).2.1 ?_ ?_ ?_ <;> decide +kernel⟩,
    ⟨_, by
      refine (h case12 ((secured sample).setReader 5 ⟨[100], none⟩) (secured sample) 4#8 5 1000 2 0
        (sampleCard 1000 .guest [5] none) [100] ?_ ?_ ?_ ?_ (Or.inl ?_) ?_ (Or.inl ⟨?_, rfl⟩)).2.2 .secured
        rfl ?_ ?_ ?_ (Or.inl ?_) <;> decide +kernel⟩,
    ⟨_, by
      refine (h sample (sample.setReader 6 ⟨[100], none⟩) sample 4#8 6 1000 2 0 (sampleCard 1000 .guest [5]
        none) [100] ?_ ?_ ?_ ?_ (Or.inl ?_) ?_ (Or.inl ⟨?_, rfl⟩)).2.2 .notThisDoor rfl ?_ ?_ ?_ (Or.inr ⟨?_,
        Or.inr (Or.inr ⟨?_, ?_, Or.inr ⟨?_, ?_, ?_, Or.inl ⟨Or.inl ?_, rfl⟩⟩⟩)⟩) <;> decide +kernel⟩,
    ⟨_, by
      refine (h case13 ({ sample with clock := { sample.clock with shipTime := some 79200 } }.setReader 6
        ⟨[100], none⟩) { sample with clock := { sample.clock with shipTime := some 79200 } } 4#8 6 1002 2 2
        (sampleCard 1002 .crew [] none) [100] ?_ ?_ ?_ ?_ (Or.inl ?_) ?_ (Or.inl ⟨?_, rfl⟩)).2.2 .hours rfl
        ?_ ?_ ?_ (Or.inr ⟨?_, Or.inr (Or.inr ⟨?_, ?_, Or.inr ⟨?_, ?_, ?_, Or.inr ⟨?_, ⟨⟨0, 9⟩, ?_⟩, Or.inl
        ⟨Or.inr (Or.inr ⟨⟨360, 1320⟩, 79200, ?_⟩), rfl⟩⟩⟩⟩)⟩) <;> decide +kernel⟩,
    ⟨_, by
      refine (h case14 ((sample.setChannel 6 { Channel.start with dnd := true }).setReader 6 ⟨[100], none⟩)
        (sample.setChannel 6 { Channel.start with dnd := true }) 4#8 6 1002 2 2 (sampleCard 1002 .crew []
        none) [100] ?_ ?_ ?_ ?_ (Or.inl ?_) ?_ (Or.inl ⟨?_, rfl⟩)).2.2 .privacy rfl ?_ ?_ ?_ (Or.inr ⟨?_,
        Or.inr (Or.inr ⟨?_, ?_, Or.inr ⟨?_, ?_, ?_, Or.inr ⟨?_, ⟨⟨0, 9⟩, ?_⟩, Or.inr ⟨⟨⟨360, 1320⟩, 36000,
        ?_⟩, ?_, rfl⟩⟩⟩⟩)⟩) <;> decide +kernel⟩,
    ⟨_, by
      refine (h case15 ({ sample with clock := { sample.clock with shipDay := 11 } }.setReader 5 ⟨[100],
        none⟩) { sample with clock := { sample.clock with shipDay := 11 } } 4#8 5 1000 2 0 (sampleCard 1000
        .guest [5] none) [100] ?_ ?_ ?_ ?_ (Or.inl ?_) ?_ (Or.inl ⟨?_, rfl⟩)).2.2 .expired rfl ?_ ?_ ?_
        (Or.inr ⟨?_, Or.inr (Or.inr ⟨?_, ?_, Or.inl ?_⟩)⟩) <;> decide +kernel⟩⟩

theorem witness_UnknownAndBlockedDoorsChangeNothing (h : Obligations.UnknownAndBlockedDoorsChangeNothing) :
    (∃ t, exec (Instr.doorCard (4#8) (Body.fit { door := 4096, uid := 1000, issue := 15 })) sample = .next t) ∧
    (∃ t, exec (Instr.doorCard (4#8) (Body.fit { door := 5, uid := 1000, issue := 16 })) sample = .next t) ∧
    (∃ t, exec (Instr.doorCard (4#8) (Body.fit { door := 4095, uid := 1000, issue := 15 })) sample = .next t) ∧
    (∃ t, exec (Instr.doorCard (4#8) (Body.fit { door := 5, uid := 1000, issue := 3 })) case73 = .next t) ∧
    (∃ t, exec (Instr.doorCard (4#8) (Body.fit { door := 5, uid := 1000, issue := 2 })) case73 = .next t) ∧
    (∃ t, exec (Instr.doorReport (4#8) (Body.fit
      { door := 4095, contact := 1, latch := 1, dnd := 1, cause := 1 })) sample = .next t) ∧
    (∃ t, exec (Instr.doorReport (4#8) (Body.fit
      { door := 4095, contact := 1, latch := 2, dnd := 1, cause := 1 })) sample = .next t) :=
  ⟨⟨_, (h sample 4#8 4096 1000 15 0 0 (sampleCard 1000 .guest [5] none) (by decide +kernel)).1 (Or.inl
      (by decide +kernel))⟩,
    ⟨_, (h sample 4#8 5 1000 16 0 0 (sampleCard 1000 .guest [5] none) (by decide +kernel)).1 (Or.inr
      (by decide +kernel))⟩,
    ⟨_, by
      refine (h sample 4#8 4095 1000 15 0 0 (sampleCard 1000 .guest [5] none) ?_).2.1 ?_ ?_ ?_
        <;> decide +kernel⟩,
    ⟨_, by
      refine ((h case73 4#8 5 1000 3 0 101 (sampleCard 1000 .guest [5] none) ?_).2.2.1 ?_ ?_ ?_ ?_ ?_).1
        (Or.inr ?_) <;> decide +kernel⟩,
    ⟨_, by
      refine ((h case73 4#8 5 1000 2 0 101 (sampleCard 1000 .guest [5] none) ?_).2.2.1 ?_ ?_ ?_ ?_ ?_).2 ?_
        ?_ ?_ <;> decide +kernel⟩,
    ⟨_, ((h sample 4#8 4095 1000 15 0 0 (sampleCard 1000 .guest [5] none) (by decide +kernel)).2.2.2 ⟨4095,
      1, 1, 1, 1⟩).1 (by decide +kernel) (by decide +kernel)⟩,
    ⟨_, ((h sample 4#8 4095 1000 15 0 0 (sampleCard 1000 .guest [5] none) (by decide +kernel)).2.2.2 ⟨4095,
      1, 2, 1, 1⟩).2 (by decide +kernel)⟩⟩

theorem witness_DoorReportsMoveTheChannel (h : Obligations.DoorReportsMoveTheChannel) :
    (∃ t, exec (Instr.doorReport (4#8) (Body.fit
      { door := 5, contact := 0, latch := 1, dnd := 1, cause := 1 })) case16 = .next t) ∧
    (∃ t, exec (Instr.doorReport (4#8) (Body.fit
      { door := 5, contact := 0, latch := 0, dnd := 1, cause := 1 })) case17 = .next t) ∧
    (∃ t, exec (Instr.doorReport (4#8) (Body.fit
      { door := 5, contact := 0, latch := 0, dnd := 1, cause := 0 })) case18 = .next t) ∧
    (∃ t, exec (Instr.doorReport (4#8) (Body.fit
      { door := 5, contact := 1, latch := 0, dnd := 0, cause := 0 })) case19 = .next t) ∧
    (∃ t, exec (Instr.doorReport (4#8) (Body.fit
      { door := 5, contact := 1, latch := 0, dnd := 0, cause := 0 })) case20 = .next t) ∧
    (∃ t, exec (Instr.doorReport (4#8) (Body.fit
      { door := 5, contact := 1, latch := 1, dnd := 0, cause := 0 })) case21 = .next t) ∧
    (∃ t, exec (Instr.doorReport (4#8) (Body.fit
      { door := 5, contact := 1, latch := 1, dnd := 0, cause := 0 })) sample = .next t) ∧
    (∃ t, exec (Instr.doorReport (4#8) (Body.fit
      { door := 5, contact := 1, latch := 1, dnd := 0, cause := 0 })) case22 = .next t) :=
  ⟨⟨_, by
      refine ((h case16 4#8 5 1 1 true true { (atDoor 5 .ajar).channel 5 with dnd := true } ?_ ?_ ?_ ?_ ?_ ?_
        ?_).1 1 .unlatched ?_).1 .ajar ?_ (Or.inl rfl) <;> decide +kernel⟩,
    ⟨_, by
      refine ((h case17 4#8 5 1 1 true true { (atDoor 5 .fault).channel 5 with dnd := true } ?_ ?_ ?_ ?_ ?_
        ?_ ?_).1 0 .latched ?_).2.1 (.opened 190000) ?_ (Or.inr (Or.inr (Or.inl ?_))) <;> decide +kernel⟩,
    ⟨_, by
      refine ((h case18 4#8 5 1 0 true false
        { (State.setBus (atDoor 5 .pending) 2 ⟨[6, 5], []⟩).channel 5 with dnd := true } ?_ ?_ ?_ ?_ ?_ ?_
        ?_).1 0 .latched ?_).2.2 (.opened 190000) 2 ?_ ?_ ?_ <;> decide +kernel⟩,
    ⟨_, by
      refine (h case19 4#8 5 0 0 false false ((atDoor 5 (.released none .awaitingFetch)).channel 5) ?_ ?_ ?_
        ?_ ?_ ?_ ?_).2.1 (Or.inr ⟨none, .awaitingFetch, ?_⟩) <;> decide +kernel⟩,
    ⟨_, by
      refine (h case20 4#8 5 0 0 false false ((atDoor 5 (.released none .satisfied)).channel 5) ?_ ?_ ?_ ?_
        ?_ ?_ ?_).2.2.1 ⟨?_, Or.inr (Or.inr ⟨none, ?_⟩)⟩ <;> decide +kernel⟩,
    ⟨_, by
      refine (h case21 4#8 5 0 0 false false ((atDoor 5 (.released (some 9) .awaitingFetch)).channel 5) ?_ ?_
        ?_ ?_ ?_ ?_ ?_).2.2.2.1 (.released (some 9) .satisfied) (Or.inr ⟨some 9, .awaitingFetch, ?_⟩)
        <;> decide +kernel⟩,
    ⟨_, by
      refine ((h sample 4#8 5 0 0 false false (sample.channel 5) ?_ ?_ ?_ ?_ ?_ ?_ ?_).2.2.2.2 (Or.inl ?_)).1
        ?_ <;> decide +kernel⟩,
    ⟨_, by
      refine ((h case22 4#8 5 0 0 false false (sample.channel 5) ?_ ?_ ?_ ?_ ?_ ?_ ?_).2.2.2.2 (Or.inl ?_)).2
        ?_ <;> decide +kernel⟩⟩

theorem witness_OrderFetchDeliversTheOldestOrders (h : Obligations.OrderFetchDeliversTheOldestOrders) :
    (∃ t, exec (Instr.orderFetch (4#8) (Body.fit ())) sample = .next t) ∧
    (∃ t, exec (Instr.orderFetch (4#8) (Body.fit ())) orderedDoors = .next t) ∧
    (∃ t, (atDoor 5 (ChannelState.released (some 9) StrikeConfirm.awaitingFetch)).deliver
      { kind := OrderKind.strike, door := 5, placedAt := 1 } = t) ∧
    (∃ t, (atDoor 5 (ChannelState.relatching RelatchConfirm.awaitingFetch)).deliver
      { kind := OrderKind.relatch, door := 5, placedAt := 1 } = t) ∧
    (sample.deliver { kind := OrderKind.strike, door := 5, placedAt := 1 } = sample) ∧
    (sample.deliver { kind := OrderKind.relatch, door := 5, placedAt := 1 } = sample) ∧
    (sample.deliver { kind := OrderKind.poll, door := 5, placedAt := 1 } = sample) ∧
    (∃ t, (sample.setChannel 6 (let __src := Channel.start;
      { state := __src.state, dnd := __src.dnd, lastReport := __src.lastReport, relatchOwed := true, pollOutstanding := __src.pollOutstanding, missCount := __src.missCount })).serveOwed
      6 = t) ∧
    (∃ t, (fullOrders (sample.setChannel 6 (let __src := Channel.start;
      { state := __src.state, dnd := __src.dnd, lastReport := __src.lastReport, relatchOwed := true, pollOutstanding := __src.pollOutstanding, missCount := __src.missCount }))).serveOwed
      6 = t) ∧
    (∃ t, exec (Instr.orderFetch (4#8) (Body.fit ())) case74 = .next t) ∧
    (∃ t, exec (Instr.orderFetch (4#8) (Body.fit ())) case75 = .next t) ∧
    (∃ t, exec (Instr.orderFetch (4#8) (Body.fit ())) case76 = .next t) :=
  ⟨⟨_, (h sample _ _ _ 4#8 _ (by decide +kernel) rfl rfl rfl rfl).1 (by decide +kernel)⟩,
    ⟨_, ((h orderedDoors _ _ _ 4#8 _ (by decide +kernel) rfl rfl rfl rfl).2.1 (by decide +kernel)
      (by decide +kernel)).1⟩,
    ⟨_, ((h sample _ _ _ 4#8 _ (by decide +kernel) rfl rfl rfl rfl).2.2.1 (atDoor 5 (.released (some 9)
      .awaitingFetch)) 5 1).1 (some 9) (by decide +kernel)⟩,
    ⟨_, ((h sample _ _ _ 4#8 _ (by decide +kernel) rfl rfl rfl rfl).2.2.1 (atDoor 5 (.relatching
      .awaitingFetch)) 5 1).2.1 (by decide +kernel)⟩,
    ((h sample _ _ _ 4#8 _ (by decide +kernel) rfl rfl rfl rfl).2.2.1 sample 5 1).2.2.1 (fun t e => nomatch
      e.symm.trans (show (sample.channel 5).state = .secured by decide +kernel)),
    ((h sample _ _ _ 4#8 _ (by decide +kernel) rfl rfl rfl rfl).2.2.1 sample 5 1).2.2.2.1 (by decide +kernel),
    ((h sample _ _ _ 4#8 _ (by decide +kernel) rfl rfl rfl rfl).2.2.1 sample 5 1).2.2.2.2.1,
    ⟨_, ((h sample _ _ _ 4#8 _ (by decide +kernel) rfl rfl rfl rfl).2.2.1 (sample.setChannel 6
      { Channel.start with relatchOwed := true }) 6 1).2.2.2.2.2.1 (by decide +kernel) (by decide +kernel)⟩,
    ⟨_, ((h sample _ _ _ 4#8 _ (by decide +kernel) rfl rfl rfl rfl).2.2.1 (fullOrders (sample.setChannel 6
      { Channel.start with relatchOwed := true })) 6 1).2.2.2.2.2.2 (Or.inl (by decide +kernel))⟩,
    ⟨_, by
      refine (h case74 _ _ _ 4#8 _ ?_ rfl rfl rfl rfl).2.2.2.1 .strike 5 1 (.released (some 9) (.running
        103000)) ?_ ?_ ?_ (Or.inl ⟨rfl, some 9, ?_⟩) <;> decide +kernel⟩,
    ⟨_, by
      refine (h case75 _ _ _ 4#8 _ ?_ rfl rfl rfl rfl).2.2.2.1 .relatch 5 1 (.relatching (.running 105000))
        ?_ ?_ ?_ (Or.inr ?_) <;> decide +kernel⟩,
    ⟨_, by
      refine (h case76 _ _ _ 4#8 _ ?_ rfl rfl rfl rfl).2.2.2.2 5 1 ?_ ?_ ?_ <;> decide +kernel⟩⟩

theorem witness_ChannelTimersMoveTheirDoor (h : Obligations.ChannelTimersMoveTheirDoor) :
    (∃ t, exec (Instr.relatchTimerExpiry 5) case23 = .next t) ∧
    (∃ t, exec (Instr.relatchTimerExpiry 5) case24 = .next t) ∧
    (∃ t, exec (Instr.strikeConfirmExpiry 5) case25 = .next t) ∧
    (∃ t, exec (Instr.ajarTimerExpiry 5) case26 = .next t) ∧
    (∃ t, exec (Instr.relatchConfirmExpiry 5) case27 = .next t) ∧
    (sample.advanceTo 100000 = sample) ∧
    ((sample.advanceTo 100001).clock.ms = 100001) :=
  ⟨⟨_, by
      refine ((h case23 ((atDoor 5 (.released (some 100500) .satisfied)).advanceTo 100500) 5 100500 ?_ ?_
        rfl).1 .satisfied ?_).1 ?_ <;> decide +kernel⟩,
    ⟨_, by
      refine ((h case24 ((fullOrders (atDoor 5 (.released (some 100500) .satisfied))).advanceTo 100500) 5
        100500 ?_ ?_ rfl).1 .satisfied ?_).2 ?_ <;> decide +kernel⟩,
    ⟨_, (h case25 ((atDoor 5 (.released (some 9) (.running 101000))).advanceTo 101000) 5 101000
      (by decide +kernel) (by decide +kernel) rfl).2.1 (some 9) (by decide +kernel)⟩,
    ⟨_, (h case26 ((atDoor 5 (.opened 101000)).advanceTo 101000) 5 101000 (by decide +kernel)
      (by decide +kernel) rfl).2.2.1 (by decide +kernel)⟩,
    ⟨_, (h case27 ((atDoor 5 (.relatching (.running 9))).advanceTo 9) 5 9 (by decide +kernel)
      (by decide +kernel) rfl).2.2.2.1 (by decide +kernel)⟩,
    (h sample (sample.advanceTo 100000) 5 100000 (by decide +kernel) (by decide +kernel) rfl).2.2.2.2.1
      (by decide +kernel),
    (h sample (sample.advanceTo 100001) 5 100001 (by decide +kernel) (by decide +kernel) rfl).2.2.2.2.2
      (by decide +kernel)⟩

theorem witness_AuditStepsPollSecuredDoors (h : Obligations.AuditStepsPollSecuredDoors) :
    (∃ t, exec Instr.auditStep case22 = .next t) ∧
    (∃ t, exec Instr.auditStep case28 = .next t) ∧
    (∃ t, exec Instr.auditStep case29 = .next t) ∧
    (∃ t, exec Instr.auditStep case30 = .next t) :=
  ⟨⟨_, by
      refine (h case22
        { (fullOrders sample) with doorUnit := { sample.doorUnit with auditNext := some 101 } } 100 ?_ ?_ ?_
        ?_ ?_).1 (Or.inr (Or.inl ?_)) <;> decide +kernel⟩,
    ⟨_, by
      refine ((h case28
        { sample with doorUnit := { sample.doorUnit with auditPointer := 6, auditNext := some 101 } } 100 ?_
        ?_ ?_ ?_ ?_).2 5 ?_ ?_ ?_ ?_ ?_).1 ?_ <;> decide +kernel⟩,
    ⟨_, by
      refine ((h case29
        { (sample.setChannel 5 ⟨.secured, false, none, false, true, 1⟩) with doorUnit := { (sample.setChannel 5 ⟨.secured, false, none, false, true, 1⟩).doorUnit with auditNext := some 101 } }
        100 ?_ ?_ ?_ ?_ ?_).2 5 ?_ ?_ ?_ ?_ ?_).2.1 ?_ ?_ <;> decide +kernel⟩,
    ⟨_, by
      refine ((h case30
        { (sample.setChannel 5 ⟨.secured, false, none, false, true, 2⟩) with doorUnit := { (sample.setChannel 5 ⟨.secured, false, none, false, true, 2⟩).doorUnit with auditNext := some 101 } }
        100 ?_ ?_ ?_ ?_ ?_).2 5 ?_ ?_ ?_ ?_ ?_).2.2 ?_ ?_ <;> decide +kernel⟩⟩

theorem witness_BusesReleaseUntilNoneMay (h : Obligations.BusesReleaseUntilNoneMay) :
    (case124.mayRelease 2 = true ↔ (case124.bus 2).queue ≠ [] ∧ (List.filter (fun t => decide
      (case124.clock.ms - t < case124.store.settings.busWindow)) (case124.bus 2).history).length <
      case124.store.settings.busBudget ∧ case124.scheduler.orders.length < 64) ∧
    (∃ t, case124.release 2 = t) ∧
    (case124.consider 2 = (case124.release 2).consider 2) ∧
    (case125.consider 2 = case125) ∧
    ((case124.consider 2).mayRelease 2 = false) ∧
    (case124.considerAll.mayRelease 2 = false) ∧
    (case126.considerAll = (case126.release 0).considerAll) ∧
    (case127.considerAll = (case127.release 14).considerAll) ∧
    (sample.considerAll = sample) ∧
    (∃ t, exec (Instr.busWindowAgeOut 2) case128 = .next t) ∧
    (∃ t, exec (Instr.busWindowAgeOut 2) case129 = .next t) ∧
    (∃ t, exec (Instr.busWindowAgeOut 2) case130 = .next t) ∧
    (∃ t, exec (Instr.busWindowAgeOut 2) case131 = .next t) :=
  ⟨(h case124 2).1,
    ⟨_, (h case124 2).2.1 5 [6] [1, 2, 3, 4, 5, 6, 7, 8] (by decide +kernel) (by decide +kernel)⟩,
    (h case124 2).2.2.1 (by decide +kernel),
    (h case125 2).2.2.2.1 (by decide +kernel),
    (h case124 2).2.2.2.2.1,
    (h case124 2).2.2.2.2.2.1 (by decide +kernel),
    by
      refine (h case126 0).2.2.2.2.2.2.1 1 ?_ ?_ ?_ ?_ <;> decide +kernel,
    by
      refine (h case127 14).2.2.2.2.2.2.1 15 ?_ ?_ ?_ ?_ <;> decide +kernel,
    (h sample 2).2.2.2.2.2.2.2.1 (by decide +kernel),
    ⟨_, by
      refine (h case128 2).2.2.2.2.2.2.2.2.1 [90000] 99201 [99500] ?_ ?_ ?_ ?_ ?_ <;> decide +kernel⟩,
    ⟨_, (h case129 2).2.2.2.2.2.2.2.2.2.1 (by decide +kernel) (by decide +kernel)⟩,
    ⟨_, (h case130 2).2.2.2.2.2.2.2.2.2.2.1 (by decide +kernel) (by decide +kernel) (by decide +kernel)⟩,
    ⟨_, by
      refine (h case131 2).2.2.2.2.2.2.2.2.2.2.2 5 99201 (State.advanceTo (State.setBus (tuned sample fun v
        => { v with busBudget := 1 }) 2 ⟨[5], [99201]⟩) 100001) ?_ ?_ ?_ ?_ ?_ ?_ rfl <;> decide +kernel⟩⟩

theorem witness_LineAmountsAddUp (h : Obligations.LineAmountsAddUp) :
    ((sumAll (sample.linesSums (sampleCard 1000 .guest [5] none) 4 [⟨1, 1399, 3⟩, ⟨2, 500, 99⟩])).units ≤ 4) :=
  (h sample (sampleCard 1000 .guest [5] none) 4 ⟨1, 1399, 2⟩ [⟨1, 1399, 3⟩, ⟨2, 500, 99⟩] (sample.linesSums
    (sampleCard 1000 .guest [5] none) 4 [⟨1, 1399, 3⟩, ⟨2, 500, 99⟩]) (sumAll (sample.linesSums (sampleCard
    1000 .guest [5] none) 4 [⟨1, 1399, 3⟩, ⟨2, 500, 99⟩])) (sample.lineSums (sampleCard 1000 .guest [5] none)
    4 ⟨1, 1399, 2⟩) rfl rfl rfl).2.2.2.1

theorem witness_ChargesPostOrAreRefused (h : Obligations.ChargesPostOrAreRefused) :
    (∃ t, exec (Instr.charge (4#8) (Body.fit
      { terminal := 63, uid := 1001, issue := 2, lines := [{ category := 0, unitPrice := 2000, quantity := 1 }, { category := 0, unitPrice := 1, quantity := 1 }] }))
      sample = .next t) ∧
    (∃ t, exec (Instr.charge (4#8) (Body.fit
      { terminal := 63, uid := 1000, issue := 2, lines := [{ category := 0, unitPrice := 92801, quantity := 1 }] }))
      sample = .next t) ∧
    (∃ t, exec (Instr.charge (4#8) (Body.fit
      { terminal := 63, uid := 1000, issue := 2, lines := [{ category := 0, unitPrice := 92800, quantity := 1 }] }))
      case31 = .next t) ∧
    (∃ t, exec (Instr.charge (4#8) (Body.fit
      { terminal := 63, uid := 1000, issue := 2, lines := [{ category := 1, unitPrice := 1399, quantity := 2 }] }))
      case32 = .next t) :=
  ⟨⟨_, by
      refine (h sample sample 4#8 ⟨63, 1001, 2, [⟨0, 2000, 1⟩, ⟨0, 1, 1⟩]⟩ 1 0 (sampleCard 1001 .child [5]
        (some 2000)) ⟨500, 100000, .opened, 200, 7000, 1, some 50⟩ (sample.linesSums (sampleCard 1001 .child
        [5] (some 2000)) 4 [⟨0, 2000, 1⟩, ⟨0, 1, 1⟩]) (sumAll (sample.linesSums (sampleCard 1001 .child [5]
        (some 2000)) 4 [⟨0, 2000, 1⟩, ⟨0, 1, 1⟩])) ?_ ?_ ?_ ?_ ?_ ?_ ?_ ?_ ?_ rfl).1 2000 ?_ ?_ ?_
        <;> decide +kernel⟩,
    ⟨_, by
      refine ((h sample sample 4#8 ⟨63, 1000, 2, [⟨0, 92801, 1⟩]⟩ 0 0 (sampleCard 1000 .guest [5] none) ⟨500,
        100000, .opened, 200, 7000, 1, some 50⟩ (sample.linesSums (sampleCard 1000 .guest [5] none) 4 [⟨0,
        92801, 1⟩]) (sumAll (sample.linesSums (sampleCard 1000 .guest [5] none) 4 [⟨0, 92801, 1⟩])) ?_ ?_ ?_
        ?_ ?_ ?_ ?_ ?_ ?_ rfl).2 (Or.inl ?_)).1 ?_ <;> decide +kernel⟩,
    ⟨_, by
      refine ((h case31 sample 4#8 ⟨63, 1000, 2, [⟨0, 92800, 1⟩]⟩ 0 0 (sampleCard 1000 .guest [5] none) ⟨500,
        100000, .opened, 200, 7000, 1, some 50⟩ (sample.linesSums (sampleCard 1000 .guest [5] none) 4 [⟨0,
        92800, 1⟩]) (sumAll (sample.linesSums (sampleCard 1000 .guest [5] none) 4 [⟨0, 92800, 1⟩])) ?_ ?_ ?_
        ?_ ?_ ?_ ?_ ?_ ?_ rfl).2 (Or.inl ?_)).2.1 ?_ ?_ <;> decide +kernel⟩,
    ⟨_, by
      refine ((h case32
        { (tuned sample fun v => { v with highWater := 5 }) with store := { (tuned sample fun v => { v with highWater := 5 }).store with cards := Table.put sampleCards 0 { sampleCard 1000 .guest [5] none with allowanceUsed := 2, daySpent := 974 }, accounts := [(0, ⟨500, 100000, .opened, 1174, 7000, 1, some 50⟩)] }, engine := { sample.engine with postings := sample.engine.postings ++ [⟨11, .charge, 63, 1000, 2, 500, 1, some 36000, 1, ⟨2798, 2000, 2, 120, 56, 974⟩, false, false, 100, true⟩], nextPosting := 12, highWaterArmed := false } }
        4#8 ⟨63, 1000, 2, [⟨1, 1399, 2⟩]⟩ 0 0 (sampleCard 1000 .guest [5] none) ⟨500, 100000, .opened, 200,
        7000, 1, some 50⟩ (sample.linesSums (sampleCard 1000 .guest [5] none) 4 [⟨1, 1399, 2⟩]) (sumAll
        (sample.linesSums (sampleCard 1000 .guest [5] none) 4 [⟨1, 1399, 2⟩])) ?_ ?_ ?_ ?_ ?_ ?_ ?_ ?_ ?_
        rfl).2 (Or.inl ?_)).2.2 ?_ ?_ ?_ <;> decide +kernel⟩⟩

theorem witness_ChargesAreRefusedInOrder (h : Obligations.ChargesAreRefusedInOrder) :
    (∃ t, exec (Instr.charge (4#8) (Body.fit { terminal := 63, uid := 1000, issue := 2, lines := [] }))
      case12 = .next t) ∧
    (∃ t, exec (Instr.charge (4#8) (Body.fit { terminal := 63, uid := 1000, issue := 2, lines := [] }))
      sample = .next t) ∧
    (∃ t, exec (Instr.charge (4#8) (Body.fit
      { terminal := 63, uid := 1009, issue := 15, lines := [{ category := 15, unitPrice := 99999, quantity := 99 }] }))
      sample = .next t) ∧
    (∃ t, exec (Instr.charge (4#8) (Body.fit
      { terminal := 63, uid := 1000, issue := 1, lines := [{ category := 15, unitPrice := 0, quantity := 1 }] }))
      sample = .next t) ∧
    (∃ t, exec (Instr.charge (4#8) (Body.fit
      { terminal := 3, uid := 1004, issue := 2, lines := [{ category := 15, unitPrice := 0, quantity := 1 }] }))
      sample = .next t) ∧
    (∃ t, exec (Instr.charge (4#8) (Body.fit
      { terminal := 3, uid := 1001, issue := 2, lines := [{ category := 0, unitPrice := 0, quantity := 1 }, { category := 1, unitPrice := 5, quantity := 1 }] }))
      sample = .next t) :=
  ⟨⟨_, h case12 (secured sample) 4#8 ⟨63, 1000, 2, []⟩ (.outcome .secured) (by decide +kernel)
      (by decide +kernel) (Or.inl ⟨rfl, (by decide +kernel), rfl⟩)⟩,
    ⟨_, by
      refine h sample sample 4#8 ⟨63, 1000, 2, []⟩ (.refused .range) ?_ ?_ (Or.inr ⟨?_, Or.inl ⟨rfl, Or.inr
        (Or.inr ?_), rfl⟩⟩) <;> decide +kernel⟩,
    ⟨_, by
      refine h sample sample 4#8 ⟨63, 1009, 15, [⟨15, 99999, 99⟩]⟩ (.outcome .unknownCard) ?_ ?_ (Or.inr ⟨?_,
        Or.inr ⟨?_, ?_, ?_, Or.inl ⟨rfl, ?_, rfl⟩⟩⟩) <;> decide +kernel⟩,
    ⟨_, by
      refine h sample (sample.raise (.supersededCard 1000 1)) 4#8 ⟨63, 1000, 1, [⟨15, 0, 1⟩]⟩ (.outcome
        .superseded) ?_ ?_ (Or.inr ⟨?_, Or.inr ⟨?_, ?_, ?_, Or.inr ⟨0, sampleCard 1000 .guest [5] none, ?_,
        Or.inr (Or.inl ⟨rfl, ?_, rfl⟩)⟩⟩⟩) <;> decide +kernel⟩,
    ⟨_, by
      refine h sample (sample.raise (.presence 1004 3)) 4#8 ⟨3, 1004, 2, [⟨15, 0, 1⟩]⟩ (.outcome .presence)
        ?_ ?_ (Or.inr ⟨?_, Or.inr ⟨?_, ?_, ?_, Or.inr ⟨4, (Table.find sampleCards 4).getD (sampleCard 0
        .guest [] none), ?_, Or.inr (Or.inr ⟨?_, 0, ⟨500, 100000, .opened, 200, 7000, 1, some 50⟩, ?_, Or.inr
        (Or.inr (Or.inl ⟨rfl, ?_, rfl⟩))⟩)⟩⟩⟩) <;> decide +kernel⟩,
    ⟨_, by
      refine h sample sample 4#8 ⟨3, 1001, 2, [⟨0, 0, 1⟩, ⟨1, 5, 1⟩]⟩ (.alcoholLine 2) ?_ ?_ (Or.inr ⟨?_,
        Or.inr ⟨?_, ?_, ?_, Or.inr ⟨1, sampleCard 1001 .child [5] (some 2000), ?_, Or.inr (Or.inr ⟨?_, 0,
        ⟨500, 100000, .opened, 200, 7000, 1, some 50⟩, ?_, Or.inr (Or.inr (Or.inr ⟨rfl, Or.inl ?_, Or.inr
        ⟨?_, ?_, Or.inr ⟨?_, Or.inr ⟨?_, ?_, [⟨0, 0, 1⟩], ⟨1, 5, 1⟩, [], ?_, ?_, ?_, ?_⟩⟩⟩⟩))⟩)⟩⟩⟩)
        <;> decide +kernel⟩⟩

theorem witness_TabsOpenInTheLowestFreeSlot (h : Obligations.TabsOpenInTheLowestFreeSlot) :
    (∃ t, exec (Instr.tabOpen (4#8) (Body.fit { terminal := 63, uid := 1000, issue := 2, hold := 0 })) case12
      = .next t) ∧
    (∃ t, exec (Instr.tabOpen (4#8) (Body.fit { terminal := 63, uid := 1000, issue := 2, hold := 10000001 }))
      sample = .next t) ∧
    (∃ t, exec (Instr.tabOpen (4#8) (Body.fit { terminal := 63, uid := 2000, issue := 2, hold := 10000000 }))
      sample = .next t) ∧
    (∃ t, exec (Instr.tabOpen (4#8) (Body.fit { terminal := 63, uid := 1000, issue := 3, hold := 10000000 }))
      sample = .next t) ∧
    (∃ t, exec (Instr.tabOpen (4#8) (Body.fit { terminal := 63, uid := 1000, issue := 1, hold := 10000000 }))
      sample = .next t) ∧
    (∃ t, exec (Instr.tabOpen (4#8) (Body.fit { terminal := 63, uid := 1004, issue := 2, hold := 10000000 }))
      sample = .next t) ∧
    (∃ t, exec (Instr.tabOpen (4#8) (Body.fit { terminal := 63, uid := 1000, issue := 2, hold := 0 })) case77
      = .next t) ∧
    (∃ t, exec (Instr.tabOpen (4#8) (Body.fit { terminal := 63, uid := 1000, issue := 2, hold := 0 })) case78
      = .next t) ∧
    (∃ t, exec (Instr.tabOpen (4#8) (Body.fit { terminal := 63, uid := 1000, issue := 2, hold := 0 })) case79
      = .next t) ∧
    (∃ t, exec (Instr.tabOpen (4#8) (Body.fit { terminal := 63, uid := 1000, issue := 2, hold := 92801 }))
      sample = .next t) ∧
    (∃ t, exec (Instr.tabOpen (4#8) (Body.fit { terminal := 63, uid := 1000, issue := 2, hold := 92800 }))
      sample = .next t) ∧
    (∃ t, exec (Instr.tabOpen (4#8) (Body.fit { terminal := 0, uid := 1000, issue := 2, hold := 0 })) sample
      = .next t) :=
  ⟨⟨_, (h case12 4#8 ⟨63, 1000, 2, 0⟩).1 _ (.outcome .secured) (by decide +kernel) (by decide +kernel)
      (Or.inl ⟨rfl, (by decide +kernel), rfl⟩)⟩,
    ⟨_, by
      refine (h sample 4#8 ⟨63, 1000, 2, 10000001⟩).1 _ (.refused .range) ?_ ?_ (Or.inr ⟨?_, Or.inl ⟨rfl, ?_,
        rfl⟩⟩) <;> decide +kernel⟩,
    ⟨_, by
      refine (h sample 4#8 ⟨63, 2000, 2, 10000000⟩).1 _ (.outcome .unknownCard) ?_ ?_ (Or.inr ⟨?_, Or.inr
        ⟨?_, ?_, ?_, ?_, Or.inl (Or.inl ⟨rfl, ?_, rfl⟩)⟩⟩) <;> decide +kernel⟩,
    ⟨_, by
      refine (h sample 4#8 ⟨63, 1000, 3, 10000000⟩).1 _ (.outcome .unknownCard) ?_ ?_ (Or.inr ⟨?_, Or.inr
        ⟨?_, ?_, ?_, ?_, Or.inl (Or.inr ⟨0, sampleCard 1000 .guest [5] none, ?_, Or.inl ⟨rfl, ?_, rfl⟩⟩)⟩⟩)
        <;> decide +kernel⟩,
    ⟨_, by
      refine (h sample 4#8 ⟨63, 1000, 1, 10000000⟩).1 _ (.outcome .superseded) ?_ ?_ (Or.inr ⟨?_, Or.inr ⟨?_,
        ?_, ?_, ?_, Or.inl (Or.inr ⟨0, sampleCard 1000 .guest [5] none, ?_, Or.inr ⟨rfl, ?_, rfl⟩⟩)⟩⟩)
        <;> decide +kernel⟩,
    ⟨_, by
      refine (h sample 4#8 ⟨63, 1004, 2, 10000000⟩).1 _ (.outcome .presence) ?_ ?_ (Or.inr ⟨?_, Or.inr ⟨?_,
        ?_, ?_, ?_, Or.inr ⟨4, ashoreCard, 0, ⟨500, 100000, .opened, 200, 7000, 1, some 50⟩, ?_, ?_, ?_,
        Or.inr (Or.inr (Or.inl ⟨rfl, ?_, rfl⟩))⟩⟩⟩) <;> decide +kernel⟩,
    ⟨_, by
      refine (h case77 4#8 ⟨63, 1000, 2, 0⟩).1 _ (.outcome .frozen) ?_ ?_ (Or.inr ⟨?_, Or.inr ⟨?_, ?_, ?_,
        ?_, Or.inr ⟨0, sampleCard 1000 .guest [5] none, 0, ⟨500, 100000, .frozen, 200, 7000, 1, some 50⟩, ?_,
        ?_, ?_, Or.inr (Or.inr (Or.inr ⟨rfl, Or.inl ?_, Or.inr ⟨?_, ?_, Or.inr ⟨?_, Or.inl ?_⟩⟩⟩))⟩⟩⟩)
        <;> decide +kernel⟩,
    ⟨_, by
      refine ((h case78 4#8 ⟨63, 1000, 2, 0⟩).2 0 0 5000 (sampleCard 1000 .guest [5] none) ⟨500, 100000,
        .opened, 200, 7000, 1, some 50⟩ ?_ ?_ ?_ ?_ ?_ ?_ ?_ ?_ ?_ ?_).1 ?_ <;> decide +kernel⟩,
    ⟨_, by
      refine (((h case79 4#8 ⟨63, 1000, 2, 0⟩).2 0 0 5000 (sampleCard 1000 .guest [5] none) ⟨500, 100000,
        .opened, 200, 7000, 2, some 50⟩ ?_ ?_ ?_ ?_ ?_ ?_ ?_ ?_ ?_ ?_).2 1 ?_ ?_ ?_).1 (Or.inl ?_)
        <;> decide +kernel⟩,
    ⟨_, by
      refine (((h sample 4#8 ⟨63, 1000, 2, 92801⟩).2 0 0 92801 (sampleCard 1000 .guest [5] none) ⟨500,
        100000, .opened, 200, 7000, 1, some 50⟩ ?_ ?_ ?_ ?_ ?_ ?_ ?_ ?_ ?_ ?_).2 1 ?_ ?_ ?_).2.1 ?_ ?_ ?_
        <;> decide +kernel⟩,
    ⟨_, by
      refine (((h sample 4#8 ⟨63, 1000, 2, 92800⟩).2 0 0 92800 (sampleCard 1000 .guest [5] none) ⟨500,
        100000, .opened, 200, 7000, 1, some 50⟩ ?_ ?_ ?_ ?_ ?_ ?_ ?_ ?_ ?_ ?_).2 1 ?_ ?_ ?_).2.2 ?_ ?_ ?_
        <;> decide +kernel⟩,
    ⟨_, by
      refine (((h sample 4#8 ⟨0, 1000, 2, 0⟩).2 0 0 5000 (sampleCard 1000 .guest [5] none) ⟨500, 100000,
        .opened, 200, 7000, 1, some 50⟩ ?_ ?_ ?_ ?_ ?_ ?_ ?_ ?_ ?_ ?_).2 1 ?_ ?_ ?_).2.2 ?_ ?_ ?_
        <;> decide +kernel⟩⟩

theorem witness_TabAdditionsGrowTheHold (h : Obligations.TabAdditionsGrowTheHold) :
    (∃ t, exec (Instr.tabAdd (4#8) (Body.fit
      { slot := 0, generation := 9, terminal := 3, lines := [{ category := 0, unitPrice := 1000, quantity := 1 }] }))
      sample = .next t) ∧
    (∃ t, exec (Instr.tabAdd (4#8) (Body.fit
      { slot := 0, generation := 9, terminal := 3, lines := [{ category := 0, unitPrice := 1001, quantity := 1 }] }))
      sample = .next t) ∧
    (∃ t, exec (Instr.tabAdd (4#8) (Body.fit
      { slot := 0, generation := 9, terminal := 3, lines := [{ category := 0, unitPrice := 93801, quantity := 1 }] }))
      sample = .next t) ∧
    (∃ t, exec (Instr.tabAdd (4#8) (Body.fit
      { slot := 0, generation := 9, terminal := 3, lines := [{ category := 0, unitPrice := 2001, quantity := 1 }] }))
      case33 = .next t) :=
  ⟨⟨_, by
      refine ((h sample 4#8 ⟨0, 9, 3, [⟨0, 1000, 1⟩]⟩ sampleTab 5000 7000 (sampleCard 1000 .guest [5] none)
        ⟨500, 100000, .opened, 200, 7000, 1, some 50⟩ (sample.linesSums (sampleCard 1000 .guest [5] none) 4
        [⟨0, 1000, 1⟩]) (sumAll (sample.linesSums (sampleCard 1000 .guest [5] none) 4 [⟨0, 1000, 1⟩])) ?_ ?_
        ?_ ?_ ?_ ?_ ?_ ?_ ?_ ?_ rfl (Or.inl ?_)).2 (Or.inl ?_)).2 ?_ <;> decide +kernel⟩,
    ⟨_, by
      refine ((h sample 4#8 ⟨0, 9, 3, [⟨0, 1001, 1⟩]⟩ sampleTab 5000 8000 (sampleCard 1000 .guest [5] none)
        ⟨500, 100000, .opened, 200, 7000, 1, some 50⟩ (sample.linesSums (sampleCard 1000 .guest [5] none) 4
        [⟨0, 1001, 1⟩]) (sumAll (sample.linesSums (sampleCard 1000 .guest [5] none) 4 [⟨0, 1001, 1⟩])) ?_ ?_
        ?_ ?_ ?_ ?_ ?_ ?_ ?_ ?_ rfl (Or.inr ?_)).2 (Or.inl ?_)).2 ?_ <;> decide +kernel⟩,
    ⟨_, by
      refine ((h sample 4#8 ⟨0, 9, 3, [⟨0, 93801, 1⟩]⟩ sampleTab 5000 100000 (sampleCard 1000 .guest [5]
        none) ⟨500, 100000, .opened, 200, 7000, 1, some 50⟩ (sample.linesSums (sampleCard 1000 .guest [5]
        none) 4 [⟨0, 93801, 1⟩]) (sumAll (sample.linesSums (sampleCard 1000 .guest [5] none) 4 [⟨0, 93801,
        1⟩])) ?_ ?_ ?_ ?_ ?_ ?_ ?_ ?_ ?_ ?_ rfl (Or.inr ?_)).2 (Or.inl ?_)).1 ?_ <;> decide +kernel⟩,
    ⟨_, by
      refine (h case33 4#8 ⟨0, 9, 3, [⟨0, 2001, 1⟩]⟩ sampleTab 5000 9000 (sampleCard 1001 .child [5] (some
        2000)) ⟨500, 100000, .opened, 200, 7000, 1, some 50⟩ (sample.linesSums (sampleCard 1001 .child [5]
        (some 2000)) 4 [⟨0, 2001, 1⟩]) (sumAll (sample.linesSums (sampleCard 1001 .child [5] (some 2000)) 4
        [⟨0, 2001, 1⟩])) ?_ ?_ ?_ ?_ ?_ ?_ ?_ ?_ ?_ ?_ rfl (Or.inr ?_)).1 2000 ?_ ?_ ?_ <;> decide +kernel⟩⟩

theorem witness_TabsAreNamedByGenerationAndTerminal (h : Obligations.TabsAreNamedByGenerationAndTerminal) :
    (∃ t, exec (Instr.tabAdd (4#8) (Body.fit
      { slot := 0, generation := 8, terminal := 3, lines := [{ category := 0, unitPrice := 0, quantity := 1 }] }))
      sample = .next t) ∧
    (∃ t, exec (Instr.tabClose (4#8) (Body.fit { slot := 0, generation := 8, terminal := 3 })) sample = .next
      t) ∧
    (∃ t, exec (Instr.tabAdd (4#8) (Body.fit
      { slot := 127, generation := 0, terminal := 63, lines := [{ category := 0, unitPrice := 0, quantity := 1 }] }))
      sample = .next t) ∧
    (∃ t, exec (Instr.tabClose (4#8) (Body.fit { slot := 127, generation := 0, terminal := 63 })) sample =
      .next t) ∧
    (∃ t, exec (Instr.tabAdd (4#8) (Body.fit
      { slot := 0, generation := 9, terminal := 4, lines := [{ category := 0, unitPrice := 0, quantity := 1 }] }))
      sample = .next t) ∧
    (∃ t, exec (Instr.tabClose (4#8) (Body.fit { slot := 0, generation := 9, terminal := 4 })) sample = .next
      t) ∧
    (∃ t, exec (Instr.tabAdd (4#8) (Body.fit
      { slot := 0, generation := 9, terminal := 4, lines := [{ category := 0, unitPrice := 0, quantity := 1 }] }))
      case80 = .next t) ∧
    (∃ t, exec (Instr.tabClose (4#8) (Body.fit { slot := 0, generation := 9, terminal := 4 })) case80 = .next
      t) ∧
    (∃ t, exec (Instr.tabAdd (4#8) (Body.fit
      { slot := 0, generation := 9, terminal := 3, lines := [{ category := 0, unitPrice := 0, quantity := 1 }] }))
      case80 = .next t) ∧
    (∃ t, exec (Instr.tabClose (4#8) (Body.fit { slot := 0, generation := 9, terminal := 3 })) case80 = .next
      t) ∧
    (∃ t, exec (Instr.tabAdd (4#8) (Body.fit
      { slot := 0, generation := 9, terminal := 3, lines := [{ category := 0, unitPrice := 0, quantity := 1 }] }))
      case12 = .next t) ∧
    (∃ t, exec (Instr.tabAdd (4#8) (Body.fit { slot := 0, generation := 9, terminal := 3, lines := [] }))
      sample = .next t) ∧
    (∃ t, exec (Instr.tabAdd (4#8) (Body.fit
      { slot := 128, generation := 9, terminal := 3, lines := [{ category := 0, unitPrice := 0, quantity := 1 }] }))
      sample = .next t) ∧
    (∃ t, exec (Instr.tabClose (4#8) (Body.fit { slot := 0, generation := 9, terminal := 64 })) case12 =
      .next t) ∧
    (∃ t, exec (Instr.tabAdd (4#8) (Body.fit
      { slot := 0, generation := 9, terminal := 3, lines := [{ category := 0, unitPrice := 0, quantity := 1 }] }))
      case77 = .next t) :=
  ⟨⟨_, by
      refine ((h sample 4#8 0 8 3 [⟨0, 0, 1⟩] ?_).1 (.refused .notFound) ?_ ?_ (Or.inl ⟨Or.inl ?_, rfl⟩)).1
        ?_ ?_ <;> decide +kernel⟩,
    ⟨_, by
      refine ((h sample 4#8 0 8 3 [⟨0, 0, 1⟩] ?_).1 (.refused .notFound) ?_ ?_ (Or.inl ⟨Or.inl ?_, rfl⟩)).2
        ?_ <;> decide +kernel⟩,
    ⟨_, by
      refine ((h sample 4#8 127 0 63 [⟨0, 0, 1⟩] ?_).1 (.refused .notFound) ?_ ?_ (Or.inl ⟨Or.inr ?_,
        rfl⟩)).1 ?_ ?_ <;> decide +kernel⟩,
    ⟨_, by
      refine ((h sample 4#8 127 0 63 [⟨0, 0, 1⟩] ?_).1 (.refused .notFound) ?_ ?_ (Or.inl ⟨Or.inr ?_,
        rfl⟩)).2 ?_ <;> decide +kernel⟩,
    ⟨_, by
      refine ((h sample 4#8 0 9 4 [⟨0, 0, 1⟩] ?_).1 (.outcome .notOwner) ?_ ?_ (Or.inr ⟨?_, Or.inl
        ⟨sampleTab, 5000, ?_⟩⟩)).1 ?_ ?_ <;> decide +kernel⟩,
    ⟨_, by
      refine ((h sample 4#8 0 9 4 [⟨0, 0, 1⟩] ?_).1 (.outcome .notOwner) ?_ ?_ (Or.inr ⟨?_, Or.inl
        ⟨sampleTab, 5000, ?_⟩⟩)).2 ?_ <;> decide +kernel⟩,
    ⟨_, by
      refine ((h case80 4#8 0 9 4 [⟨0, 0, 1⟩] ?_).1 (.outcome .notOwner) ?_ ?_ (Or.inr ⟨?_, Or.inr (Or.inl
        ⟨sampleTab, .expired, ?_⟩)⟩)).1 ?_ ?_ <;> decide +kernel⟩,
    ⟨_, by
      refine ((h case80 4#8 0 9 4 [⟨0, 0, 1⟩] ?_).1 (.outcome .notOwner) ?_ ?_ (Or.inr ⟨?_, Or.inr (Or.inl
        ⟨sampleTab, .expired, ?_⟩)⟩)).2 ?_ <;> decide +kernel⟩,
    ⟨_, by
      refine ((h case80 4#8 0 9 3 [⟨0, 0, 1⟩] ?_).1 (.outcome .closed) ?_ ?_ (Or.inr ⟨?_, Or.inr (Or.inr
        ⟨sampleTab, .expired, ?_⟩)⟩)).1 ?_ ?_ <;> decide +kernel⟩,
    ⟨_, by
      refine ((h case80 4#8 0 9 3 [⟨0, 0, 1⟩] ?_).1 (.outcome .closed) ?_ ?_ (Or.inr ⟨?_, Or.inr (Or.inr
        ⟨sampleTab, .expired, ?_⟩)⟩)).2 ?_ <;> decide +kernel⟩,
    ⟨_, (h case12 4#8 0 9 3 [⟨0, 0, 1⟩] (by decide +kernel)).2.1 (by decide +kernel)⟩,
    ⟨_, (h sample 4#8 0 9 3 [] (by decide +kernel)).2.2.1 (by decide +kernel) (Or.inr (Or.inr
      (by decide +kernel)))⟩,
    ⟨_, (h sample 4#8 128 9 3 [⟨0, 0, 1⟩] (by decide +kernel)).2.2.1 (by decide +kernel) (Or.inr (Or.inl
      (by decide +kernel)))⟩,
    ⟨_, (h case12 4#8 0 9 64 [] (by decide +kernel)).2.2.2.1 (by decide +kernel) (Or.inl
      (by decide +kernel))⟩,
    ⟨_, by
      refine (h case77 4#8 0 9 3 [⟨0, 0, 1⟩] ?_).2.2.2.2 _ sampleTab 5000 (sampleCard 1000 .guest [5] none)
        ⟨500, 100000, .frozen, 200, 7000, 1, some 50⟩ (.outcome .frozen) ?_ ?_ ?_ ?_ ?_ ?_ ?_ ?_ (Or.inr
        (Or.inr (Or.inr ⟨rfl, Or.inl ?_, Or.inr ⟨?_, ?_, Or.inr ⟨?_, Or.inl ?_⟩⟩⟩))) <;> decide +kernel⟩⟩

theorem witness_TabsSettleAtCloseAndExpiry (h : Obligations.TabsSettleAtCloseAndExpiry) :
    (∃ t, exec (Instr.tabClose (4#8) (Body.fit
      { slot := 0, generation := 9, terminal := sampleTab.terminal })) sample = .next t) ∧
    (∃ t, exec (Instr.tabIdleExpiry 0) sample = .next t) ∧
    (∃ t, exec (Instr.tabClose (4#8) (Body.fit
      { slot := 0, generation := 9, terminal := sampleTab.terminal })) case31 = .next t) ∧
    (∃ t, exec (Instr.tabIdleExpiry 0) case31 = .next t) ∧
    (∃ t, exec (Instr.tabClose (4#8) (Body.fit { slot := 0, generation := 9, terminal := 3 })) case81 = .next
      t) ∧
    (∃ t, exec (Instr.tabIdleExpiry 0) case81 = .next t) ∧
    (closingTab.settle 0 sampleTab CloseReason.departed = if sampleTab.sums.total = 0 then sampleFreed
      closingTab else sampleFreed (sampleRecord closingTab CloseReason.departed)) :=
  ⟨⟨_, by
      refine ((h sample ((sample.advanceToSecond 5000).raise (.tabExpired 0 6000)) 4#8 0 9 5000 sampleTab
        (sampleCard 1000 .guest [5] none) ⟨500, 100000, .opened, 200, 7000, 1, some 50⟩ sampleFreed
        sampleRecord ?_ ?_ ?_ (fun _ => rfl) (fun _ _ => rfl) ?_).2.1 ?_ ?_ ?_ ?_).2.1 ?_ ?_
        <;> decide +kernel⟩,
    ⟨_, by
      refine ((h sample ((sample.advanceToSecond 5000).raise (.tabExpired 0 6000)) 4#8 0 9 5000 sampleTab
        (sampleCard 1000 .guest [5] none) ⟨500, 100000, .opened, 200, 7000, 1, some 50⟩ sampleFreed
        sampleRecord ?_ ?_ ?_ (fun _ => rfl) (fun _ _ => rfl) ?_).2.2 ?_).2.1 ?_ ?_ <;> decide +kernel⟩,
    ⟨_, by
      refine ((h case31 (((fullPostings sample).advanceToSecond 5000).raise (.tabExpired 0 6000)) 4#8 0 9
        5000 sampleTab (sampleCard 1000 .guest [5] none) ⟨500, 100000, .opened, 200, 7000, 1, some 50⟩
        sampleFreed sampleRecord ?_ ?_ ?_ (fun _ => rfl) (fun _ _ => rfl) ?_).2.1 ?_ ?_ ?_ ?_).2.2 ?_ ?_
        <;> decide +kernel⟩,
    ⟨_, by
      refine ((h case31 (((fullPostings sample).advanceToSecond 5000).raise (.tabExpired 0 6000)) 4#8 0 9
        5000 sampleTab (sampleCard 1000 .guest [5] none) ⟨500, 100000, .opened, 200, 7000, 1, some 50⟩
        sampleFreed sampleRecord ?_ ?_ ?_ (fun _ => rfl) (fun _ _ => rfl) ?_).2.2 ?_).2.2 ?_ ?_
        <;> decide +kernel⟩,
    ⟨_, by
      refine ((h case81 _ 4#8 0 9 5000 { sampleTab with sums := ⟨0, 0, 0, 0, 0, 0⟩ } (sampleCard 1000 .guest
        [5] none) ⟨500, 100000, .opened, 200, 7000, 1, some 50⟩ _ _ ?_ ?_ ?_ (fun _ => rfl) (fun _ _ => rfl)
        rfl).2.1 ?_ ?_ ?_ ?_).1 ?_ <;> decide +kernel⟩,
    ⟨_, by
      refine ((h case81 _ 4#8 0 9 5000 { sampleTab with sums := ⟨0, 0, 0, 0, 0, 0⟩ } (sampleCard 1000 .guest
        [5] none) ⟨500, 100000, .opened, 200, 7000, 1, some 50⟩ _ _ ?_ ?_ ?_ (fun _ => rfl) (fun _ _ => rfl)
        rfl).2.2 ?_).1 ?_ <;> decide +kernel⟩,
    by
      refine (h sample _ 4#8 0 9 5000 sampleTab (sampleCard 1000 .guest [5] none) ⟨500, 100000, .opened, 200,
        7000, 1, some 50⟩ sampleFreed sampleRecord ?_ ?_ ?_ (fun _ => rfl) (fun _ _ => rfl) rfl).1 closingTab
        .departed ?_ ?_ ?_ <;> decide +kernel⟩

theorem witness_PostingsAreFetchedAndRewound (h : Obligations.PostingsAreFetchedAndRewound) :
    (∃ t, exec (Instr.postFetch (4#8) (Body.fit ())) sample = .next t) ∧
    (∃ t, exec (Instr.postRewind (4#8) (Body.fit ())) sample = .next t) ∧
    (∃ t, exec (Instr.postFetch (4#8) (Body.fit ())) case31 = .next t) ∧
    (∃ t, exec (Instr.postRewind (4#8) (Body.fit ())) case31 = .next t) :=
  ⟨⟨_, by
      refine (h sample 4#8 (sample.engine.postings.take 2) (sample.engine.postings.drop 2) ?_ ?_ ?_ ?_).1
        <;> decide +kernel⟩,
    ⟨_, by
      refine (h sample 4#8 (sample.engine.postings.take 2) (sample.engine.postings.drop 2) ?_ ?_ ?_ ?_).2
        <;> decide +kernel⟩,
    ⟨_, by
      refine (h case31 4#8 [] (fullPostings sample).engine.postings ?_ ?_ ?_ ?_).1 <;> decide +kernel⟩,
    ⟨_, by
      refine (h case31 4#8 [] (fullPostings sample).engine.postings ?_ ?_ ?_ ?_).2 <;> decide +kernel⟩⟩

theorem witness_PostReleaseRemovesDeliveredRecords (h : Obligations.PostReleaseRemovesDeliveredRecords) :
    (∃ t, exec (Instr.postRelease (4#8) (Body.fit (samplePosting 7 true).number)) sample = .next t) ∧
    (∃ t, exec (Instr.postRelease (4#8) (Body.fit (samplePosting 8 true).number)) sample = .next t) ∧
    (∃ t, exec (Instr.postRelease (4#8) (Body.fit (samplePosting 1 true).number)) case34 = .next t) ∧
    (∃ t, exec (Instr.postRelease (4#8) (Body.fit 0)) sample = .next t) ∧
    (∃ t, exec (Instr.postRelease (4#8) (Body.fit 9)) sample = .next t) ∧
    (∃ t, exec (Instr.postRelease (4#8) (Body.fit 11)) sample = .next t) ∧
    (∃ t, exec (Instr.postRelease (4#8) (Body.fit 6)) sample = .next t) ∧
    (∃ t, exec (Instr.postRelease (4#8) (Body.fit 2147483655)) sample = .next t) ∧
    (∃ t, exec (Instr.postRelease (4#8) (Body.fit (samplePosting 1 true).number)) case82 = .next t) ∧
    (∃ t, exec (Instr.postRelease (4#8) (Body.fit 9)) sample = .next t) ∧
    (∃ t, exec (Instr.postRelease (4#8) (Body.fit 2147483654)) sample = .next t) ∧
    (∃ t, exec (Instr.postRelease (4#8) (Body.fit 2147483655)) sample = .next t) ∧
    (∃ t, exec (Instr.postRelease (4#8) (Body.fit 6)) sample = .next t) :=
  ⟨⟨_, by
      refine ((h sample
        { sample with engine := { sample.engine with postings := sample.engine.postings.drop 1 } } 4#8 ?_ ?_
        ?_).1 [] (samplePosting 7 true) (sample.engine.postings.drop 1) ?_ ?_ ?_).1 ?_ <;> decide +kernel⟩,
    ⟨_, by
      refine ((h sample
        { sample with engine := { sample.engine with postings := sample.engine.postings.drop 2 } } 4#8 ?_ ?_
        ?_).1 [samplePosting 7 true] (samplePosting 8 true) (sample.engine.postings.drop 2) ?_ ?_ ?_).1 ?_
        <;> decide +kernel⟩,
    ⟨_, by
      refine ((h case34 (engineNow (fullPostings sample) fun e =>
        { e with postings := e.postings.drop 1, tabs := [(0, ⟨9, .closing sampleTab .expired⟩)], waiting := [0], highWaterArmed := false })
        4#8 ?_ ?_ ?_).1 [] (samplePosting 1 true) ((fullPostings sample).engine.postings.drop 1) ?_ ?_
        ?_).2.1 0 sampleTab .expired ?_ ?_ <;> decide +kernel⟩,
    ⟨_, (h sample sample 4#8 (by decide +kernel) (by decide +kernel) (by decide +kernel)).2.1 0 (Or.inl rfl)⟩,
    ⟨_, by
      refine (h sample sample 4#8 ?_ ?_ ?_).2.1 9 (Or.inr (Or.inl ⟨samplePosting 9 false, ?_, ?_⟩))
        <;> decide +kernel⟩,
    ⟨_, by
      refine (h sample sample 4#8 ?_ ?_ ?_).2.1 11 (Or.inr (Or.inr ?_)) <;> decide +kernel⟩,
    ⟨_, by
      refine (h sample sample 4#8 ?_ ?_ ?_).2.2.2 6 ?_ ?_ ⟨7, ?_, Or.inl ?_⟩ <;> decide +kernel⟩,
    ⟨_, by
      refine (h sample sample 4#8 ?_ ?_ ?_).2.2.2 2147483655 ?_ ?_ ⟨7, ?_, Or.inr ?_⟩ <;> decide +kernel⟩,
    ⟨_, by
      refine ((h case82 _ 4#8 ?_ ?_ ?_).1 [] (samplePosting 1 true) ((fullPostings
        sample).engine.postings.drop 1) ?_ ?_ rfl).2.2 serveOne _ ?_ (fun _ _ _ _ e => by simp only
        [serveOne, e]) rfl <;> decide +kernel⟩,
    ⟨_, by
      refine ((h sample sample 4#8 ?_ ?_ ?_).2.2.1 9 7 2 ?_ ?_ ?_ ?_ ?_).1 ?_ ?_ <;> decide +kernel⟩,
    ⟨_, by
      refine ((h sample sample 4#8 ?_ ?_ ?_).2.2.1 2147483654 7 2147483647 ?_ ?_ ?_ ?_ ?_).1 ?_ ?_
        <;> decide +kernel⟩,
    ⟨_, by
      refine ((h sample sample 4#8 ?_ ?_ ?_).2.2.1 2147483655 7 2147483648 ?_ ?_ ?_ ?_ ?_).2 ?_
        <;> decide +kernel⟩,
    ⟨_, by
      refine ((h sample sample 4#8 ?_ ?_ ?_).2.2.1 6 7 4294967294 ?_ ?_ ?_ ?_ ?_).2 ?_ <;> decide +kernel⟩⟩

theorem witness_VoidsGiveBackWhatTheRecordTook (h : Obligations.VoidsGiveBackWhatTheRecordTook) :
    (∃ t, exec (Instr.void (4#8) (Body.fit { terminal := 64, posting := 9 })) sample = .next t) ∧
    (∃ t, exec (Instr.void (4#8) (Body.fit { terminal := 3, posting := 0 })) sample = .next t) ∧
    (∃ t, exec (Instr.void (4#8) (Body.fit { terminal := 63, posting := 6 })) sample = .next t) ∧
    (∃ t, exec (Instr.void (4#8) (Body.fit { terminal := 3, posting := 9 })) case132 = .next t) ∧
    (∃ t, exec (Instr.void (4#8) (Body.fit { terminal := 3, posting := 9 })) case133 = .next t) ∧
    (∃ t, exec (Instr.void (4#8) (Body.fit { terminal := 3, posting := 9 })) case134 = .next t) ∧
    (∃ t, exec (Instr.void (4#8) (Body.fit { terminal := 3, posting := 9 })) case135 = .next t) ∧
    (∃ t, exec (Instr.void (4#8) (Body.fit { terminal := 3, posting := 7 })) sample = .next t) ∧
    (∃ t, exec (Instr.void (4#8) (Body.fit { terminal := 3, posting := 9 })) case136 = .next t) ∧
    (∃ t, exec (Instr.void (4#8) (Body.fit { terminal := 63, posting := 9 })) sample = .next t) :=
  ⟨⟨_, (h sample 4#8 64 9 (by decide +kernel) (by decide +kernel)).1 (by decide +kernel)⟩,
    ⟨_, (h sample 4#8 3 0 (by decide +kernel) (by decide +kernel)).1 (by decide +kernel)⟩,
    ⟨_, by
      refine (h sample 4#8 63 6 ?_ ?_).2.1 ?_ ?_ ?_ <;> decide +kernel⟩,
    ⟨_, by
      refine ((h case132 4#8 3 9 ?_ ?_).2.2 (samplePosting 9 false) ?_ ?_ ?_).2 _ _ _ 800 700 0 (-600) ?_ ?_
        ?_ ?_ ?_ ?_ rfl (Or.inl ⟨0, ⟨500, 100000, .opened, 200, 7000, 1, some 50⟩, ?_, ?_, ?_, ?_, rfl⟩)
        (Or.inl ⟨0, { sampleCard 1000 .guest [5] none with daySpent := 700, allowanceUsed := 1 }, ?_, ?_, ?_,
        ?_, rfl⟩) <;> decide +kernel⟩,
    ⟨_, by
      refine ((h case133 4#8 3 9 ?_ ?_).2.2 (samplePosting 9 false) ?_ ?_ ?_).2 _ _ _ 800 0 0 (-600) ?_ ?_ ?_
        ?_ ?_ ?_ rfl (Or.inl ⟨0, ⟨500, 100000, .opened, 200, 7000, 1, some 50⟩, ?_, ?_, ?_, ?_, rfl⟩) (Or.inr
        ⟨Or.inr ?_, rfl, rfl, rfl⟩) <;> decide +kernel⟩,
    ⟨_, by
      refine ((h case134 4#8 3 9 ?_ ?_).2.2 { samplePosting 9 false with account := 9 } ?_ ?_ ?_).2 _ _ _ 0 0
        0 (Config.retiredBalance 0) ?_ ?_ ?_ ?_ ?_ ?_ rfl (Or.inr ⟨?_, rfl, rfl, rfl⟩) (Or.inl ⟨0, sampleCard
        1000 .guest [5] none, ?_, ?_, ?_, ?_, rfl⟩) <;> decide +kernel⟩,
    ⟨_, by
      refine ((h case135 4#8 3 9 ?_ ?_).2.2 { samplePosting 9 false with account := 9, uid := 9 } ?_ ?_ ?_).2
        _ _ _ 0 0 0 (Config.retiredBalance 0) ?_ ?_ ?_ ?_ ?_ ?_ rfl (Or.inr ⟨?_, rfl, rfl, rfl⟩) (Or.inr
        ⟨Or.inl ?_, rfl, rfl, rfl⟩) <;> decide +kernel⟩,
    ⟨_, by
      refine ((h sample 4#8 3 7 ?_ ?_).2.2 (samplePosting 7 true) ?_ ?_ ?_).1 (.outcome .delivered) (Or.inr
        ⟨?_, Or.inr ⟨?_, Or.inr ⟨?_, Or.inl ?_⟩⟩⟩) <;> decide +kernel⟩,
    ⟨_, by
      refine ((h case136 4#8 3 9 ?_ ?_).2.2 (samplePosting 9 false) ?_ ?_ ?_).1 (.outcome .expired) (Or.inr
        ⟨?_, Or.inr ⟨?_, Or.inr ⟨?_, Or.inr ⟨?_, Or.inr ?_, rfl⟩⟩⟩⟩) <;> decide +kernel⟩,
    ⟨_, by
      refine ((h sample 4#8 63 9 ?_ ?_).2.2 (samplePosting 9 false) ?_ ?_ ?_).1 (.outcome .notOwner) (Or.inr
        ⟨?_, Or.inl ?_⟩) <;> decide +kernel⟩⟩

theorem witness_LanesOpenAndClose (h : Obligations.LanesOpenAndClose) :
    (∃ t, exec (Instr.laneOpen (4#8) (Body.fit 3)) case12 = .next t) ∧
    (∃ t, exec (Instr.laneOpen (4#8) (Body.fit 3)) case35 = .next t) ∧
    (∃ t, exec (Instr.laneOpen (4#8) (Body.fit 0)) sample = .next t) ∧
    (∃ t, exec (Instr.laneOpen (4#8) (Body.fit 3)) sample = .next t) ∧
    (∃ t, exec (Instr.laneOpen (4#8) (Body.fit 3)) case36 = .next t) ∧
    (∃ t, exec (Instr.laneClose (4#8) (Body.fit 3)) case37 = .next t) ∧
    (∃ t, exec (Instr.laneClose (4#8) (Body.fit 0)) sample = .next t) ∧
    (∃ t, exec (Instr.laneOpen (4#8) (Body.fit 4)) sample = .next t) ∧
    (∃ t, exec (Instr.laneClose (4#8) (Body.fit 4)) sample = .next t) :=
  ⟨⟨_, by
      refine (h case12 4#8 3 (Lane.start false false false none) ?_ ?_ ?_ ?_).1 ?_ <;> decide +kernel⟩,
    ⟨_, by
      refine (h case35 4#8 3 (Lane.start false false false none) ?_ ?_ ?_ ?_).2.1 ?_ ?_ <;> decide +kernel⟩,
    ⟨_, by
      refine ((h sample 4#8 0 gateLane ?_ ?_ ?_ ?_).2.2.1 ?_ ?_).1 ?_ <;> decide +kernel⟩,
    ⟨_, by
      refine ((h sample 4#8 3 (Lane.start false false false none) ?_ ?_ ?_ ?_).2.2.1 ?_ ?_).2.1 ?_ ?_
        <;> decide +kernel⟩,
    ⟨_, by
      refine ((h case36 4#8 3
        { Lane.start false false false none with brace := ⟨true, true, none⟩, s := ⟨true, true, none⟩ } ?_ ?_
        ?_ ?_).2.2.1 ?_ ?_).2.2 ?_ ?_ <;> decide +kernel⟩,
    ⟨_, by
      refine (h case37 4#8 3 { Lane.start false false false none with softGate := true } ?_ ?_ ?_ ?_).2.2.2.1
        ?_ <;> decide +kernel⟩,
    ⟨_, by
      refine (h sample 4#8 0 gateLane ?_ ?_ ?_ ?_).2.2.2.2.1 ⟨⟨0, 0, 0, 0, 0⟩, none, some 36000, .close⟩ ?_
        ?_ <;> decide +kernel⟩,
    ⟨_, by
      refine ((h sample 4#8 0 gateLane ?_ ?_ ?_ ?_).2.2.2.2.2 4 ?_).1 <;> decide +kernel⟩,
    ⟨_, by
      refine ((h sample 4#8 0 gateLane ?_ ?_ ?_ ?_).2.2.2.2.2 4 ?_).2 <;> decide +kernel⟩⟩

theorem witness_InputEdgesBeginAndAbandonChanges (h : Obligations.InputEdgesBeginAndAbandonChanges) :
    (∃ t, exec (Instr.laneInputEdge 0 LaneInput.brace PinLevel.high) sample = .next t) ∧
    (∃ t, exec (Instr.laneInputEdge 0 (LaneInput.beam Beam.s) PinLevel.low) sample = .next t) ∧
    (∃ t, exec (Instr.laneInputEdge 3 (LaneInput.beam Beam.i) PinLevel.low) sample = .next t) ∧
    (∃ t, exec (Instr.laneInputEdge 3 (LaneInput.beam Beam.s) PinLevel.low) case83 = .next t) ∧
    (∃ t, exec (Instr.laneInputEdge 3 (LaneInput.beam Beam.i) PinLevel.high) case83 = .next t) ∧
    (∃ t, exec (Instr.laneInputEdge 3 LaneInput.brace PinLevel.low) case47 = .next t) ∧
    (∃ t, exec (Instr.laneInputEdge 3 (LaneInput.beam Beam.s) PinLevel.low) case47 = .next t) ∧
    (∃ t, exec (Instr.laneInputEdge 3 (LaneInput.beam Beam.i) PinLevel.low) case47 = .next t) ∧
    (∃ t, exec (Instr.laneInputEdge 0 (LaneInput.beam Beam.s) PinLevel.high) case84 = .next t) ∧
    (∃ t, exec (Instr.laneInputEdge 0 (LaneInput.beam Beam.s) PinLevel.high) case85 = .next t) ∧
    (∃ t, exec (Instr.laneInputEdge 0 LaneInput.brace PinLevel.low) sample = .next t) ∧
    (∃ t, exec (Instr.laneInputEdge 0 (LaneInput.beam Beam.s) PinLevel.high) sample = .next t) ∧
    (∃ t, exec (Instr.laneInputEdge 0 (LaneInput.beam Beam.i) PinLevel.high) sample = .next t) ∧
    (∃ t, exec (Instr.laneInputEdge 4 (LaneInput.beam Beam.s) PinLevel.high) sample = .next t) :=
  ⟨⟨_, by
      refine (h sample 0 gateLane false .high ?_ ?_ (Or.inr ⟨rfl, rfl⟩)).1 ?_ ?_ <;> decide +kernel⟩,
    ⟨_, by
      refine (h sample 0 gateLane true .low ?_ ?_ (Or.inl ⟨rfl, rfl⟩)).2.1 .s false ?_ ?_ (Or.inl ⟨Or.inl ?_,
        ?_⟩) <;> decide +kernel⟩,
    ⟨_, by
      refine (h sample 3 (Lane.start false false false none) true .low ?_ ?_ (Or.inl ⟨rfl, rfl⟩)).2.1 .i
        false ?_ ?_ (Or.inl ⟨Or.inl ?_, ?_⟩) <;> decide +kernel⟩,
    ⟨_, by
      refine (h case83 3
        { Lane.start false false false none with i := ⟨false, true, none⟩, held := some ⟨.i, 99995⟩ } true
        .low ?_ ?_ (Or.inl ⟨rfl, rfl⟩)).2.1 .s false ?_ ?_ (Or.inl ⟨Or.inr ⟨99995, ?_⟩, ?_⟩)
        <;> decide +kernel⟩,
    ⟨_, by
      refine (h case83 3
        { Lane.start false false false none with i := ⟨false, true, none⟩, held := some ⟨.i, 99995⟩ } false
        .high ?_ ?_ (Or.inr ⟨rfl, rfl⟩)).2.1 .i true ?_ ?_ (Or.inr ⟨⟨99995, ?_⟩, ?_⟩) <;> decide +kernel⟩,
    ⟨_, by
      refine ((h case47 3 (Lane.start false false false none) true .low ?_ ?_ (Or.inl ⟨rfl, rfl⟩)).2.2.1
        ?_).1 ?_ <;> decide +kernel⟩,
    ⟨_, by
      refine ((h case47 3 (Lane.start false false false none) true .low ?_ ?_ (Or.inl ⟨rfl, rfl⟩)).2.2.1
        ?_).2.1 ?_ <;> decide +kernel⟩,
    ⟨_, by
      refine ((h case47 3 (Lane.start false false false none) true .low ?_ ?_ (Or.inl ⟨rfl, rfl⟩)).2.2.1
        ?_).2.2 ?_ <;> decide +kernel⟩,
    ⟨_, by
      refine ((h case84 0
        { gateLane with s := ⟨false, true, some 99995⟩, i := ⟨false, true, none⟩, gate := true, alone := none, held := some ⟨.i, 99990⟩ }
        false .high ?_ ?_ (Or.inr ⟨rfl, rfl⟩)).2.2.2.1 .s 99990 99995 ?_ ?_ ?_ ?_ ?_).1 <;> decide +kernel⟩,
    ⟨_, by
      refine ((h case85 0
        { gateLane with s := ⟨false, true, some 99995⟩, i := ⟨false, true, none⟩, gate := false, alone := some .s, held := some ⟨.i, 99990⟩ }
        false .high ?_ ?_ (Or.inr ⟨rfl, rfl⟩)).2.2.2.1 .s 99990 99995 ?_ ?_ ?_ ?_ ?_).2 ?_
        <;> decide +kernel⟩,
    ⟨_, (h sample 0 gateLane true .low (by decide +kernel) (by decide +kernel) (Or.inl ⟨rfl, rfl⟩)).2.2.2.2.1
      (by decide +kernel)⟩,
    ⟨_, (h sample 0 gateLane false .high (by decide +kernel) (by decide +kernel) (Or.inr ⟨rfl,
      rfl⟩)).2.2.2.2.2.1 (by decide +kernel)⟩,
    ⟨_, (h sample 0 gateLane false .high (by decide +kernel) (by decide +kernel) (Or.inr ⟨rfl,
      rfl⟩)).2.2.2.2.2.2.1 (by decide +kernel)⟩,
    ⟨_, (h sample 0 gateLane false .high (by decide +kernel) (by decide +kernel) (Or.inr ⟨rfl,
      rfl⟩)).2.2.2.2.2.2.2 4 (.beam .s) (by decide +kernel)⟩⟩

theorem witness_BeamChangesAreTakenAloneOrHeld (h : Obligations.BeamChangesAreTakenAloneOrHeld) :
    (∃ t, exec (Instr.beamChangeTaken 3 Beam.s) case86 = .next t) ∧
    (∃ t, exec (Instr.beamChangeTaken 3 Beam.s) case87 = .next t) ∧
    (∃ t, exec (Instr.beamChangeTaken 3 Beam.s) case88 = .next t) ∧
    (∃ t, exec (Instr.beamChangeTaken 0 Beam.i) case89 = .next t) ∧
    (∃ t, exec (Instr.beamChangeTaken 0 Beam.i) case90 = .next t) ∧
    (∃ t, exec (Instr.beamChangeTaken 0 Beam.s) case91 = .next t) ∧
    (∃ t, exec (Instr.beamChangeTaken 0 Beam.s) case92 = .next t) ∧
    (∃ t, exec (Instr.beamChangeTaken 0 Beam.i) case93 = .next t) ∧
    (∃ t, exec (Instr.beamChangeTaken 0 Beam.i) case94 = .next t) ∧
    (∃ t, exec (Instr.beamChangeTaken 0 Beam.i) case95 = .next t) ∧
    (∃ t, exec (Instr.beamChangeHeld 3 Beam.s) case96 = .next t) ∧
    (∃ t, exec (Instr.beamChangeHeld 3 Beam.s) case97 = .next t) ∧
    (∃ t, exec (Instr.beamChangeTaken 3 Beam.s) case96 = .next t) ∧
    (∃ t, exec (Instr.beamChangeTaken 3 Beam.s) case97 = .next t) ∧
    (∃ t, exec (Instr.beamChangeTaken 0 Beam.s) case98 = .next t) ∧
    (∃ t, exec (Instr.beamChangeTaken 0 Beam.s) case99 = .next t) ∧
    (∃ t, exec (Instr.beamChangeTaken 0 Beam.s) case100 = .next t) ∧
    (∃ t, exec (Instr.beamChangeTaken 0 Beam.s) case101 = .next t) ∧
    (∃ t, exec (Instr.beamChangeTaken 3 Beam.s) case102 = .next t) ∧
    (∃ t, exec (Instr.beamChangeHeld 3 Beam.s) case102 = .next t) ∧
    (∃ t, exec (Instr.beamChangeHeld 3 Beam.s) case103 = .next t) ∧
    (∃ t, exec (Instr.beamChangeHeld 3 Beam.s) case86 = .next t) ∧
    (∃ t, exec (Instr.beamChangeHeld 3 Beam.s) case104 = .next t) ∧
    (∃ t, exec (Instr.beamChangeTaken 3 Beam.s) case105 = .next t) ∧
    (∃ t, exec (Instr.pairingWaitExpiry 0) case106 = .next t) ∧
    (∃ t, exec (Instr.pairingWaitExpiry 3) case105 = .next t) :=
  ⟨⟨_, by
      refine ((h case86 _ 3 99990 .s
        { Lane.start false false false none with s := ⟨false, true, some 99990⟩ } ?_ ?_ ?_ ?_ rfl).1 _
        (Or.inl ?_) rfl).1 ?_ <;> decide +kernel⟩,
    ⟨_, by
      refine ((h case87 _ 3 99990 .s
        { Lane.start false false false none with s := ⟨false, true, some 99990⟩, i := ⟨false, true, some 99999⟩, alone := some .s }
        ?_ ?_ ?_ ?_ rfl).1 _ (Or.inr ⟨?_, by intro h e; cases e⟩) rfl).1 ?_ <;> decide +kernel⟩,
    ⟨_, by
      refine ((h case88 _ 3 99990 .s
        { Lane.start false false false none with s := ⟨false, true, some 99990⟩, i := ⟨false, true, none⟩, alone := some .s, held := some ⟨.i, 99990⟩ }
        ?_ ?_ ?_ ?_ rfl).1 _ (Or.inr ⟨?_, by intro h e; cases e; decide +kernel⟩) rfl).1 ?_
        <;> decide +kernel⟩,
    ⟨_, by
      refine ((h case89 _ 0 99990 .i { gateLane with i := ⟨true, false, some 99990⟩, settling := true } ?_ ?_
        ?_ ?_ rfl).1 _ (Or.inl ?_) rfl).2.1 ?_ ?_ <;> decide +kernel⟩,
    ⟨_, by
      refine ((h case90 _ 0 99990 .i { gateLane with i := ⟨false, true, some 99990⟩ } ?_ ?_ ?_ ?_ rfl).1 _
        (Or.inl ?_) rfl).2.2.1 .out1 ?_ ?_ ?_ <;> decide +kernel⟩,
    ⟨_, by
      refine ((h case91 _ 0 99990 .s { gateLane with s := ⟨true, false, some 99990⟩, decoder := .in1 } ?_ ?_
        ?_ ?_ rfl).1 _ (Or.inl ?_) rfl).2.2.1 .clear ?_ ?_ ?_ <;> decide +kernel⟩,
    ⟨_, by
      refine (((h case92 _ 0 99990 .s
        { gateLane with s := ⟨true, false, some 99990⟩, decoder := .out3, counters := ⟨0, 16777215, 0, 0, 0⟩ }
        ?_ ?_ ?_ ?_ rfl).1 _ (Or.inl ?_) rfl).2.2.2.1 0 .outward 16777216 0 true _ ?_ ?_ ?_ (Or.inr ⟨?_, ?_,
        rfl, ?_, ?_, ?_, fun _ => rfl⟩) ⟨-1, ?_⟩ ?_ ?_).1 ?_ <;> decide +kernel⟩,
    ⟨_, by
      refine ((((h case93 _ 0 99990 .i
        { gateLane with i := ⟨true, false, some 99990⟩, decoder := .in3, counters := ⟨3, 0, 0, 0, 0⟩ } ?_ ?_
        ?_ ?_ rfl).1 _ (Or.inl ?_) rfl).2.2.2.1 4 .inward 4 0 true _ ?_ ?_ ?_ (Or.inl ⟨?_, ?_, rfl, ?_, ?_,
        ?_, fun _ => rfl⟩) ⟨0, ?_⟩ ?_ ?_).2 ?_).2 ?_ <;> decide +kernel⟩,
    ⟨_, by
      refine ((((h case94 _ 0 99990 .i
        { gateLane with i := ⟨true, false, some 99990⟩, decoder := .in3, counters := ⟨3, 0, 0, 0, 0⟩, armedIn := false }
        ?_ ?_ ?_ ?_ rfl).1 _ (Or.inl ?_) rfl).2.2.2.1 4 .inward 4 0 false _ ?_ ?_ ?_ (Or.inl ⟨?_, ?_, rfl,
        ?_, ?_, ?_, fun _ => rfl⟩) ⟨0, ?_⟩ ?_ ?_).2 ?_).1 ?_ <;> decide +kernel⟩,
    ⟨_, by
      refine ((h case95 _ 0 99990 .i
        { gateLane with i := ⟨true, false, some 99990⟩, decoder := .in3, mark := true } ?_ ?_ ?_ ?_ rfl).1 _
        (Or.inl ?_) rfl).2.2.2.2 ?_ ?_ ?_ ?_ <;> decide +kernel⟩,
    ⟨_, by
      refine ((h case96 _ 3 99990 .s
        { Lane.start false false false none with s := ⟨false, true, some 99990⟩, i := ⟨false, true, none⟩, held := some ⟨.i, 99990⟩ }
        ?_ ?_ ?_ ?_ rfl).2.1 _ ?_ (Or.inl ⟨99990, ?_, ?_, rfl⟩)).1 <;> decide +kernel⟩,
    ⟨_, by
      refine ((h case97 _ 3 99990 .s
        { Lane.start false false false none with s := ⟨false, true, some 99990⟩, i := ⟨false, true, some 99990⟩ }
        ?_ ?_ ?_ ?_ rfl).2.1 _ ?_ (Or.inr ⟨99990, ?_, ?_, ?_, ?_, rfl⟩)).1 <;> decide +kernel⟩,
    ⟨_, by
      refine ((h case96 _ 3 99990 .s
        { Lane.start false false false none with s := ⟨false, true, some 99990⟩, i := ⟨false, true, none⟩, held := some ⟨.i, 99990⟩ }
        ?_ ?_ ?_ ?_ rfl).2.1 _ ?_ (Or.inl ⟨99990, ?_, ?_, rfl⟩)).2.1 ?_ <;> decide +kernel⟩,
    ⟨_, by
      refine ((h case97 _ 3 99990 .s
        { Lane.start false false false none with s := ⟨false, true, some 99990⟩, i := ⟨false, true, some 99990⟩ }
        ?_ ?_ ?_ ?_ rfl).2.1 _ ?_ (Or.inr ⟨99990, ?_, ?_, ?_, ?_, rfl⟩)).2.1 ?_ <;> decide +kernel⟩,
    ⟨_, by
      refine ((h case98 _ 0 99990 .s
        { gateLane with s := ⟨false, true, some 99990⟩, i := ⟨false, true, none⟩, held := some ⟨.i, 99990⟩, settling := true }
        ?_ ?_ ?_ ?_ rfl).2.1 _ ?_ (Or.inl ⟨99990, ?_, ?_, rfl⟩)).2.2.1 ?_ ?_ <;> decide +kernel⟩,
    ⟨_, by
      refine ((h case99 _ 0 99990 .s
        { gateLane with s := ⟨false, true, some 99990⟩, i := ⟨false, true, some 99990⟩ } ?_ ?_ ?_ ?_ rfl).2.1
        _ ?_ (Or.inr ⟨99990, ?_, ?_, ?_, ?_, rfl⟩)).2.2.2.1 .spanX ?_ ?_ ?_ <;> decide +kernel⟩,
    ⟨_, by
      refine ((h case100 _ 0 99990 .s
        { gateLane with s := ⟨true, false, some 99990⟩, i := ⟨false, true, none⟩, held := some ⟨.i, 99990⟩, decoder := .in1 }
        ?_ ?_ ?_ ?_ rfl).2.1 _ ?_ (Or.inl ⟨99990, ?_, ?_, rfl⟩)).2.2.2.1 .in3 ?_ ?_ ?_ <;> decide +kernel⟩,
    ⟨_, by
      refine ((h case101 _ 0 99990 .s
        { gateLane with s := ⟨true, false, some 99990⟩, i := ⟨true, false, some 99990⟩, decoder := .spanX, mark := true }
        ?_ ?_ ?_ ?_ rfl).2.1 _ ?_ (Or.inr ⟨99990, ?_, ?_, ?_, ?_, rfl⟩)).2.2.2.2 ?_ ?_ ?_ <;> decide +kernel⟩,
    ⟨_, by
      refine ((h case102 _ 3 99990 .s
        { Lane.start false false false none with s := ⟨false, true, some 99990⟩, i := ⟨false, true, some 99991⟩ }
        ?_ ?_ ?_ ?_ rfl).2.2.1 99991 ?_ ?_ ?_ (Or.inl ?_)).1 <;> decide +kernel⟩,
    ⟨_, by
      refine ((h case102 _ 3 99990 .s
        { Lane.start false false false none with s := ⟨false, true, some 99990⟩, i := ⟨false, true, some 99991⟩ }
        ?_ ?_ ?_ ?_ rfl).2.2.1 99991 ?_ ?_ ?_ (Or.inl ?_)).2 <;> decide +kernel⟩,
    ⟨_, by
      refine ((h case103 _ 3 99990 .s
        { Lane.start false false false none with s := ⟨false, true, some 99990⟩, i := ⟨false, true, some 99990⟩, alone := some .i }
        ?_ ?_ ?_ ?_ rfl).2.2.1 99990 ?_ ?_ ?_ (Or.inr ?_)).2 <;> decide +kernel⟩,
    ⟨_, by
      refine (h case86 _ 3 99990 .s { Lane.start false false false none with s := ⟨false, true, some 99990⟩ }
        ?_ ?_ ?_ ?_ rfl).2.2.2.1 ?_ (Or.inl ?_) <;> decide +kernel⟩,
    ⟨_, by
      refine (h case104 _ 3 99990 .s
        { Lane.start false false false none with s := ⟨false, true, some 99990⟩, i := ⟨false, true, some 99991⟩, alone := some .s }
        ?_ ?_ ?_ ?_ rfl).2.2.2.1 ?_ (Or.inr ?_) <;> decide +kernel⟩,
    ⟨_, by
      refine ((h case105 _ 3 99990 .s
        { Lane.start false false false none with s := ⟨false, true, some 99990⟩, i := ⟨false, true, none⟩, held := some ⟨.i, 99989⟩ }
        ?_ ?_ ?_ ?_ rfl).2.2.2.2 99989 ?_).1 ?_ ?_ <;> decide +kernel⟩,
    ⟨_, by
      refine (((h case106 _ 0 99990 .s
        { gateLane with s := ⟨false, true, some 99990⟩, i := ⟨false, true, none⟩, held := some ⟨.i, 99989⟩ }
        ?_ ?_ ?_ ?_ rfl).2.2.2.2 99989 ?_).2 _ rfl).1 <;> decide +kernel⟩,
    ⟨_, by
      refine (((h case105 _ 3 99990 .s
        { Lane.start false false false none with s := ⟨false, true, some 99990⟩, i := ⟨false, true, none⟩, held := some ⟨.i, 99989⟩ }
        ?_ ?_ ?_ ?_ rfl).2.2.2.2 99989 ?_).2 _ rfl).2 ?_ <;> decide +kernel⟩⟩

theorem witness_BraceFlowWindowAndTailgate (h : Obligations.BraceFlowWindowAndTailgate) :
    (∃ t, exec (Instr.braceChangeTaken 3) case38 = .next t) ∧
    (∃ t, exec (Instr.braceChangeTaken 3) case39 = .next t) ∧
    (∃ t, exec (Instr.braceChangeTaken 0) case40 = .next t) ∧
    (∃ t, exec (Instr.flowWindowClose 0) case41 = .next t) ∧
    (∃ t, exec (Instr.flowWindowClose 0) case42 = .next t) ∧
    (∃ t, case107.countScan 0 Direction.inward = t) ∧
    (∃ t, case108.countScan 0 Direction.inward = t) ∧
    (∃ t, case109.countScan 0 Direction.outward = t) ∧
    (∃ t, case110.countScan 0 Direction.outward = t) :=
  ⟨⟨_, by
      refine ((h case38 ((laneNow sample 3 fun l => { l with brace := ⟨false, true, some 99990⟩ }).advanceTo
        100005) 3 { Lane.start false false false none with brace := ⟨false, true, some 99990⟩ } ?_ ?_ ?_).1
        99990 ?_ ?_).1 ?_ <;> decide +kernel⟩,
    ⟨_, by
      refine ((h case39 ((laneNow sample 3 fun l =>
        { l with brace := ⟨false, true, some 99990⟩, softGate := true }).advanceTo 100005) 3
        { Lane.start false false false none with brace := ⟨false, true, some 99990⟩, softGate := true } ?_ ?_
        ?_).1 99990 ?_ ?_).2.1 ?_ ?_ <;> decide +kernel⟩,
    ⟨_, by
      refine ((h case40 ((laneNow sample 0 fun l => { l with brace := ⟨true, false, some 99990⟩ }).advanceTo
        100005) 0 { gateLane with brace := ⟨true, false, some 99990⟩ } ?_ ?_ ?_).1 99990 ?_ ?_).2.2 ?_ ?_
        <;> decide +kernel⟩,
    ⟨_, by
      refine ((h case41 ((laneNow sample 0 fun l =>
        { l with flowCount := 40, crowdingArmed := false }).advanceTo 120000) 0
        { gateLane with flowCount := 40, crowdingArmed := false } ?_ ?_ ?_).2.1 120000
        { gateLane with flowCount := 0, crowdingArmed := false, flowEnd := some 150000 } ?_ ?_ ?_ ?_).1 ?_
        <;> decide +kernel⟩,
    ⟨_, by
      refine (((h case42 ((laneNow sample 0 fun l => { l with flowCount := 41 }).advanceTo 120000) 0
        { gateLane with flowCount := 41 } ?_ ?_ ?_).2.1 120000
        { gateLane with flowCount := 0, flowEnd := some 150000 } ?_ ?_ ?_ ?_).2 ?_).2 ?_ <;> decide +kernel⟩,
    ⟨_, by
      refine (((h case107 sample 0 { gateLane with counters := ⟨0, 0, 0, 3, 0⟩, armedIn := false } ?_ ?_
        ?_).2.2 _ (-4) .inward 0 4 false _ (Or.inl ⟨rfl, ?_, ?_, ?_, rfl, fun _ => rfl⟩) ⟨0, ?_⟩ ?_ ?_).2
        ?_).1 ?_ <;> decide +kernel⟩,
    ⟨_, by
      refine (((h case108 sample 0 { gateLane with counters := ⟨8388607, 0, 0, 16777215, 0⟩ } ?_ ?_ ?_).2.2 _
        8388607 .inward 8388607 16777216 true _ (Or.inl ⟨rfl, ?_, ?_, ?_, rfl, fun _ => rfl⟩) ⟨1, ?_⟩ ?_
        ?_).2 ?_).2 ?_ <;> decide +kernel⟩,
    ⟨_, by
      refine ((h case109 sample 0 { gateLane with counters := ⟨0, 1, 0, 0, 0⟩, armedOut := false } ?_ ?_
        ?_).2.2 _ 0 .outward 1 1 false _ (Or.inr ⟨rfl, ?_, ?_, ?_, rfl, fun _ => rfl⟩) ⟨0, ?_⟩ ?_ ?_).1 ?_
        <;> decide +kernel⟩,
    ⟨_, by
      refine (((h case110 sample 0 { gateLane with counters := ⟨0, 0, 0, 0, 8388607⟩ } ?_ ?_ ?_).2.2 _
        (-8388608) .outward 0 8388608 true _ (Or.inr ⟨rfl, ?_, ?_, ?_, rfl, fun _ => rfl⟩) ⟨0, ?_⟩ ?_ ?_).2
        ?_).2 ?_ <;> decide +kernel⟩⟩

theorem witness_GangwayScansMoveTheCard (h : Obligations.GangwayScansMoveTheCard) :
    (∃ t, exec (Instr.gangwayCard (4#8) (Body.fit { lane := 4, uid := 1000, issue := 2 })) sample = .next t) ∧
    (∃ t, exec (Instr.gangwayCard (4#8) (Body.fit { lane := 0, uid := 1000, issue := 16 })) sample = .next t) ∧
    (∃ t, exec (Instr.gangwayCard (4#8) (Body.fit { lane := 3, uid := 9, issue := 15 })) sample = .next t) ∧
    (∃ t, exec (Instr.gangwayCard (4#8) (Body.fit { lane := 0, uid := 9, issue := 2 })) sample = .next t) ∧
    (∃ t, exec (Instr.gangwayCard (4#8) (Body.fit { lane := 0, uid := 1000, issue := 3 })) sample = .next t) ∧
    (∃ t, exec (Instr.gangwayCard (4#8) (Body.fit { lane := 0, uid := 1000, issue := 1 })) sample = .next t) ∧
    (∃ t, exec (Instr.gangwayCard (4#8) (Body.fit { lane := 0, uid := 1000, issue := 2 })) case137 = .next t) ∧
    (∃ t, exec (Instr.gangwayCard (4#8) (Body.fit { lane := 0, uid := 1004, issue := 2 })) sample = .next t) ∧
    (∃ t, exec (Instr.gangwayCard (4#8) (Body.fit { lane := 0, uid := 1000, issue := 2 })) case138 = .next t) ∧
    (∃ t, exec (Instr.gangwayCard (4#8) (Body.fit { lane := 0, uid := 1000, issue := 2 })) sample = .next t) ∧
    (∃ t, exec (Instr.gangwayCard (4#8) (Body.fit { lane := 0, uid := 1000, issue := 2 })) case31 = .next t) ∧
    (∃ t, exec (Instr.gangwayCard (4#8) (Body.fit { lane := 0, uid := 1002, issue := 2 })) sample = .next t) ∧
    (∃ t, exec (Instr.gangwayCard (4#8) (Body.fit { lane := 0, uid := 1001, issue := 2 })) case139 = .next t) ∧
    (∃ t, exec (Instr.gangwayCard (4#8) (Body.fit { lane := 0, uid := 1001, issue := 2 })) case140 = .next t) ∧
    (∃ t, exec (Instr.gangwayCard (4#8) (Body.fit { lane := 0, uid := 1000, issue := 2 })) case141 = .next t) ∧
    (∃ t, exec (Instr.gangwayCard (4#8) (Body.fit { lane := 0, uid := 1000, issue := 2 })) case142 = .next t) ∧
    (∃ t, exec (Instr.gangwayCard (4#8) (Body.fit { lane := 0, uid := 1002, issue := 2 })) case143 = .next t) ∧
    (∃ t, exec (Instr.gangwayCard (4#8) (Body.fit { lane := 0, uid := 1004, issue := 2 })) case144 = .next t) :=
  ⟨⟨_, (h sample 4#8 4 1000 2 .both (by decide +kernel)).1 (by decide +kernel)⟩,
    ⟨_, (h sample 4#8 0 1000 16 .both (by decide +kernel)).1 (by decide +kernel)⟩,
    ⟨_, by
      refine (h sample 4#8 3 9 15 .both ?_).2.1 ?_ ?_ ?_ <;> decide +kernel⟩,
    ⟨_, by
      refine ((h sample 4#8 0 9 2 .both ?_).2.2 ?_ ?_ ?_ ?_).1 ?_ <;> decide +kernel⟩,
    ⟨_, by
      refine (((h sample 4#8 0 1000 3 .both ?_).2.2 ?_ ?_ ?_ ?_).2 0 (sampleCard 1000 .guest [5] none) ?_).1
        ?_ <;> decide +kernel⟩,
    ⟨_, by
      refine (((h sample 4#8 0 1000 1 .both ?_).2.2 ?_ ?_ ?_ ?_).2 0 (sampleCard 1000 .guest [5] none)
        ?_).2.1 ?_ <;> decide +kernel⟩,
    ⟨_, by
      refine ((((h case137 4#8 0 1000 2 .both ?_).2.2 ?_ ?_ ?_ ?_).2 0
        { sampleCard 1000 .guest [5] none with presence := .missed } ?_).2.2 ?_).1 (Or.inr rfl) (Or.inr rfl)
        <;> decide +kernel⟩,
    ⟨_, by
      refine ((((h sample 4#8 0 1004 2 .both ?_).2.2 ?_ ?_ ?_ ?_).2 4 ashoreCard ?_).2.2 ?_).2.1 (Or.inr rfl)
        ?_ <;> decide +kernel⟩,
    ⟨_, by
      refine ((((h case138 4#8 0 1000 2 .board ?_).2.2 ?_ ?_ ?_ ?_).2 0 (sampleCard 1000 .guest [5] none)
        ?_).2.2 ?_).2.2.1 rfl ?_ <;> decide +kernel⟩,
    ⟨_, by
      refine ((((h sample 4#8 0 1000 2 .both ?_).2.2 ?_ ?_ ?_ ?_).2 0 (sampleCard 1000 .guest [5] none)
        ?_).2.2 ?_).2.2.2.1 _ _ Departed.tab [0] _ (Or.inr rfl) ?_ (Or.inl ?_) rfl departed_tab_departs rfl
        rfl (Or.inr ⟨rfl, 0, ⟨500, 100000, .opened, 6200, 0, 0, some 50⟩, ?_, rfl⟩) <;> decide +kernel⟩,
    ⟨_, by
      refine ((((h case31 4#8 0 1000 2 .both ?_).2.2 ?_ ?_ ?_ ?_).2 0 (sampleCard 1000 .guest [5] none)
        ?_).2.2 ?_).2.2.2.1 _ _ Departed.tab [0] _ (Or.inr rfl) ?_ (Or.inl ?_) rfl departed_tab_departs rfl
        rfl (Or.inr ⟨rfl, 0, ⟨500, 100000, .opened, 200, 7000, 1, some 50⟩, ?_, rfl⟩) <;> decide +kernel⟩,
    ⟨_, by
      refine ((((h sample 4#8 0 1002 2 .both ?_).2.2 ?_ ?_ ?_ ?_).2 2 (sampleCard 1002 .crew [] none) ?_).2.2
        ?_).2.2.2.1 _ _ Departed.tab [] _ (Or.inr rfl) ?_ (Or.inl ?_) rfl departed_tab_departs rfl rfl
        (Or.inl ⟨?_, rfl⟩) <;> decide +kernel⟩,
    ⟨_, by
      refine ((((h case139 4#8 0 1001 2 .both ?_).2.2 ?_ ?_ ?_ ?_).2 1 (sampleCard 1001 .child [5] (some
        2000)) ?_).2.2 ?_).2.2.2.1 _ _ Departed.tab [] _ (Or.inr rfl) ?_ (Or.inr (Or.inr ⟨0, ⟨500, 100000,
        .opened, 200, 7000, 1, some 50⟩, 50, ?_, ?_, ?_⟩)) rfl departed_tab_departs rfl rfl (Or.inl ⟨?_,
        rfl⟩) <;> decide +kernel⟩,
    ⟨_, by
      refine ((((h case140 4#8 0 1001 2 .both ?_).2.2 ?_ ?_ ?_ ?_).2 1 (sampleCard 1001 .child [5] (some
        2000)) ?_).2.2 ?_).2.2.2.2.1 0 ⟨500, 100000, .opened, 200, 7000, 1, some 50⟩ (Or.inr rfl) ?_ ?_ ?_ ?_
        (by intro t e; cases e; decide +kernel) <;> decide +kernel⟩,
    ⟨_, by
      refine ((((h case141 4#8 0 1000 2 .leave ?_).2.2 ?_ ?_ ?_ ?_).2 0
        { sampleCard 1000 .guest [5] none with presence := .expected } ?_).2.2 ?_).2.2.2.2.2.1 .notBoarded
        rfl (Or.inl ⟨rfl, rfl⟩) <;> decide +kernel⟩,
    ⟨_, by
      refine ((((h case142 4#8 0 1000 2 .leave ?_).2.2 ?_ ?_ ?_ ?_).2 0
        { sampleCard 1000 .guest [5] none with presence := .missed } ?_).2.2 ?_).2.2.2.2.2.1 .missed rfl
        (Or.inr ⟨rfl, rfl⟩) <;> decide +kernel⟩,
    ⟨_, by
      refine ((((h case143 4#8 0 1002 2 .leave ?_).2.2 ?_ ?_ ?_ ?_).2 2
        { sampleCard 1002 .crew [] none with presence := .ashore } ?_).2.2 ?_).2.2.2.2.2.2.1 rfl ?_ ?_
        <;> decide +kernel⟩,
    ⟨_, by
      refine ((((h case144 4#8 0 1004 2 .leave ?_).2.2 ?_ ?_ ?_ ?_).2 4 ashoreCard ?_).2.2 ?_).2.2.2.2.2.2.2
        0 ⟨500, 100000, .opened, 200, 7000, 1, some 50⟩ rfl ?_ ?_ ?_ <;> decide +kernel⟩⟩

theorem witness_PresenceIsSet (h : Obligations.PresenceIsSet) :
    (∃ t, exec (Instr.presenceSet (4#8) (Body.fit { uid := 1000, presence := 3 })) sample = .next t) ∧
    (∃ t, exec (Instr.presenceSet (4#8) (Body.fit { uid := 1000, presence := 5 })) sample = .next t) ∧
    (∃ t, exec (Instr.presenceSet (4#8) (Body.fit { uid := 9, presence := 4 })) sample = .next t) ∧
    (∃ t, exec (Instr.presenceSet (4#8) (Body.fit { uid := 1000, presence := 1 })) sample = .next t) ∧
    (∃ t, exec (Instr.presenceSet (4#8) (Body.fit { uid := 1000, presence := 1 })) case145 = .next t) ∧
    (∃ t, exec (Instr.presenceSet (4#8) (Body.fit { uid := 1004, presence := 0 })) sample = .next t) ∧
    (∃ t, exec (Instr.presenceSet (4#8) (Body.fit { uid := 1002, presence := 2 })) sample = .next t) ∧
    (∃ t, exec (Instr.presenceSet (4#8) (Body.fit { uid := 1000, presence := 0 })) case146 = .next t) ∧
    (∃ t, exec (Instr.presenceSet (4#8) (Body.fit { uid := 1000, presence := 2 })) case147 = .next t) :=
  ⟨⟨_, (h sample 4#8 1000 3 (by decide +kernel)).1 (by decide +kernel)⟩,
    ⟨_, (h sample 4#8 1000 5 (by decide +kernel)).1 (by decide +kernel)⟩,
    ⟨_, ((h sample 4#8 9 4 (by decide +kernel)).2 .missed (by decide +kernel)).1 (by decide +kernel)⟩,
    ⟨_, by
      refine (((h sample 4#8 1000 1 ?_).2 .aboard ?_).2 0 (sampleCard 1000 .guest [5] none) ?_).1 ?_
        <;> decide +kernel⟩,
    ⟨_, by
      refine ((((h case145 4#8 1000 1 ?_).2 .aboard ?_).2 0
        { sampleCard 1000 .guest [5] none with presence := .unverified } ?_).2 _ ?_ rfl).1 ?_
        <;> decide +kernel⟩,
    ⟨_, by
      refine ((((h sample 4#8 1004 0 ?_).2 .expected ?_).2 4 ashoreCard ?_).2 _ ?_ rfl).1 ?_
        <;> decide +kernel⟩,
    ⟨_, by
      refine ((((h sample 4#8 1002 2 ?_).2 .ashore ?_).2 2 (sampleCard 1002 .crew [] none) ?_).2 _ ?_ rfl).2
        Departed.tab [] _ ?_ ?_ departed_tab_departs rfl rfl <;> decide +kernel⟩,
    ⟨_, by
      refine ((((h case146 4#8 1000 0 ?_).2 .expected ?_).2 0 (sampleCard 1000 .guest [5] none) ?_).2 _ ?_
        rfl).2 Departed.tab [0, 127] _ ?_ ?_ departed_tab_departs rfl rfl <;> decide +kernel⟩,
    ⟨_, by
      refine ((((h case147 4#8 1000 2 ?_).2 .ashore ?_).2 0 (sampleCard 1000 .guest [5] none) ?_).2 _ ?_
        rfl).2 Departed.tab [0, 127] _ ?_ ?_ departed_tab_departs rfl rfl <;> decide +kernel⟩⟩

theorem witness_CalendarRequestsSetTheClock (h : Obligations.CalendarRequestsSetTheClock) :
    (∃ t, exec (Instr.timeSet (4#8) (Body.fit 86399)) sample = .next t) ∧
    (∃ t, exec (Instr.timeSet (4#8) (Body.fit 86400)) sample = .next t) ∧
    (∃ t, exec (Instr.dayRoll (4#8) (Body.fit ()) Span.whole) case43 = .next t) ∧
    (∃ t, exec (Instr.dayRoll (4#8) (Body.fit ()) Span.whole) case44 = .next t) ∧
    (∃ t, exec (Instr.portArrive (4#8) (Body.fit 7)) sample = .next t) ∧
    (∃ t, exec (Instr.portArrive (4#8) (Body.fit 8)) sample = .next t) ∧
    (∃ t, exec (Instr.dayRoll (4#8) (Body.fit ()) Span.whole) case3 = .next t) ∧
    (∃ t, exec (Instr.portArrive (4#8) (Body.fit 3)) case3 = .next t) :=
  ⟨⟨_, (h sample 4#8 86399 (by decide +kernel)).1 (by decide +kernel)⟩,
    ⟨_, (h sample 4#8 86400 (by decide +kernel)).2.1 (by decide +kernel)⟩,
    ⟨_, (h case43 4#8 0 (by decide +kernel)).2.2.1 (by decide +kernel) (by decide +kernel)⟩,
    ⟨_, (h case44 4#8 0 (by decide +kernel)).2.2.2.1 (by decide +kernel) (by decide +kernel)⟩,
    ⟨_, by
      refine (h sample 4#8 7 ?_).2.2.2.2.1 ?_ ?_ ?_ <;> decide +kernel⟩,
    ⟨_, (h sample 4#8 8 (by decide +kernel)).2.2.2.2.2.1 (by decide +kernel) (by decide +kernel)⟩,
    ⟨_, ((h case3 4#8 3 (by decide +kernel)).2.2.2.2.2.2 (by decide +kernel)).1⟩,
    ⟨_, ((h case3 4#8 3 (by decide +kernel)).2.2.2.2.2.2 (by decide +kernel)).2⟩⟩

theorem witness_RequestsThatTakeTimeEndWhole (h : Obligations.RequestsThatTakeTimeEndWhole) :
    (∃ t, exec (Instr.dayRoll (4#8) (Body.fit ()) Span.takesTime) sample = .next t) ∧
    (∃ t, exec (Instr.tierPut (4#8) (Body.misfit 3) Span.takesTime) sample = .next t) ∧
    (∃ t, exec (Instr.sail (4#8) (Body.fit ()) Span.takesTime) sample = .next t) ∧
    (∃ t, exec (Instr.modeSetSecure (4#8) Span.takesTime) sample = .next t) ∧
    (∃ t, exec (Instr.loadEnd (4#8) (Body.fit ()) Span.takesTime) case45 = .next t) ∧
    (∃ t, exec Instr.requestCompletion sample = .next t) :=
  ⟨⟨_, ((h sample 4#8 (.fit ()) (.misfit 3) (by decide +kernel)).1 (.dayRoll 4#8 (.fit ()) .whole) (.dayRoll
      4#8 (.fit ()) .takesTime) (sample.setLink
      { sample.link with places := [.executing (.dayRoll 4#8 (.fit ()) .whole)], buffer := some (.dayRoll 4#8 (.fit ()) .whole) })
      (by decide +kernel) (by decide +kernel)).1⟩,
    ⟨_, ((h sample 4#8 (.fit ()) (.misfit 3) (by decide +kernel)).1 (.tierPut 4#8 (.misfit 3) .whole)
      (.tierPut 4#8 (.misfit 3) .takesTime) (sample.setLink
      { sample.link with places := [.executing (.tierPut 4#8 (.misfit 3) .whole)], buffer := some (.tierPut 4#8 (.misfit 3) .whole) })
      (by decide +kernel) (by decide +kernel)).1⟩,
    ⟨_, ((h sample 4#8 (.fit ()) (.misfit 3) (by decide +kernel)).1 (.sail 4#8 (.fit ()) .whole) (.sail 4#8
      (.fit ()) .takesTime) (sample.setLink
      { sample.link with places := [.executing (.sail 4#8 (.fit ()) .whole)], buffer := some (.sail 4#8 (.fit ()) .whole) })
      (by decide +kernel) (by decide +kernel)).1⟩,
    ⟨_, ((h sample 4#8 (.fit ()) (.misfit 3) (by decide +kernel)).1 (.modeSetSecure 4#8 .whole)
      (.modeSetSecure 4#8 .takesTime) (sample.setLink
      { sample.link with places := [.executing (.modeSetSecure 4#8 .whole)], buffer := some (.modeSetSecure 4#8 .whole) })
      (by decide +kernel) (by decide +kernel)).1⟩,
    ⟨_, ((h case45 4#8 (.fit ()) (.misfit 3) (by decide +kernel)).1 (.loadEnd 4#8 (.fit ()) .whole) (.loadEnd
      4#8 (.fit ()) .takesTime) ({ sample with store := { sample.store with opState := .loading } }.setLink
      { sample.link with places := [.executing (.loadEnd 4#8 (.fit ()) .whole)], buffer := some (.loadEnd 4#8 (.fit ()) .whole) })
      (by decide +kernel) (by decide +kernel)).1⟩,
    ⟨_, (h sample 4#8 (.fit ()) (.misfit 3) (by decide +kernel)).2⟩⟩

theorem witness_RetentionIsEnteredAndCaptured (h : Obligations.RetentionIsEnteredAndCaptured) :
    (∃ t, exec (Instr.retain (4#8) (Body.fit ())) sample = .next t) ∧
    (∃ t, exec Instr.pfailAsserted case46 = .next t) ∧
    (∃ t, exec Instr.pfailAsserted case47 = .next t) ∧
    (∃ t, exec Instr.pfailAsserted case48 = .next t) ∧
    (∃ t, exec Instr.pfailAsserted case49 = .next t) ∧
    (∃ t, exec Instr.retentionCapture case50 = .next t) ∧
    (∃ t, exec Instr.retentionCapture case51 = .next t) ∧
    (∃ t, exec Instr.retentionCapture sample = .next t) ∧
    (∃ t, exec Instr.retentionSupplyFailure case47 = .next t) ∧
    (∃ t, exec Instr.retentionSupplyFailure sample = .next t) :=
  ⟨⟨_, (h sample 4#8 none (by decide +kernel)).1 (by decide +kernel)⟩,
    ⟨_, (h case46 4#8 none (by decide +kernel)).2.1 (by decide +kernel)⟩,
    ⟨_, (h case47 4#8 none (by decide +kernel)).2.2.1 (by decide +kernel) (by decide +kernel)⟩,
    ⟨_, (h case48 4#8 (some ⟨none, true⟩) (by decide +kernel)).2.2.2.1 (by decide +kernel)
      (by decide +kernel)⟩,
    ⟨_, (h case49 4#8 none (by decide +kernel)).2.2.2.2.1 (.summary 1#8 (.fit ())) (by decide +kernel)
      (by decide +kernel)⟩,
    ⟨_, by
      refine ((h case50 4#8 none ?_).2.2.2.2.2.1 sampleQuiet (fun _ => rfl) ?_ ?_ ?_).1 ?_
        <;> decide +kernel⟩,
    ⟨_, by
      refine ((h case51 4#8 none ?_).2.2.2.2.2.1 sampleQuiet (fun _ => rfl) ?_ ?_ ?_).2 ?_
        <;> decide +kernel⟩,
    ⟨_, (h sample 4#8 none (by decide +kernel)).2.2.2.2.2.2.1 (by decide +kernel)⟩,
    ⟨_, (h case47 4#8 none (by decide +kernel)).2.2.2.2.2.2.2.1 (by decide +kernel) (by decide +kernel)⟩,
    ⟨_, (h sample 4#8 none (by decide +kernel)).2.2.2.2.2.2.2.2 (by decide +kernel)⟩⟩

theorem witness_StartsAreColdOrKeepTheImage (h : Obligations.StartsAreColdOrKeepTheImage) :
    (∃ t, exec Instr.resetnAsserted sample = .next t) ∧
    (∃ t, exec Instr.resetnDeasserted case46 = .next t) ∧
    (∃ t, exec Instr.resetnDeasserted sample = .next t) ∧
    (∃ t, exec Instr.wake retained = .next t) ∧
    (∃ t, exec Instr.powerUp retained = .next t) ∧
    (∃ t, exec Instr.powerUp case52 = .next t) ∧
    (∃ t, exec Instr.wake case53 = .next t) ∧
    (∃ t, exec Instr.wake case54 = .next t) ∧
    (∃ t, exec Instr.wake sample = .next t) ∧
    (∃ t, exec Instr.powerUp sample = .next t) ∧
    (∃ t, exec Instr.powerUp case46 = .next t) ∧
    (∃ t, exec (Instr.restartWarm (4#8) (Body.fit 0)) case55 = .next t) ∧
    (∃ t, exec (Instr.restartCold 4#8) case55 = .next t) ∧
    (∃ t, exec (Instr.restartWarm (4#8) (Body.fit 2)) sample = .next t) ∧
    (∃ t, exec (Instr.restartWarm (4#8) (Body.fit 0)) case111 = .next t) ∧
    (∃ t, exec (Instr.restartCold 4#8) case112 = .next t) :=
  ⟨⟨_, (h sample 4#8 startLane (coldOf sample) (wakeOf sample) none (by decide +kernel) (fun _ _ => rfl)
      (fun _ _ => rfl) (fun _ => rfl)).1⟩,
    ⟨_, (h case46 4#8 startLane (coldOf (retentionNow sample fun r => { r with resetHeld := true })) (wakeOf
      (retentionNow sample fun r => { r with resetHeld := true })) none (by decide +kernel) (fun _ _ => rfl)
      (fun _ _ => rfl) (fun _ => rfl)).2.1 (by decide +kernel)⟩,
    ⟨_, (h sample 4#8 startLane (coldOf sample) (wakeOf sample) none (by decide +kernel) (fun _ _ => rfl)
      (fun _ _ => rfl) (fun _ => rfl)).2.2.1 (by decide +kernel)⟩,
    ⟨_, by
      refine ((h retained 4#8 startLane (coldOf retained) (wakeOf retained) none ?_ (fun _ _ => rfl) (fun _ _
        => rfl) (fun _ => rfl)).2.2.2.1 .wake (Or.inl ⟨rfl, ?_⟩) ?_ ?_).1 ?_ rfl <;> decide +kernel⟩,
    ⟨_, by
      refine ((h retained 4#8 startLane (coldOf retained) (wakeOf retained) none ?_ (fun _ _ => rfl) (fun _ _
        => rfl) (fun _ => rfl)).2.2.2.1 .powerUp (Or.inr ⟨rfl, ?_⟩) ?_ ?_).1 ?_ rfl <;> decide +kernel⟩,
    ⟨_, by
      refine ((h case52 4#8 startLane (coldOf (retentionNow retained fun r => { r with checkWord := none }))
        (wakeOf (retentionNow retained fun r => { r with checkWord := none })) none ?_ (fun _ _ => rfl) (fun
        _ _ => rfl) (fun _ => rfl)).2.2.2.1 .powerUp (Or.inr ⟨rfl, ?_⟩) ?_ ?_).2.1 ?_ (by intro e; cases e)
        <;> decide +kernel⟩,
    ⟨_, by
      refine ((h case53 4#8 startLane (coldOf (retentionNow retained fun r =>
        { r with store := .lost true })) (wakeOf (retentionNow retained fun r =>
        { r with store := .lost true })) none ?_ (fun _ _ => rfl) (fun _ _ => rfl) (fun _ => rfl)).2.2.2.1
        .wake (Or.inl ⟨rfl, ?_⟩) ?_ ?_).2.2.1 ?_ <;> decide +kernel⟩,
    ⟨_, by
      refine ((h case54 4#8 startLane (coldOf (retentionNow retained fun r =>
        { r with store := .lost false })) (wakeOf (retentionNow retained fun r =>
        { r with store := .lost false })) none ?_ (fun _ _ => rfl) (fun _ _ => rfl) (fun _ => rfl)).2.2.2.1
        .wake (Or.inl ⟨rfl, ?_⟩) ?_ ?_).2.2.2 ?_ <;> decide +kernel⟩,
    ⟨_, (h sample 4#8 startLane (coldOf sample) (wakeOf sample) none (by decide +kernel) (fun _ _ => rfl)
      (fun _ _ => rfl) (fun _ => rfl)).2.2.2.2.1 (by decide +kernel)⟩,
    ⟨_, (h sample 4#8 startLane (coldOf sample) (wakeOf sample) none (by decide +kernel) (fun _ _ => rfl)
      (fun _ _ => rfl) (fun _ => rfl)).2.2.2.2.2.1 (by decide +kernel) (by decide +kernel)⟩,
    ⟨_, (h case46 4#8 startLane (coldOf (retentionNow sample fun r => { r with resetHeld := true })) (wakeOf
      (retentionNow sample fun r => { r with resetHeld := true })) none (by decide +kernel) (fun _ _ => rfl)
      (fun _ _ => rfl) (fun _ => rfl)).2.2.2.2.2.2.1 (by decide +kernel)⟩,
    ⟨_, ((h case55 4#8 startLane (coldOf (retentionNow sample fun r =>
      { r with vretFailed := true, pfail := true })) (wakeOf (retentionNow sample fun r =>
      { r with vretFailed := true, pfail := true })) none (by decide +kernel) (fun _ _ => rfl) (fun _ _ =>
      rfl) (fun _ => rfl)).2.2.2.2.2.2.2.1 (by decide +kernel)).1⟩,
    ⟨_, ((h case55 4#8 startLane (coldOf (retentionNow sample fun r =>
      { r with vretFailed := true, pfail := true })) (wakeOf (retentionNow sample fun r =>
      { r with vretFailed := true, pfail := true })) none (by decide +kernel) (fun _ _ => rfl) (fun _ _ =>
      rfl) (fun _ => rfl)).2.2.2.2.2.2.2.1 (by decide +kernel)).2.1⟩,
    ⟨_, ((h sample 4#8 startLane (coldOf sample) (wakeOf sample) none (by decide +kernel) (fun _ _ => rfl)
      (fun _ _ => rfl) (fun _ => rfl)).2.2.2.2.2.2.2.1 (by decide +kernel)).2.2 2 (by decide +kernel)⟩,
    ⟨_, by
      refine ((h case111 4#8 startLane (coldOf (retentionNow (linkNow sample none (some (.restartWarm 4#8
        (.fit 0))) [.executing (.restartWarm 4#8 (.fit 0))]) fun r =>
        { r with phase := .entering, pfailSeen := true })) (wakeOf (retentionNow (linkNow sample none (some
        (.restartWarm 4#8 (.fit 0))) [.executing (.restartWarm 4#8 (.fit 0))]) fun r =>
        { r with phase := .entering, pfailSeen := true })) none ?_ (fun _ _ => rfl) (fun _ _ => rfl) (fun _
        => rfl)).2.2.2.2.2.2.2.2 ?_ ?_).1 ?_ <;> decide +kernel⟩,
    ⟨_, by
      refine ((h case112 4#8 startLane (coldOf (retentionNow (linkNow sample none (some (.restartCold 4#8))
        [.executing (.restartCold 4#8)]) fun r => { r with phase := .entering, pfailSeen := true })) (wakeOf
        (retentionNow (linkNow sample none (some (.restartCold 4#8)) [.executing (.restartCold 4#8)]) fun r
        => { r with phase := .entering, pfailSeen := true })) none ?_ (fun _ _ => rfl) (fun _ _ => rfl) (fun
        _ => rfl)).2.2.2.2.2.2.2.2 ?_ ?_).2 ?_ <;> decide +kernel⟩⟩

/-- A part with a request in execution between unread replies and waiting requests. -/
def busy (s : State) (c : Instr) (rs ws : List Place) : State :=
  linkNow s none (some c) (rs ++ .executing c :: ws)

/-- The sample while retention is entered. -/
def entering : State := retentionNow sample fun r => { r with phase := .entering }

/-- A request behind a reply, before two waiting requests: it ends and the first of them begins. -/
theorem witness_CompletionBeginsTheOldestWaitingRequest
    (h : Obligations.CompletionBeginsTheOldestWaitingRequest) :
    ∃ t, exec (.summary 1#8 (.fit ())) (busy sample (.summary 1#8 (.fit ())) [.reply ⟨0x81#8, 1#8, .done⟩]
        [.waiting (.retain 2#8 (.fit ())), .waiting (.summary 3#8 (.fit ()))]) = .next t ∧ t.rrdy = true := by
  obtain ⟨_, _, _, _, _, _, _, _, r, _, k, _⟩ := (h.2 (busy sample (.summary 1#8 (.fit ()))
    [.reply ⟨0x81#8, 1#8, .done⟩] [.waiting (.retain 2#8 (.fit ())), .waiting (.summary 3#8 (.fit ()))]) _
    (.summary 1#8 (.fit ())) 0x81#8 [.reply ⟨0x81#8, 1#8, .done⟩]
    [.waiting (.retain 2#8 (.fit ())), .waiting (.summary 3#8 (.fit ()))]
    [.executing (.retain 2#8 (.fit ())), .waiting (.summary 3#8 (.fit ()))] (some (.retain 2#8 (.fit ()))) _
    (by decide +kernel) rfl (Or.inl ⟨0x01#8, rfl, by decide⟩) rfl rfl rfl (Or.inr ⟨_, _, rfl, rfl, rfl⟩) rfl
    Iff.rfl).1 fun _ => ⟨nofun, nofun, nofun⟩
  exact ⟨_, (k (by decide +kernel)).1, r⟩

/-- A request that takes time, with nothing behind it, ends at REQUEST_COMPLETION. -/
theorem witness_CompletionOfALongRequest (h : Obligations.CompletionBeginsTheOldestWaitingRequest) :
    (∃ t, exec .requestCompletion (busy sample (.dayRoll 4#8 (.fit ()) .whole) [] []) = .next t ∧
      t.rrdy = true) ∧
    (∃ t, exec .requestCompletion (busy entering (.dayRoll 4#8 (.fit ()) .whole) [] []) = .next t) ∧
    ∃ t, exec .requestCompletion (busy sample (.dayRoll 4#8 (.fit ()) .whole) [] []) = .next t := by
  have a := h.2 (busy sample (.dayRoll 4#8 (.fit ()) .whole) [] []) _ (.dayRoll 4#8 (.fit ()) .whole) 0xE1#8
    [] [] [] none _ (by decide +kernel) rfl (Or.inl ⟨0x61#8, rfl, by decide⟩) rfl rfl rfl
    (Or.inl ⟨rfl, rfl, rfl⟩) rfl Iff.rfl
  have b := h.2 (busy entering (.dayRoll 4#8 (.fit ()) .whole) [] []) _ (.dayRoll 4#8 (.fit ()) .whole) 0xE1#8
    [] [] [] none _ (by decide +kernel) rfl (Or.inl ⟨0x61#8, rfl, by decide⟩) rfl rfl rfl
    (Or.inl ⟨rfl, rfl, rfl⟩) rfl Iff.rfl
  have slow : ∃ tag q p, Instr.dayRoll 4#8 (.fit ()) .whole = .loadEnd tag q .whole ∨
      Instr.dayRoll 4#8 (.fit ()) .whole = .tierPut tag p .whole ∨
      Instr.dayRoll 4#8 (.fit ()) .whole = .dayRoll tag q .whole ∨
      Instr.dayRoll 4#8 (.fit ()) .whole = .sail tag q .whole ∨
      Instr.dayRoll 4#8 (.fit ()) .whole = .modeSetSecure tag .whole :=
    ⟨4#8, .fit (), .misfit 0, Or.inr (Or.inr (Or.inl rfl))⟩
  obtain ⟨_, _, _, _, _, _, _, _, r, _, k, _⟩ := a.1 fun _ => ⟨nofun, nofun, nofun⟩
  obtain ⟨_, _, _, _, _, _, _, _, _, _, _, n⟩ := b.1 fun _ => ⟨nofun, nofun, nofun⟩
  exact ⟨⟨_, (k (by decide +kernel)).2 slow, r⟩, ⟨_, (n (by decide +kernel)).2 slow⟩,
    ⟨_, a.2.2 4#8 rfl (by decide +kernel) (by decide +kernel) (by decide +kernel)⟩⟩

/-- RETAIN in execution behind nothing, with a request waiting. -/
theorem witness_CompletionOfRetain (h : Obligations.CompletionBeginsTheOldestWaitingRequest) :
    ∃ u, exec (.retain 4#8 (.fit ())) (busy sample (.retain 4#8 (.fit ())) []
      [.waiting (.summary 3#8 (.fit ()))]) = exec (.retain 4#8 (.fit ())) u :=
  ⟨_, (h.2 (busy sample (.retain 4#8 (.fit ())) [] [.waiting (.summary 3#8 (.fit ()))]) _
    (.retain 4#8 (.fit ())) 0xF0#8 [] [.waiting (.summary 3#8 (.fit ()))] [.executing (.summary 3#8 (.fit ()))]
    (some (.summary 3#8 (.fit ()))) _ (by decide +kernel) rfl (Or.inl ⟨0x70#8, rfl, by decide⟩) rfl rfl rfl
    (Or.inr ⟨_, _, rfl, rfl, rfl⟩) rfl Iff.rfl).2.1 ⟨4#8, Or.inl rfl⟩ (by decide +kernel)⟩

/-- A fetch from a full order queue: the owed relatch and the room left are served, and door 4000 stays. -/
theorem witness_OrderFetchFillsTheRoom (h : Obligations.OrderFetchDeliversTheOldestOrders) :
    ∃ t : State, exec (.orderFetch 4#8 (.fit ())) orderedDoors = .next (t.replied 0x83#8 4#8
        (.orders (orderedDoors.scheduler.orders.take 8) (orderedDoors.scheduler.orders.length - 8))) ∧
      (∀ b, b < 16 → t.mayRelease b = false) ∧ t.channel 4000 = orderedDoors.channel 4000 :=
  have k := (h orderedDoors _ _ _ 4#8 _ (by decide +kernel) rfl rfl rfl rfl).2.1 (by decide +kernel)
    (by decide +kernel)
  ⟨_, k.1, k.2.2.1, k.2.2.2.2.2 4000 (by decide +kernel) (by decide +kernel) (by decide +kernel)⟩

theorem witness_SailLeavesNobodyAshore (h : Obligations.SailLeavesNobodyAshore) :
    (∃ t, exec (.sail 4#8 (.fit ()) .whole)
      { sample with clock := { sample.clock with port := .atSea, region := 0 } } = .next t) ∧
    ∃ t, exec (.sail 4#8 (.fit ()) .whole) sample = .next t :=
  ⟨⟨_, (h { sample with clock := { sample.clock with port := .atSea, region := 0 } } 4#8
      (by decide +kernel)).1 (by decide +kernel)⟩,
    ⟨_, (h sample 4#8 (by decide +kernel)).2 (fun k => if k = .guest then 1 else 0) _ _ _ (by decide +kernel)
      (by decide +kernel) (by decide +kernel) (by decide +kernel) (fun k => by cases k <;> decide +kernel) rfl
      (fun _ => rfl) rfl⟩⟩

/-- Door 1 PENDING and last CLOSED_LATCHED, door 2 PENDING, doors 3 and 5 RELEASED, and room for one order. -/
def locking : State :=
  let s := { sample with scheduler := { sample.scheduler with orders := List.replicate 63 ⟨.poll, 6, 0⟩ } }
  let s1 := s.setChannel 1 { Channel.start with state := .pending, lastReport := some (.closed, .latched) }
  let s2 := (s1.setChannel 2 { Channel.start with state := .pending }).setBus 2 ⟨[1, 2], [5]⟩
  (s2.setChannel 3 { Channel.start with state := .released (some 9) .satisfied }).setChannel 5
    { Channel.start with state := .released (some 9) .awaitingFetch }

theorem witness_ModeSetLocksDownAndReopens (h : Obligations.ModeSetLocksDownAndReopens) :
    (∃ t, exec (.modeSetSecure 4#8 .whole) (secured sample) = .next t) ∧
    (∃ t, exec (.modeSetService 4#8 (.fit 0)) sample = .next t) ∧
    (∃ t, exec (.modeSetService 4#8 (.fit 0)) (secured sample) = .next t) ∧
    (∃ t, exec (.modeSetService 4#8 (.fit 2)) sample = .next t) ∧
    ∃ t u : State, exec (.modeSetSecure 4#8 .whole) locking = .next u ∧ t.bus 2 = ⟨[], [5]⟩ ∧
      t.channel 1 = { Channel.start with state := .secured, lastReport := some (.closed, .latched) } ∧
      t.channel 2 = Channel.start ∧
      t.channel 3 = { Channel.start with state := .relatching .awaitingFetch } ∧
      t.channel 5 = { Channel.start with state := .released none .awaitingFetch, relatchOwed := true } ∧
      t.channel 4000 = Channel.start := by
  refine ⟨⟨_, (h (secured sample) 4#8 ?_).1 ?_⟩, ⟨_, (h sample 4#8 ?_).2.1 ?_⟩,
    ⟨_, (h (secured sample) 4#8 ?_).2.2.1 ?_⟩, ⟨_, (h sample 4#8 ?_).2.2.2.1 2 ?_⟩, ?_⟩ <;>
    try decide +kernel
  obtain ⟨t, e, _, b, c⟩ := (h locking 4#8 (by decide +kernel)).2.2.2.2 _ _ _ _ _ (by decide +kernel)
    (by decide +kernel) rfl rfl rfl rfl fun _ => rfl
  exact ⟨t, _, e, (b 2).trans (by decide +kernel),
    ((c 1 _ rfl).1 (by decide +kernel) (by decide +kernel)).trans (by decide +kernel),
    ((c 2 _ rfl).2.1 (by decide +kernel) (by decide +kernel)).trans (by decide +kernel),
    (((c 3 _ rfl).2.2.1 (some 9) .satisfied (by decide +kernel) (by decide +kernel)).1
      (by decide +kernel)).trans (by decide +kernel),
    (((c 5 _ rfl).2.2.1 (some 9) .awaitingFetch (by decide +kernel) (by decide +kernel)).2
      (by decide +kernel)).2.trans (by decide +kernel),
    ((c 4000 _ rfl).2.2.2 (by decide +kernel) (Or.inr (by decide +kernel))).trans (by decide +kernel)⟩


/-! ## Witnesses of the statements about every step

The sample meets every law; from it the step that runs a CHARGE answers a next state, and the laws hold
there too. -/

/-- The sample with a CHARGE of two lines at the front of its queue. -/
def charging : State :=
  { sample with pending := [.charge 4#8 (.fit ⟨63, 1000, 2, [⟨1, 1399, 2⟩, ⟨2, 0, 1⟩]⟩)] }

theorem witness_StepRunsTheFrontCommand (h : Obligations.StepRunsTheFrontCommand) :
    step charging = exec (.charge 4#8 (.fit ⟨63, 1000, 2, [⟨1, 1399, 2⟩, ⟨2, 0, 1⟩]⟩)) sample :=
  h _ [] sample

theorem witness_EveryStepKeepsModeClockPortAndSettings
    (h : Obligations.EveryStepKeepsModeClockPortAndSettings) :
    ∃ t, step charging = .next t ∧ t.modeLaw = true ∧ t.clockLaw = true ∧ t.portLaw = true ∧
      t.store.settings.law = true :=
  ⟨_, rfl, (h charging _ rfl).1 (by decide +kernel), (h charging _ rfl).2.1 (by decide +kernel),
    (h charging _ rfl).2.2.1 (by decide +kernel), (h charging _ rfl).2.2.2 (by decide +kernel)⟩

theorem witness_EveryStepKeepsTablesAndRoom (h : Obligations.EveryStepKeepsTablesAndRoom) :
    ∃ t, step charging = .next t ∧ t.tablesLaw = true ∧ t.roomLaw = true ∧ t.unloadedLaw = true :=
  ⟨_, rfl, (h charging _ rfl).1 (by decide +kernel), (h charging _ rfl).2.1 (by decide +kernel),
    (h charging _ rfl).2.2 (by decide +kernel)⟩

theorem witness_EveryStepKeepsLanesAndLink (h : Obligations.EveryStepKeepsLanesAndLink) :
    ∃ t, step charging = .next t ∧ t.laneLaw = true ∧ t.linkLaw = true :=
  ⟨_, rfl, (h charging _ rfl).1 (by decide +kernel), (h charging _ rfl).2 (by decide +kernel) (by decide +kernel)⟩

theorem witness_EveryStepKeepsTheCardLaws (h : Obligations.EveryStepKeepsTheCardLaws) :
    ∃ t, step charging = .next t ∧ t.keysLaw = true ∧ t.referenceLaw = true ∧ t.allowanceLaw = true ∧
      t.countLaw = true ∧ t.ashoreLaw = true :=
  have k := h charging _ rfl (by decide +kernel)
  ⟨_, rfl, k.1 (by decide +kernel), k.2.1 (by decide +kernel), k.2.2.1 (by decide +kernel),
    k.2.2.2 (by decide +kernel) (by decide +kernel)⟩

theorem witness_EveryStepKeepsTheDoorLaws (h : Obligations.EveryStepKeepsTheDoorLaws) :
    ∃ t, step charging = .next t ∧ t.pendingLaw = true ∧ t.owedLaw = true :=
  ⟨_, rfl, h charging _ rfl (by decide +kernel) (by decide +kernel) (by decide +kernel) (by decide +kernel)
    (by decide +kernel)⟩

theorem witness_EveryStepKeepsTheMoneyLaws (h : Obligations.EveryStepKeepsTheMoneyLaws) :
    ∃ t, step charging = .next t ∧ t.poolLaw = true ∧ t.aboardLaw = true ∧ t.balanceLaw = true :=
  ⟨_, rfl, h charging _ rfl (by decide +kernel) (by decide +kernel) (by decide +kernel)
    (by decide +kernel)⟩

theorem witness_EveryStepKeepsThePostingLaws (h : Obligations.EveryStepKeepsThePostingLaws) :
    ∃ t, step charging = .next t ∧ t.postingLaw = true ∧ t.waitingLaw = true :=
  ⟨_, rfl, h charging _ rfl (by decide +kernel) (by decide +kernel) (by decide +kernel)
    (by decide +kernel)⟩

/-! ## Frames and encodings -/

/-- SUMMARY with tag 0x2A, SETTING.PUT and MODE.SET SECURE, written out from Tables 29 and 31. -/
theorem test_written_frames :
    receiveFrame [0x00#8, 0xC3#8, 0x00#8, 0x00#8, 0x01#8, 0x2A#8, 0x32#8, 0xD9#8] =
      some (.sound 0x01#8 0x2A#8 []) ∧
    (Frame.sound 0x01#8 0x2A#8 []).request = .summary 0x2A#8 (.fit ()) ∧
    readRequest 0x1F#8 7#8 [16#8, 9#8, 0#8, 0#8, 0#8, 20#8] = .settingPut 7#8 (.fit ⟨16, 9, 20⟩) ∧
    readRequest 0x64#8 8#8 [1#8] = .modeSetSecure 8#8 .whole ∧
    readRequest 0x41#8 8#8 [3#8, 0xFF#8, 0xFF#8, 0xFF#8, 0xFE#8] = .void 8#8 (.fit ⟨3, 4294967294⟩) := by
  decide +kernel

/-- The table gives its rows no bits: no word spells a command. -/
theorem test_no_word_spells_a_command (nbits w : Nat) :
    decodeTableWord nbits w = none ∧ (State.reset.withFetchWord nbits w).pending = [] := ⟨rfl, rfl⟩

/-- Section 11.5: the longest reply body, an ALLABOARD.QUERY reply with 16 entries, has 326 bytes. -/
theorem test_longest_reply :
    (Answer.allAboard (PresenceCounts.ofCards sampleCards) 40 0
      (List.replicate 16 ⟨1004, 500, .guest, some 35000, some 0⟩)).bytes.length = 326 := by decide +kernel

/-- R117: a passage of four single events is counted on its last one; a double event in the middle makes it
ambiguous. -/
theorem test_passages :
    Decoder.in3.step (.single .i) = ⟨.clear, some .inbound, false⟩ ∧
    (Decoder.out3.step (.single .s)).count = some .outbound ∧
    (Decoder.in2.step .double).count = some .ambiguous ∧ (Decoder.clear.step (.single .s)).next = .in1 := by
  decide +kernel

/-! ## Ill-formed terms, one for each check, are refused -/

theorem test_ill_formed_fields :
    (Instr.doorRead 1#8 (.fit 65536)).wf = false ∧ (Instr.accountCredit 1#8 (.fit ⟨1, 2147483648⟩)).wf = false ∧
    (Instr.accountCredit 1#8 (.fit ⟨1, -2147483649⟩)).wf = false ∧ (Instr.timeSet 1#8 (.fit 16777216)).wf = false ∧
    (Instr.settingPut 1#8 (.fit ⟨256, 0, 0⟩)).wf = false ∧ (Instr.tabRead 1#8 (.fit 256)).wf = false ∧
    (Instr.presenceSet 1#8 (.fit ⟨256 ^ 7, 0⟩)).wf = false ∧
    (Instr.cardPut 1#8 (.fit ⟨0, 1, 0, 0, 0, 1, 0, 0, 0, ⟨256, ⟨0, 0⟩⟩, ⟨0, ⟨0, 0⟩⟩, 0, 0, 0, 0,
      ⟨0, 0⟩⟩)).wf = false ∧
    (Instr.cardPut 1#8 (.fit ⟨0, 1, 0, 0, 0, 1, 0, 0, 0, ⟨0, ⟨0, 0⟩⟩, ⟨0, ⟨0, 65536⟩⟩, 0, 0, 0, 0,
      ⟨0, 0⟩⟩)).wf = false := by decide +kernel

theorem test_ill_formed_lengths :
    (Instr.summary 1#8 (.misfit 0)).wf = false ∧ (Instr.doorRead 1#8 (.misfit 241)).wf = false ∧
    (Instr.charge 1#8 (.misfit 241)).wf = false ∧
    (Instr.charge 1#8 (.fit ⟨0, 1, 0, List.replicate 47 ⟨0, 0, 1⟩⟩)).wf = false ∧
    (Instr.tabAdd 1#8 (.fit ⟨0, 0, 0, List.replicate 48 ⟨0, 0, 1⟩⟩)).wf = false ∧
    (Instr.tabAdd 1#8 (.fit ⟨0, 0, 0, [⟨0, 16777216, 1⟩]⟩)).wf = false := by decide +kernel

theorem test_ill_formed_codes_and_places :
    (Instr.modeSetService 1#8 (.fit 1)).wf = false ∧ (Instr.restartWarm 1#8 (.fit 1)).wf = false ∧
    (Instr.badFrame .tooLong 1#8).wf = false ∧ (Instr.unknownCode 0x40#8 1#8).wf = false ∧
    (Instr.relatchTimerExpiry 4096).wf = false ∧ (Instr.busWindowAgeOut 16).wf = false ∧
    (Instr.tabIdleExpiry 128).wf = false ∧ (Instr.pairingWaitExpiry 4).wf = false := by decide +kernel

/-! ## Worked examples of the spec -/

/-- The answers in the reply queue and the state after a command. -/
def after (c : Instr) (s : State) : Option (List Answer × State) :=
  match exec c s with
  | .next t => some (t.link.places.filterMap fun p => match p with
    | .reply r => some r.answer
    | _ => none, t)
  | _ => none

/-- The cards, account, rates and region of the spec's pool-bar example. -/
def poolBar : State := { State.reset with
  store := { Store.cold with
    opState := .service
    cards := [(0, ⟨1, 0, ⟨.guest, 70001, [1], none, none, 0, 9, true, 1, none⟩, 13, 4020, .aboard, none⟩),
      (1, ⟨2, 0, ⟨.child, 70001, [1], none, none, 0, 9, true, 2, some 2000⟩, 4, 1200, .aboard, none⟩)]
    accounts := [(0, ⟨70001, 150000, .opened, 41200, 5000, 1, none⟩)]
    doors := [(1, ⟨true, 1, 0⟩)]
    categories := [(1, ⟨true, true, 1800⟩), (2, ⟨true, true, 1800⟩), (3, ⟨false, true, 1800⟩),
      (5, ⟨false, true, 1500⟩)]
    regions := [(3, 850)]
    tiers := [(1, ⟨0b110#16, 15, 1400⟩), (2, ⟨0b11000#16, 10, 700⟩)] }
  clock := ⟨0, some 50000, .inPort, 3, 0, 0⟩ }

/-- Section 4, a round at the pool bar (Tables 14 and 15). -/
theorem test_pool_bar :
    ((after (.charge 1#8 (.fit ⟨12, 1, 0, [⟨1, 1650, 2⟩, ⟨2, 900, 1⟩, ⟨5, 475, 1⟩]⟩)) poolBar).map fun p =>
      (p.1, p.2.store.accounts.map fun e => e.2.balance)) =
    some ([.charged 1 ⟨4675, 2800, 2, 323, 160, 2358⟩ [⟨2, 633⟩, ⟨0, 1139⟩, ⟨0, 586⟩] 0 101442], [43558]) := by
  decide +kernel

/-- Section 4, a child's order, and a cap reached: AGE at line 1, then the charge of Table 16. -/
theorem test_child_order :
    (after (.charge 1#8 (.fit ⟨12, 2, 0, [⟨1, 1650, 1⟩, ⟨3, 450, 3⟩]⟩)) poolBar).map Prod.fst =
      some [.alcoholLine 1] ∧
    (after (.charge 1#8 (.fit ⟨12, 2, 0, [⟨3, 450, 3⟩, ⟨5, 475, 1⟩]⟩)) poolBar).map Prod.fst =
      some [.charged 1 ⟨1825, 1350, 3, 71, 40, 586⟩ [⟨3, 0⟩, ⟨0, 586⟩] 3 103214] := by
  decide +kernel

/-- The night steward's card (section 2): doors 2150 and 2140 SECURED, door 3010 OPEN. -/
def steward (time : Option Nat) (dnd : Bool) : State := { State.reset with
  store := { Store.cold with
    opState := .service
    cards := [(0, ⟨77, 0, ⟨.crew, 1, [3010], some ⟨2000, 2199⟩, some ⟨1320, 360⟩, 0, 9, false, 0, none⟩, 0, 0,
      .aboard, none⟩)]
    accounts := [(0, ⟨1, 0, .opened, 0, 0, 0, none⟩)]
    doors := [2140, 2150, 2205, 3010].map fun d => (d, ⟨true, d, 3⟩) }
  doorUnit := { State.reset.doorUnit with
    channels := [2140, 2150, 2205, 3010].map fun d => (d, { Channel.start with
      state := if d = 3010 then .opened 600 else .secured
      dnd := dnd }) }
  clock := ⟨0, time, .atSea, 0, 0, 0⟩ }

/-- Table 8: the outcomes of the night steward's card. -/
theorem test_night_steward :
    ([(2150, some 84000, false), (2150, some 25200, false), (2140, some 3000, true), (2205, some 3000, false),
      (3010, some 43200, true), (2150, none, false)].map fun (d, t, q) =>
        (after (.doorCard 1#8 (.fit ⟨d, 77, 0⟩)) (steward t q)).map fun p => p.1.map fun a => match a with
          | .doorCard o _ _ _ => some o
          | _ => none) =
    [.grantQueued, .hours, .privacy, .notThisDoor, .grantOpen, .hours].map fun o => some [some o] := by
  decide +kernel

/-- R24, R63: an audit interval put to 0 leaves the step scheduled, and one put from 0 schedules the next. -/
theorem test_audit_interval_put :
    (after (.settingPut 1#8 (.fit ⟨10, 0, 0⟩)) sample).map (fun p => p.2.doorUnit.auditNext) =
      some sample.doorUnit.auditNext ∧
    (after (.settingPut 1#8 (.fit ⟨10, 0, 7⟩)) (tuned sample fun v => { v with auditInterval := 0 })).map
      (fun p => p.2.doorUnit.auditNext) = some (some 107) := by decide +kernel

/-- R111: the wait of S ends at 100,000; I, stable at 100,005, is then taken by itself although S changes
again from 100,001. -/
theorem test_other_change_taken_by_itself :
    ((after (.pairingWaitExpiry 0) (laneNow sample 0 fun l => { l with
        s := ⟨false, true, none⟩
        i := ⟨false, true, some 99990⟩
        held := some ⟨.s, 99985⟩ })).bind fun p =>
      (after (.laneInputEdge 0 (.beam .s) .high) (p.2.advanceTo 100001)).bind fun q =>
        after (.beamChangeTaken 0 .i) q.2).map (fun r => (r.2.lanes.l0.i.level, r.2.lanes.l0.decoder)) =
      some (true, .in2) := by decide +kernel

end Sys2Proof.Tests
end

section
/-! SUPPORT. The reply of a request on a free link: the owning block is judged as if it had met the state
that the frame found, and the state it leaves takes the reply at the tail of the reply queue. -/

namespace Sys2Proof.Machine

/-! ## The state that the frame's arrival leaves -/

@[simp] theorem State.entering_opState (s : State) (c : Instr) :
    (s.entering c).store.opState = s.store.opState := rfl

theorem takesFrames_of_ready {s : State} (h : s.ready = true) : s.takesFrames = true := by
  simp only [State.ready, Bool.and_eq_true] at h
  obtain ⟨⟨⟨takes, _⟩, _⟩, _⟩ := h
  exact takes

theorem buffer_of_ready {s : State} (h : s.ready = true) : s.link.buffer = none := by
  simp only [State.ready, Bool.and_eq_true, Option.isNone_iff_eq_none] at h
  obtain ⟨⟨_, empty⟩, _⟩ := h
  exact empty

/-! ## Serving on a free link -/

/-- What a request changes is told as a state `t` beside the one the frame found: the arrival of the frame is
cleared away again, and the reply takes the tail of the queue of `t`. -/
theorem serve_replied {s : State} (h : s.ready = true) {c : Instr} {run : State → State × Answer} {t : State}
    {a : Answer} (hrun : run (s.entering c.asFramed) = (t.entering c.asFramed, a))
    (hret : t.retention = s.retention) (hplaces : t.link.places = s.link.places)
    (hbuffer : t.link.buffer = s.link.buffer) :
    serve c run s = .next (t.replied (replyCode c) c.tag a) := by
  have takes : (t.entering c.asFramed).takesFrames = true := by
    have e : (t.entering c.asFramed).takesFrames = s.takesFrames := by
      simp only [State.takesFrames, State.entering, State.setLink_retention, hret]
    exact e.trans (takesFrames_of_ready h)
  have tail : (t.entering c.asFramed).link.places = s.link.places ++ [.executing c.asFramed] := by
    simp only [State.entering, State.setLink_link, hplaces]
  have freed : (none : Option Instr) = t.link.buffer := (hbuffer.trans (buffer_of_ready h)).symm
  rw [serve_of_ready h c run (by rw [hrun]; exact takes) (by rw [hrun]; exact tail), hrun, ← hplaces, freed]
  rfl

/-- A request that the gate takes: its block answers (R156). -/
theorem serve_judged_taken {s : State} (h : s.ready = true) {α : Type} {c : Instr} {gate : Gate} {x : α}
    {block : α → State → State × Answer} {t : State} {a : Answer}
    (hg : gate.refusal s.store.opState = none)
    (hblock : block x (s.entering c.asFramed) = (t.entering c.asFramed, a))
    (hret : t.retention = s.retention) (hplaces : t.link.places = s.link.places)
    (hbuffer : t.link.buffer = s.link.buffer) :
    serve c (judged gate (.fit x) block) s = .next (t.replied (replyCode c) c.tag a) := by
  refine serve_replied h ?_ hret hplaces hbuffer
  simp only [judged, State.entering_opState, hg, hblock]

/-- A request that the gate refuses is answered with the gate's status alone (R2). -/
theorem serve_judged_refused {s : State} (h : s.ready = true) {α : Type} {c : Instr} {gate : Gate} {x : α}
    {block : α → State → State × Answer} {status : Status}
    (hg : gate.refusal s.store.opState = some status) :
    serve c (judged gate (.fit x) block) s = .next (s.replied (replyCode c) c.tag (.refused status)) := by
  refine serve_replied h ?_ rfl rfl rfl
  simp only [judged, State.entering_opState, hg]

theorem fromLoading_takes {o : OpState} (h : o ≠ .unloaded) : Gate.fromLoading.refusal o = none := by
  cases o with
  | unloaded => exact absurd rfl h
  | loading => rfl
  | service => rfl
  | secure => rfl

theorem whenUnloaded_refuses {o : OpState} (h : o ≠ .unloaded) :
    Gate.whenUnloaded.refusal o = some .state := by
  cases o with
  | unloaded => exact absurd rfl h
  | loading => rfl
  | service => rfl
  | secure => rfl

/-- A request that R2 takes from LOADING on answers what its block answers. -/
theorem serve_fromLoading {s : State} (h : s.ready = true) (ho : s.store.opState ≠ .unloaded) {α : Type}
    {c : Instr} {x : α} {block : α → State → State × Answer} {t : State} {a : Answer}
    (hblock : ∀ k, block x (s.entering k) = (t.entering k, a))
    (hret : t.retention = s.retention) (hlink : t.link = s.link) :
    serve c (judged .fromLoading (.fit x) block) s = .next (t.replied (replyCode c) c.tag a) :=
  serve_judged_taken h (fromLoading_takes ho) (hblock _) hret (congrArg Link.places hlink)
    (congrArg Link.buffer hlink)

end Sys2Proof.Machine
end

section
/-! The credential store: LOAD.BEGIN, CARD.REISSUE and CARD.RETIRE. -/

namespace Sys2Proof.Machine

/-! ## What each request runs -/

theorem exec_loadBegin (tag : Byte) (q : Body Nat) (s : State) : exec (.loadBegin tag q) s =
    serve (.loadBegin tag q) (judged .whenUnloaded q blockLoadBegin) s := rfl

theorem exec_cardReissue (tag : Byte) (q : Body Nat) (s : State) : exec (.cardReissue tag q) s =
    serve (.cardReissue tag q) (judged .fromLoading q blockCardReissue) s := rfl

theorem exec_cardRetire (tag : Byte) (q : Body Nat) (s : State) : exec (.cardRetire tag q) s =
    serve (.cardRetire tag q) (judged .fromLoading q blockCardRetire) s := rfl

/-! ## CARD.REISSUE (R11) -/

section
variable {s : State} {uid slot : Nat} {c : Card}

theorem blockCardReissue_unknown (h : s.cardByUid uid = none) :
    blockCardReissue uid s = (s, .refused .notFound) := by
  simp only [blockCardReissue, h]

theorem blockCardReissue_raises (h : s.cardByUid uid = some (slot, c)) (hi : c.issue < 15) :
    blockCardReissue uid s = (s.setCard slot { c with issue := c.issue + 1 }, .issueNow (c.issue + 1)) := by
  simp only [blockCardReissue, h, if_neg (Nat.not_le.mpr hi)]

theorem blockCardReissue_last (h : s.cardByUid uid = some (slot, c)) (hi : 15 ≤ c.issue) :
    blockCardReissue uid s = (s, .refused .range) := by
  simp only [blockCardReissue, h, if_pos hi]

/-! ## CARD.RETIRE (R12) -/

theorem blockCardRetire_unknown (h : s.cardByUid uid = none) :
    blockCardRetire uid s = (s, .refused .notFound) := by
  simp only [blockCardRetire, h]

theorem blockCardRetire_removes (h : s.cardByUid uid = some (slot, c))
    (ht : s.engine.cardHasTab slot = false) :
    blockCardRetire uid s = (s.removeCard slot c, .outcome .accepted) := by
  simp [blockCardRetire, h, ht]

theorem blockCardRetire_tabOpen (h : s.cardByUid uid = some (slot, c))
    (ht : s.engine.cardHasTab slot = true) :
    blockCardRetire uid s = (s, .outcome .tabOpen) := by
  simp only [blockCardRetire, h, if_pos ht]

end

/-- Settles O18: each clause is one case of the owning block, run on a free link. -/
theorem cardsAreReissuedAndRetired : Obligations.CardsAreReissuedAndRetired := by
  unfold Obligations.CardsAreReissuedAndRetired
  intro s tag uid hready hop
  simp only [exec_cardReissue, exec_cardRetire]
  refine ⟨fun hnone => ⟨?_, ?_⟩, fun slot c hcard => ⟨fun hi => ?_, fun hi => ?_, fun ht => ?_, fun ht => ?_⟩⟩
  · exact serve_fromLoading hready hop (fun _ => blockCardReissue_unknown hnone) rfl rfl
  · exact serve_fromLoading hready hop (fun _ => blockCardRetire_unknown hnone) rfl rfl
  · exact serve_fromLoading (t := s.setCard slot { c with issue := c.issue + 1 }) hready hop
      (fun _ => blockCardReissue_raises hcard hi) rfl rfl
  · exact serve_fromLoading hready hop (fun _ => blockCardReissue_last hcard hi.ge) rfl rfl
  · exact serve_fromLoading (t := s.removeCard slot c) hready hop
      (fun _ => blockCardRetire_removes hcard ht) rfl rfl
  · exact serve_fromLoading hready hop (fun _ => blockCardRetire_tabOpen hcard ht) rfl rfl

/-- Settles O15: the gate takes LOAD.BEGIN in UNLOADED, where its block writes the ship day and the operating
state, and refuses it with STATE elsewhere. -/
theorem loadBeginOpensLoading : Obligations.LoadBeginOpensLoading := by
  unfold Obligations.LoadBeginOpensLoading
  intro s tag day hready
  rw [exec_loadBegin]
  refine ⟨fun hunloaded => ?_, fun hother => serve_judged_refused hready (whenUnloaded_refuses hother)⟩
  have hgate : Gate.whenUnloaded.refusal s.store.opState = none := by rw [hunloaded]; rfl
  exact serve_judged_taken (t := { s with
    store := { s.store with opState := .loading }
    clock := { s.clock with shipDay := day } }) hready hgate rfl rfl rfl rfl

end Sys2Proof.Machine
end

section
/-! SUPPORT. Requests of a loaded part (R2), the card that a UID and an issue present (R29), and the
two-valued codes of a door report (R170). -/

namespace Sys2Proof.Machine

/-! ## A loaded part at work -/

theorem State.atWork_iff (s : State) :
    s.atWork = true ↔ s.ready = true ∧ s.loaded = true ∧ s.tablesLaw = true := by
  simp only [State.atWork, Bool.and_eq_true, and_assoc]

theorem cards_rising_of_tablesLaw {s : State} (h : s.tablesLaw = true) : s.store.cards.rising = true := by
  simp only [State.tablesLaw, Bool.and_eq_true, and_assoc] at h
  exact h.1

theorem whenLoaded_takes {s : State} (h : s.loaded = true) :
    Gate.whenLoaded.refusal s.store.opState = none := by
  simp only [State.loaded, Bool.or_eq_true, decide_eq_true_eq] at h
  rcases h with service | secure
  · rw [service]; rfl
  · rw [secure]; rfl

/-- A request that R2 takes in SERVICE and SECURE answers what its block answers. -/
theorem serve_whenLoaded {s : State} (h : s.atWork = true) {α : Type} {c : Instr} {x : α}
    {block : α → State → State × Answer} {t : State} {a : Answer}
    (hblock : ∀ k, block x (s.entering k) = (t.entering k, a))
    (hret : t.retention = s.retention) (hlink : t.link = s.link) :
    serve c (judged .whenLoaded (.fit x) block) s = .next (t.replied (replyCode c) c.tag a) := by
  obtain ⟨ready, loaded, -⟩ := s.atWork_iff.mp h
  exact serve_judged_taken ready (whenLoaded_takes loaded) (hblock _) hret (congrArg Link.places hlink)
    (congrArg Link.buffer hlink)

/-! ## The card presented -/

theorem Table.mem_of_seek {α : Type} {p : α → Bool} {t : Table α} {e : Nat × α} (h : t.seek p = some e) :
    e ∈ t :=
  List.mem_of_find?_eq_some h

/-- The card fields of a reply are those of the card that the UID found. -/
theorem State.cardView_of_cardByUid {s : State} (h : s.store.cards.rising = true) {uid slot : Nat} {c : Card}
    (hcard : s.cardByUid uid = some (slot, c)) : s.cardView slot c = ⟨slot, c.config.cls, c.presence⟩ := by
  have found : s.store.cards.find slot = some c := Table.find_of_mem h (Table.mem_of_seek hcard)
  simp only [State.cardView, found]

theorem State.present_eq_current_iff (s : State) (uid issue slot : Nat) (c : Card) :
    s.present uid issue = .current slot c ↔ s.cardByUid uid = some (slot, c) ∧ c.issue = issue := by
  constructor
  · intro h
    unfold State.present at h
    split at h
    next => cases h
    next slot' c' hcard =>
      split_ifs at h with above below
      cases h
      exact ⟨hcard, Nat.le_antisymm (Nat.not_lt.mp below) (Nat.not_lt.mp above)⟩
  · rintro ⟨hcard, rfl⟩
    simp only [State.present, hcard, Nat.lt_irrefl, if_false]

/-! ## The codes of a door report -/

theorem exists_contactOf_iff (n : Nat) : (∃ x, contactOf n = some x) ↔ n ≤ 1 := by
  match n with
  | 0 | 1 => simp [contactOf]
  | n + 2 => simp [contactOf]

theorem exists_latchOf_iff (n : Nat) : (∃ x, latchOf n = some x) ↔ n ≤ 1 := by
  match n with
  | 0 | 1 => simp [latchOf]
  | n + 2 => simp [latchOf]

theorem exists_flagOf_iff (n : Nat) : (∃ x, flagOf n = some x) ↔ n ≤ 1 := by
  match n with
  | 0 | 1 => simp [flagOf]
  | n + 2 => simp [flagOf]

theorem exists_isPollReplyOf_iff (n : Nat) : (∃ x, isPollReplyOf n = some x) ↔ n ≤ 1 := by
  match n with
  | 0 | 1 => simp [isPollReplyOf]
  | n + 2 => simp [isPollReplyOf]

/-- The four codes of a report, each two-valued (Table 30). -/
def ReportCodesInRange (q : DoorReportReq) : Prop :=
  q.contact ≤ 1 ∧ q.latch ≤ 1 ∧ q.dnd ≤ 1 ∧ q.cause ≤ 1

theorem reportCodesInRange_iff (q : DoorReportReq) :
    ReportCodesInRange q ↔ ∃ contact latch dnd poll, contactOf q.contact = some contact ∧
      latchOf q.latch = some latch ∧ flagOf q.dnd = some dnd ∧ isPollReplyOf q.cause = some poll := by
  simp only [ReportCodesInRange, exists_and_left, exists_and_right, exists_contactOf_iff, exists_latchOf_iff,
    exists_flagOf_iff, exists_isPollReplyOf_iff]

end Sys2Proof.Machine
end

section
/-! Access decisions at the doors: the refusals of DOOR.CARD and DOOR.REPORT that enter nothing. -/

namespace Sys2Proof.Machine

/-! ## What each request runs -/

theorem exec_doorCard (tag : Byte) (q : Body DoorCardReq) (s : State) : exec (.doorCard tag q) s =
    serve (.doorCard tag q) (judged .whenLoaded q blockDoorCard) s := rfl

theorem exec_doorReport (tag : Byte) (q : Body DoorReportReq) (s : State) : exec (.doorReport tag q) s =
    serve (.doorReport tag q) (judged .whenLoaded q blockDoorReport) s := rfl

/-! ## DOOR.CARD: range, check 1 and check 2 (R25, R27, R28) -/

section
variable {s : State} {door uid issue slot t : Nat} {c : Card}

theorem blockDoorCard_range (h : 4095 < door ∨ 15 < issue) :
    blockDoorCard ⟨door, uid, issue⟩ s = (s, .refused .range) :=
  if_pos h

/-- A card whose fields are in range is judged by check 1. -/
theorem blockDoorCard_inRange (hd : door ≤ 4095) (hi : issue ≤ 15) :
    blockDoorCard ⟨door, uid, issue⟩ s =
      if !(s.doorConfig door).configured then (s, .doorCard .unknownDoor .unknown none none)
      else s.decideAt door uid issue :=
  if_neg (not_or.mpr ⟨Nat.not_le.mpr (Nat.lt_succ_of_le hd), Nat.not_lt.mpr hi⟩)

theorem blockDoorCard_unconfigured (hd : door ≤ 4095) (hi : issue ≤ 15)
    (hc : (s.doorConfig door).configured = false) :
    blockDoorCard ⟨door, uid, issue⟩ s = (s, .doorCard .unknownDoor .unknown none none) := by
  rw [blockDoorCard_inRange hd hi, hc]
  rfl

theorem blockDoorCard_configured (hd : door ≤ 4095) (hi : issue ≤ 15)
    (hc : (s.doorConfig door).configured = true) :
    blockDoorCard ⟨door, uid, issue⟩ s = s.decideAt door uid issue := by
  rw [blockDoorCard_inRange hd hi, hc]
  rfl

theorem decideAt_blocked (hb : (s.reader door).blockedUntil = some t) (ht : s.clock.runSeconds < t) :
    s.decideAt door uid issue = s.decideBlocked door uid issue := by
  simp only [State.decideAt, hb, if_pos ht]

/-- An unknown UID and a card whose issue is not the one presented are refused alike. -/
theorem decideBlocked_notCurrent
    (h : s.cardByUid uid = none ∨ s.cardByUid uid = some (slot, c) ∧ c.issue ≠ issue) :
    s.decideBlocked door uid issue = (s, .doorCard .blocked (s.channel door).state none none) := by
  unfold State.decideBlocked
  split
  next slot' c' current =>
    obtain ⟨hcard, hissue⟩ := (s.present_eq_current_iff uid issue slot' c').mp current
    rw [hcard] at h
    rcases h with ⟨⟨⟩⟩ | ⟨⟨⟩, stale⟩
    exact absurd hissue stale
  next => rfl

theorem decideBlocked_notSecurity (hcards : s.store.cards.rising = true)
    (hcard : s.cardByUid uid = some (slot, c)) (hissue : c.issue = issue) (hcls : c.config.cls ≠ .security) :
    s.decideBlocked door uid issue = (s, .doorCard .blocked (s.channel door).state
      (some ⟨slot, c.config.cls, c.presence⟩) none) := by
  have current := (s.present_eq_current_iff uid issue slot c).mpr ⟨hcard, hissue⟩
  simp only [State.decideBlocked, current, if_neg hcls, State.cardView_of_cardByUid hcards hcard]

end

/-! ## DOOR.REPORT: range and configuration (R46) -/

section
variable {s : State} {q : DoorReportReq}

theorem blockDoorReport_range (h : 4095 < q.door ∨ ¬ ReportCodesInRange q) :
    blockDoorReport q s = (s, .refused .range) := by
  unfold blockDoorReport
  split
  next contact latch dnd poll hcontact hlatch hdnd hcause =>
    have codes := (reportCodesInRange_iff q).mpr ⟨contact, latch, dnd, poll, hcontact, hlatch, hdnd, hcause⟩
    exact if_pos (h.resolve_right (not_not_intro codes))
  next => rfl

theorem blockDoorReport_unconfigured (hd : q.door ≤ 4095) (hq : ReportCodesInRange q)
    (hc : (s.doorConfig q.door).configured = false) :
    blockDoorReport q s = (s, .outcome .unknownDoor) := by
  obtain ⟨contact, latch, dnd, poll, hcontact, hlatch, hdnd, hcause⟩ := (reportCodesInRange_iff q).mp hq
  have known : ¬ doorCount ≤ q.door := Nat.not_le.mpr (Nat.lt_succ_of_le hd)
  simp [blockDoorReport, hcontact, hlatch, hdnd, hcause, known, hc]

end

/-- Settles O26: each refusal is one case of the owning block, which answers it with its state untouched. -/
theorem unknownAndBlockedDoorsChangeNothing : Obligations.UnknownAndBlockedDoorsChangeNothing := by
  unfold Obligations.UnknownAndBlockedDoorsChangeNothing
  intro s tag door uid issue slot t c hwork
  obtain ⟨-, -, tables⟩ := s.atWork_iff.mp hwork
  have cards := cards_rising_of_tablesLaw tables
  simp only [exec_doorCard, exec_doorReport]
  refine ⟨fun hout => ?range, fun hd hi hc => ?unconfigured, fun hd hi hc hb ht => ?blocked,
    fun q => ⟨fun hin hc => ?reportUnconfigured, fun hout => ?reportRange⟩⟩
  case range => exact serve_whenLoaded hwork (fun _ => blockDoorCard_range hout) rfl rfl
  case unconfigured =>
    exact serve_whenLoaded hwork (fun _ => blockDoorCard_unconfigured hd hi hc) rfl rfl
  case blocked =>
    have decided (k : Instr) : blockDoorCard ⟨door, uid, issue⟩ (s.entering k) =
        (s.entering k).decideBlocked door uid issue :=
      (blockDoorCard_configured (s := s.entering k) hd hi hc).trans (decideAt_blocked hb ht)
    exact ⟨fun hstale => serve_whenLoaded hwork
        (fun k => (decided k).trans (decideBlocked_notCurrent hstale)) rfl rfl,
      fun hcard hissue hcls => serve_whenLoaded hwork
        (fun k => (decided k).trans (decideBlocked_notSecurity cards hcard hissue hcls)) rfl rfl⟩
  case reportUnconfigured =>
    obtain ⟨hd, codes⟩ := hin
    exact serve_whenLoaded hwork (fun _ => blockDoorReport_unconfigured hd codes hc) rfl rfl
  case reportRange =>
    have out : 4095 < q.door ∨ ¬ ReportCodesInRange q := by
      simp only [ReportCodesInRange]
      omega
    exact serve_whenLoaded hwork (fun _ => blockDoorReport_range out) rfl rfl

end Sys2Proof.Machine
end

section
/-! The Charge Engine: the amounts of lines and the sums of a request (R75 to R78). -/

namespace Sys2Proof.Machine

/-! ## Rounding (R77) -/

/-- `rounded` is the nearest whole cent to payable × rate ÷ 10,000, with half a cent rounding up. -/
theorem rounded_bounds (payable rate : Nat) :
    2 * 10000 * rounded payable rate ≤ 2 * (payable * rate) + 10000 ∧
      2 * (payable * rate) + 10000 < 2 * 10000 * (rounded payable rate + 1) := by
  unfold rounded
  generalize payable * rate = due
  omega

/-! ## The cover of a line (R76) -/

section
variable (s : State) (c : Card) (allowance : Nat) (l : Line)

theorem State.takesCover_iff : s.takesCover c l = true ↔
    c.config.tier ≠ 0 ∧ (s.tier c.config.tier).covered.getLsbD l.category = true ∧
      (c.config.cls ≠ .child ∨ (s.category l.category).alcohol = false) := by
  simp only [State.takesCover, State.tierCovers, Bool.and_eq_true, Bool.or_eq_true, bne_iff_ne,
    decide_eq_true_eq, Bool.not_eq_true', and_assoc]

variable {s c l} in
theorem State.lineUnits_of_cover (h : s.takesCover c l = true) :
    s.lineUnits c allowance l = min l.quantity allowance :=
  if_pos h

variable {s c l} in
theorem State.lineUnits_of_no_cover (h : s.takesCover c l ≠ true) : s.lineUnits c allowance l = 0 :=
  if_neg h

theorem State.lineUnits_le : s.lineUnits c allowance l ≤ min l.quantity allowance := by
  by_cases h : s.takesCover c l = true
  · exact (State.lineUnits_of_cover allowance h).le
  · exact (State.lineUnits_of_no_cover allowance h).trans_le (Nat.zero_le _)

/-- Each covered unit takes its price at most, and no more units are covered than are bought. -/
theorem State.lineSums_covered_le :
    (s.lineSums c allowance l).covered ≤ (s.lineSums c allowance l).gross :=
  calc s.lineUnits c allowance l * min l.unitPrice (s.tier c.config.tier).coverCap
    _ ≤ l.quantity * l.unitPrice :=
      Nat.mul_le_mul ((s.lineUnits_le c allowance l).trans (Nat.min_le_left ..)) (Nat.min_le_left ..)
    _ = l.unitPrice * l.quantity := Nat.mul_comm ..

end

/-! ## The sums of a request (R78) -/

theorem Sums.zero_add (x : Sums) : Sums.zero.add x = x := by
  simp only [Sums.add, Sums.zero, Nat.zero_add]

theorem Sums.add_zero (x : Sums) : x.add Sums.zero = x := rfl

theorem Sums.add_assoc (x y z : Sums) : (x.add y).add z = x.add (y.add z) := by
  simp only [Sums.add, Nat.add_assoc]

@[simp] theorem sumAll_nil : sumAll [] = Sums.zero := rfl

theorem foldl_add_eq_add_sumAll (xs : List Sums) : ∀ x, xs.foldl Sums.add x = x.add (sumAll xs) := by
  induction xs with
  | nil => exact Sums.add_zero
  | cons y ys ih =>
    intro x
    calc ys.foldl Sums.add (x.add y)
      _ = x.add (y.add (sumAll ys)) := by rw [ih, Sums.add_assoc]
      _ = x.add (sumAll (y :: ys)) := by rw [← ih, sumAll, List.foldl_cons, Sums.zero_add]

@[simp] theorem sumAll_cons (x : Sums) (xs : List Sums) : sumAll (x :: xs) = x.add (sumAll xs) := by
  rw [sumAll, List.foldl_cons, Sums.zero_add, foldl_add_eq_add_sumAll]

theorem sumAll_total (xs : List Sums) : (sumAll xs).total = (xs.map Sums.total).sum := by
  induction xs with
  | nil => rfl
  | cons x xs ih => simp only [sumAll_cons, Sums.add, ih, List.map_cons, List.sum_cons]

/-- The cover is no more than the gross, and the total is payable plus gratuity plus tax. -/
def Sums.Balanced (x : Sums) : Prop :=
  x.covered ≤ x.gross ∧ x.total = x.gross - x.covered + x.gratuity + x.tax

theorem Sums.zero_balanced : Sums.zero.Balanced := ⟨Nat.le_refl 0, rfl⟩

theorem Sums.Balanced.add {x y : Sums} (hx : x.Balanced) (hy : y.Balanced) : (x.add y).Balanced := by
  obtain ⟨hxcover, hxtotal⟩ := hx
  obtain ⟨hycover, hytotal⟩ := hy
  simp only [Sums.Balanced, Sums.add]
  omega

section
variable (s : State) (c : Card)

theorem State.lineSums_balanced (allowance : Nat) (l : Line) : (s.lineSums c allowance l).Balanced :=
  ⟨s.lineSums_covered_le c allowance l, rfl⟩

/-- Gratuity is taken of the payable sum (R77). -/
theorem State.lineSums_gratuity_bounds {x : Sums} {allowance : Nat} {l : Line}
    (hx : x = s.lineSums c allowance l) :
    2 * 10000 * x.gratuity ≤ 2 * ((x.gross - x.covered) * (s.category l.category).gratuity) + 10000 ∧
      2 * ((x.gross - x.covered) * (s.category l.category).gratuity) + 10000 <
        2 * 10000 * (x.gratuity + 1) := by
  subst hx
  exact rounded_bounds _ _

/-- Tax is taken of the payable sum, in a taxable category (R77). -/
theorem State.lineSums_tax_bounds {x : Sums} {allowance : Nat} {l : Line}
    (hx : x = s.lineSums c allowance l) (ht : (s.category l.category).taxable = true) :
    2 * 10000 * x.tax ≤ 2 * ((x.gross - x.covered) * s.taxRate) + 10000 ∧
      2 * ((x.gross - x.covered) * s.taxRate) + 10000 < 2 * 10000 * (x.tax + 1) := by
  have tax : x.tax = rounded (x.gross - x.covered) s.taxRate := by
    subst hx
    exact if_pos ht
  rw [tax]
  exact rounded_bounds _ _

theorem State.lineSums_tax_of_untaxed (allowance : Nat) {l : Line}
    (ht : (s.category l.category).taxable = false) : (s.lineSums c allowance l).tax = 0 := by
  simp only [State.lineSums, ht, Bool.false_eq_true, if_false]

theorem State.linesSums_length (ls : List Line) :
    ∀ allowance, (s.linesSums c allowance ls).length = ls.length := by
  induction ls with
  | nil => exact fun _ => rfl
  | cons l ls ih => exact fun _ => congrArg Nat.succ (ih _)

theorem State.sumAll_linesSums_balanced (ls : List Line) :
    ∀ allowance, (sumAll (s.linesSums c allowance ls)).Balanced := by
  induction ls with
  | nil => exact fun _ => Sums.zero_balanced
  | cons l ls ih =>
    intro allowance
    rw [State.linesSums, sumAll_cons]
    exact (s.lineSums_balanced c allowance l).add (ih _)

/-- The lines of a request together cover no more units than its working allowance (R75). -/
theorem State.sumAll_linesSums_units_le (ls : List Line) :
    ∀ allowance, (sumAll (s.linesSums c allowance ls)).units ≤ allowance := by
  induction ls with
  | nil => exact Nat.zero_le
  | cons l ls ih =>
    intro allowance
    have first : (s.lineSums c allowance l).units ≤ allowance :=
      (s.lineUnits_le c allowance l).trans (Nat.min_le_right ..)
    have rest := ih (allowance - (s.lineSums c allowance l).units)
    rw [State.linesSums, sumAll_cons, Sums.add]
    dsimp only
    omega

end

/-- Settles O32: the sums by induction over the lines, the cover of a line by whether it takes cover, and the
gratuity and the tax by the two bounds of rounding. -/
theorem lineAmountsAddUp : Obligations.LineAmountsAddUp := by
  unfold Obligations.LineAmountsAddUp
  rintro s c allowance l ls xs x y rfl rfl rfl
  obtain ⟨coverLe, total⟩ := s.sumAll_linesSums_balanced c ls allowance
  obtain ⟨unitsLeQuantity, unitsLeAllowance⟩ := Nat.le_min.mp (s.lineUnits_le c allowance l)
  obtain ⟨gratuityLe, ltGratuity⟩ := s.lineSums_gratuity_bounds c (allowance := allowance) (l := l) rfl
  refine ⟨coverLe, total, sumAll_total _, s.sumAll_linesSums_units_le c ls allowance,
    s.linesSums_length c ls allowance, rfl, rfl, unitsLeQuantity, unitsLeAllowance, rfl,
    fun noCover => ?noCover, fun tier category age => ?cover, gratuityLe, ltGratuity,
    s.lineSums_tax_of_untaxed c allowance, s.lineSums_tax_bounds c rfl, rfl⟩
  case noCover =>
    refine State.lineUnits_of_no_cover allowance fun takes => ?_
    obtain ⟨tier, category, age⟩ := (s.takesCover_iff c l).mp takes
    rcases noCover with tierZero | uncovered | ⟨child, alcohol⟩
    · exact tier tierZero
    · simp [uncovered] at category
    · simp [child, alcohol] at age
  case cover => exact State.lineUnits_of_cover allowance ((s.takesCover_iff c l).mpr ⟨tier, category, age⟩)

end Sys2Proof.Machine
end

section
/-! The Ship Clock: TIME.SET, DAY.ROLL and PORT.ARRIVE (R146 to R148). -/

namespace Sys2Proof.Machine

/-! ## What each request runs -/

theorem exec_timeSet (tag : Byte) (q : Body Nat) (s : State) : exec (.timeSet tag q) s =
    serve (.timeSet tag q) (judged .always q blockTimeSet) s := rfl

theorem exec_dayRoll_whole (tag : Byte) (q : Body Unit) (s : State) : exec (.dayRoll tag q .whole) s =
    serve (.dayRoll tag q .whole) (judged .whenLoaded q blockDayRoll) s := rfl

theorem exec_portArrive (tag : Byte) (q : Body Nat) (s : State) : exec (.portArrive tag q) s =
    serve (.portArrive tag q) (judged .whenLoaded q blockPortArrive) s := rfl

/-! ## The gate (R2) -/

/-- A request that R2 takes in every operating state answers what its block answers. -/
theorem serve_always {s : State} (h : s.ready = true) {α : Type} {c : Instr} {x : α}
    {block : α → State → State × Answer} {t : State} {a : Answer}
    (hblock : ∀ k, block x (s.entering k) = (t.entering k, a))
    (hret : t.retention = s.retention) (hlink : t.link = s.link) :
    serve c (judged .always (.fit x) block) s = .next (t.replied (replyCode c) c.tag a) :=
  serve_judged_taken h rfl (hblock _) hret (congrArg Link.places hlink) (congrArg Link.buffer hlink)

/-- `serve_whenLoaded` without a premise on the tables. -/
theorem serve_whenLoaded_of_ready {s : State} (h : s.ready = true) (hl : s.loaded = true) {α : Type}
    {c : Instr} {x : α} {block : α → State → State × Answer} {t : State} {a : Answer}
    (hblock : ∀ k, block x (s.entering k) = (t.entering k, a))
    (hret : t.retention = s.retention) (hlink : t.link = s.link) :
    serve c (judged .whenLoaded (.fit x) block) s = .next (t.replied (replyCode c) c.tag a) :=
  serve_judged_taken h (whenLoaded_takes hl) (hblock _) hret (congrArg Link.places hlink)
    (congrArg Link.buffer hlink)

theorem whenLoaded_refuses {s : State} (h : s.loaded = false) :
    Gate.whenLoaded.refusal s.store.opState = some .notReady := by
  unfold State.loaded at h
  cases o : s.store.opState with
  | unloaded => rfl
  | loading => rfl
  | service => simp [o] at h
  | secure => simp [o] at h

/-! ## The cases of each block -/

/-- DAY.ROLL advanced: the next ship day, with every card's counters at 0 (R85, R147). -/
def State.rolled (s : State) : State :=
  { s with
    store := { s.store with cards := Table.mapEntries Card.newDay s.store.cards }
    clock := { s.clock with shipDay := s.clock.shipDay + 1 } }

section
variable {s : State} {x : Nat}

theorem blockTimeSet_sets (h : x ≤ 86399) :
    blockTimeSet x s = ({ s with clock := { s.clock with shipTime := some x } }, .shipTime x) :=
  if_neg (Nat.not_lt.mpr h)

theorem blockTimeSet_range (h : 86399 < x) : blockTimeSet x s = (s, .refused .range) :=
  if_pos h

theorem blockDayRoll_advances (h : s.clock.shipDay < 65535) :
    blockDayRoll () s = (s.rolled, .shipDay (s.clock.shipDay + 1)) :=
  if_neg (Nat.not_le.mpr h)

theorem blockDayRoll_range (h : 65535 ≤ s.clock.shipDay) : blockDayRoll () s = (s, .refused .range) :=
  if_pos h

theorem blockPortArrive_arrives (h1 : 1 ≤ x) (h7 : x ≤ 7) :
    blockPortArrive x s =
      ({ s with clock := { s.clock with port := .inPort, region := x } }, .port .inPort x) :=
  if_neg (by omega)

theorem blockPortArrive_range (h : x = 0 ∨ 7 < x) : blockPortArrive x s = (s, .refused .range) :=
  if_pos h

end

/-- Settles O48: each clause is one case of the owning block, or the gate's refusal, on a free link. -/
theorem calendarRequestsSetTheClock : Obligations.CalendarRequestsSetTheClock := by
  unfold Obligations.CalendarRequestsSetTheClock
  intro s tag x hready
  simp only [exec_timeSet, exec_dayRoll_whole, exec_portArrive]
  refine ⟨fun hx => ?timeSet, fun hx => ?timeRange, fun hl hday => ?dayRoll, fun hl hday => ?dayRange,
    fun hl h1 h7 => ?arrive, fun hl hx => ?arriveRange, fun hl => ?notReady⟩
  case timeSet =>
    exact serve_always (t := { s with clock := { s.clock with shipTime := some x } }) hready
      (fun _ => blockTimeSet_sets hx) rfl rfl
  case timeRange => exact serve_always hready (fun _ => blockTimeSet_range hx) rfl rfl
  case dayRoll =>
    exact serve_whenLoaded_of_ready (t := s.rolled) hready hl (fun _ => blockDayRoll_advances hday) rfl rfl
  case dayRange => exact serve_whenLoaded_of_ready hready hl (fun _ => blockDayRoll_range hday) rfl rfl
  case arrive =>
    exact serve_whenLoaded_of_ready (t := { s with clock := { s.clock with port := .inPort, region := x } })
      hready hl (fun _ => blockPortArrive_arrives h1 h7) rfl rfl
  case arriveRange => exact serve_whenLoaded_of_ready hready hl (fun _ => blockPortArrive_range hx) rfl rfl
  case notReady =>
    exact ⟨serve_judged_refused hready (whenLoaded_refuses hl),
      serve_judged_refused hready (whenLoaded_refuses hl)⟩

end Sys2Proof.Machine
end

section
/-! The Message Link: NOTICE.FETCH (R162). -/

namespace Sys2Proof.Machine

theorem exec_noticeFetch (tag : Byte) (q : Body Unit) (s : State) : exec (.noticeFetch tag q) s =
    serve (.noticeFetch tag q) (judged .always q blockNoticeFetch) s := rfl

/-- The part after NOTICE.FETCH: the oldest 8 notices gone and the lost flag cleared (R162). -/
def State.fetchedNotices (s : State) : State :=
  s.setLink { s.link with notices := s.link.notices.drop 8, lost := false }

/-- The request's own place in the link is not the block's business: fetching commutes with taking it. -/
theorem blockNoticeFetch_entering (s : State) (k : Instr) :
    blockNoticeFetch () (s.entering k) = (s.fetchedNotices.entering k,
      .notices (s.link.notices.take 8) (s.link.notices.length - 8) s.link.lost) := by
  rw [← List.length_drop]
  rfl

/-- Settles O13: the gate takes NOTICE.FETCH in every operating state, and its block runs on a free link. -/
theorem noticeFetchRemovesTheOldestNotices : Obligations.NoticeFetchRemovesTheOldestNotices := by
  unfold Obligations.NoticeFetchRemovesTheOldestNotices
  intro s tag hready
  rw [exec_noticeFetch]
  have taken : Gate.always.refusal s.store.opState = none := rfl
  exact serve_judged_taken (t := s.fetchedNotices) hready taken (blockNoticeFetch_entering s _) rfl rfl rfl

end Sys2Proof.Machine
end

section
/-! SUPPORT. What a step can do, said once: every command is a run of single effects, each on one part of the
machine. A law that every effect keeps is kept by every step. -/

namespace Sys2Proof.Machine

/-! ## The single effects -/

/-- The Ship Clock moves, and nothing else does. -/
inductive ClockEffect (s : State) : State → Prop
  | advance (ms : Nat) : ClockEffect s (s.advanceTo ms)
  | shipTime (x : Nat) (range : x ≤ 86399) :
      ClockEffect s { s with clock := { s.clock with shipTime := some x } }
  | arrive (region : Nat) (low : 1 ≤ region) (high : region ≤ 7) :
      ClockEffect s { s with clock := { s.clock with port := .inPort, region := region } }
  | depart : ClockEffect s { s with clock := { s.clock with port := .atSea, region := 0 } }

/-- The link, the Retention Unit's own registers or the queue of commands change. -/
inductive LinkEffect (s : State) : State → Prop
  | transfer (x : Option Transfer) : LinkEffect s (s.setLink { s.link with transfer := x })
  | offer (c : Instr) : LinkEffect s (s.setLink (s.link.offer c))
  | readHead (r : Reply) (head : s.link.headReply = some r) : LinkEffect s (s.setLink s.link.readHead)
  | complete (r : Reply) : LinkEffect s (s.complete r)
  | raise (b : NoticeBody) : LinkEffect s (s.raise b)
  | fetchNotices : LinkEffect s s.fetchedNotices
  | entered : LinkEffect s (s.setLink s.link.entered)
  | emptied : LinkEffect s (s.setLink s.link.emptied)
  | registers (r : Retention) (n : Nat) (queue : List Instr) :
      LinkEffect s { s with retention := r, freeCount := n, pending := queue }

/-- Lane records are replaced and notices raised. -/
inductive LaneRun (s : State) : State → Prop
  | refl : LaneRun s s
  | lanes {t : State} (f : Four Lane) (before : LaneRun s t) : LaneRun s { t with lanes := f }
  | raise {t : State} (b : NoticeBody) (before : LaneRun s t) : LaneRun s (t.raise b)

/-- A lane whose gate and soft gate are both off. -/
def Lane.shut (l : Lane) : Bool := !l.gate && !l.softGate

/-- The lanes change lawfully; before the part is loaded no gate is opened. -/
structure LaneEffect (s t : State) : Prop where
  run : LaneRun s t
  law : s.laneLaw = true → t.laneLaw = true
  shut : s.loaded = true ∨ (s.lanes.all Lane.shut = true → t.lanes.all Lane.shut = true)

/-- The channel states in which R47 lets a relatch be owed. -/
def ChannelState.owes : ChannelState → Bool
  | .unknown => true
  | .released none _ => true
  | _ => false

/-- A channel record may take the place of a door's: it is PENDING if the old one was, and it owes a relatch
only as the old one did or because the order queue is full. -/
structure State.MayHold (s : State) (door : Nat) (c : Channel) : Prop where
  pending : c.state = .pending ↔ (s.channel door).state = .pending
  owed : c.relatchOwed = true →
    (s.channel door).relatchOwed = true ∧ ((s.channel door).state.owes = true → c.state.owes = true) ∨
      s.orderRoom = false ∧ c.state.owes = true

/-- A strike request joins its bus queue and the channel becomes PENDING (R58). -/
def State.requested (s : State) (door : Nat) : State :=
  let b := (s.doorConfig door).bus
  let s1 := s.setBus b { s.bus b with queue := (s.bus b).queue ++ [door] }
  s1.setChannel door { s1.channel door with state := .pending, relatchOwed := false }

/-- A door unit, the Strike Scheduler or a reader changes. -/
inductive DoorEffect (s : State) : State → Prop
  | reader (door : Nat) (r : Reader) : DoorEffect s (s.setReader door r)
  | audit (p : Nat) (n : Option Nat) :
      DoorEffect s { s with doorUnit := { s.doorUnit with auditPointer := p, auditNext := n } }
  | channel (door : Nat) (c : Channel) (loaded : s.loaded = true) (may : s.MayHold door c) :
      DoorEffect s (s.setChannel door c)
  | order (k : OrderKind) (door : Nat) (loaded : s.loaded = true) (room : s.orderRoom = true) :
      DoorEffect s (s.placeOrder k door)
  | release (b : Nat) (may : s.mayRelease b = true) : DoorEffect s (s.release b)
  | request (door : Nat) (loaded : s.loaded = true) (configured : (s.doorConfig door).configured = true)
      (idle : (s.channel door).state ≠ .pending)
      (room : (s.bus (s.doorConfig door).bus).queue.length < busQueueRoom) :
      DoorEffect s (s.requested door)
  | withdraw (door : Nat) (loaded : s.loaded = true) (pending : (s.channel door).state = .pending) :
      DoorEffect s ((s.withdraw door).openDoor door)
  | cancel (loaded : s.loaded = true) : DoorEffect s s.cancelRequests
  | fetch (some : s.scheduler.orders ≠ []) : DoorEffect s s.fetchOrders.refill

/-- What a balance and a limit obey (R13, R14). -/
def Account.Lawful (a : Account) : Prop :=
  a.limit ≤ 10000000 ∧ -10000000 ≤ a.balance ∧ a.balance + (a.held : Int) ≤ 10000000

/-- A card's own counters and issue change: what the tables and the Presence Tracker know of it stays. -/
structure Card.SameCard (c d : Card) : Prop where
  uid : d.uid = c.uid
  config : d.config = c.config
  presence : d.presence = c.presence
  departure : d.departure = c.departure

/-- An account's limit, status, balance or last adult departure change. -/
structure Account.SameAccount (a b : Account) : Prop where
  number : b.number = a.number
  held : b.held = a.held
  openTabs : b.openTabs = a.openTabs
  lawful : a.Lawful → b.Lawful

/-- DOOR.PUT in force (R18). -/
def State.doorPut (s : State) (door : Nat) (g : DoorConfig) : State :=
  if s.loaded then (s.setDoorConfig door g).handDoor door (s.doorConfig door).configured g.configured
  else s.setDoorConfig door g

/-- TIER.PUT in force (R21). -/
def State.tierPut (s : State) (n : Nat) (x : Tier) : State :=
  { s with store := { s.store with
    tiers := Table.set ⟨0#16, 0, 0⟩ s.store.tiers n x
    cards := if x.allowance < (s.tier n).allowance then
        Table.mapEntries (Card.trimmed n x.allowance) s.store.cards
      else s.store.cards } }

/-- The Credential Store changes, and the Presence Tracker with it. -/
inductive StoreEffect (s : State) : State → Prop
  | loadBegin (day : Nat) (unloaded : s.store.opState = .unloaded) : StoreEffect s { s with
      store := { s.store with opState := .loading }
      clock := { s.clock with shipDay := day } }
  | enterService (loading : s.store.opState = .loading) (passed : s.loadCheck = none) :
      StoreEffect s s.enterService
  | secure (loaded : s.loaded = true) : StoreEffect s (s.setMode .secure .secure)
  | reopen (loaded : s.loaded = true) : StoreEffect s (s.setMode .service .service)
  | newCard (slot uid issue : Nat) (g : CardConfig) (p : Presence)
      (initial : p = .expected ∨ p = .aboard) (fresh : s.cardByUid uid = none)
      (free : Table.freeSlot cardSlots s.store.cards = some slot) (refers : s.referenceFailure g = none) :
      StoreEffect s (s.newCard slot uid issue g p)
  | changeCard (slot : Nat) (c : Card) (g : CardConfig) (held : (slot, c) ∈ s.store.cards)
      (refers : s.referenceFailure g = none) : StoreEffect s (s.changeCard slot c g)
  | removeCard (slot : Nat) (c : Card) (held : (slot, c) ∈ s.store.cards)
      (tabs : s.engine.cardHasTab slot = false) : StoreEffect s (s.removeCard slot c)
  | card (slot : Nat) (c d : Card) (held : (slot, c) ∈ s.store.cards) (same : c.SameCard d)
      (used : c.allowanceUsed ≤ s.tierAllowance c.config.tier →
        d.allowanceUsed ≤ s.tierAllowance c.config.tier) : StoreEffect s (s.setCard slot d)
  | rolled : StoreEffect s s.rolled
  | move (slot : Nat) (c : Card) (new : Presence) (lane : Option Nat) (held : (slot, c) ∈ s.store.cards) :
      StoreEffect s (s.movePresence slot c new lane).state
  | newAccount (slot number limit : Nat) (status : AccountStatus) (fresh : s.accountByNumber number = none)
      (free : Table.freeSlot accountSlots s.store.accounts = some slot) (range : limit ≤ 10000000) :
      StoreEffect s (s.setAccount slot ⟨number, limit, status, 0, 0, 0, none⟩)
  | account (slot : Nat) (a b : Account) (held : (slot, a) ∈ s.store.accounts) (same : a.SameAccount b) :
      StoreEffect s (s.setAccount slot b)
  | removeAccount (slot : Nat) (a : Account) (held : (slot, a) ∈ s.store.accounts)
      (unnamed : s.cardsNaming a.number = 0) (tabs : a.openTabs = 0) : StoreEffect s { s with
        store := { s.store with accounts := Table.erase s.store.accounts slot } }
  | door (door : Nat) (g : DoorConfig) (free : s.loaded = true → s.doorInUse door g = false) :
      StoreEffect s (s.doorPut door g)
  | category (n : Nat) (x : Category) : StoreEffect s { s with store := { s.store with
      categories := Table.set ⟨false, false, 0⟩ s.store.categories n x } }
  | region (n x : Nat) : StoreEffect s { s with store := { s.store with
      regions := Table.set 0 s.store.regions n x } }
  | tier (n : Nat) (x : Tier) : StoreEffect s (s.tierPut n x)
  | setting (name : SettingName) (x : Nat) :
      StoreEffect s (s.setSettings (s.store.settings.write name x))

/-- Every DELIVERED record stands before every PENDING one (R100). -/
def deliveredFirst (ps : List Posting) : Prop :=
  (ps.dropWhile fun p => p.delivered).all Posting.isPending = true

/-- The two ends of an addition to a tab (R93): the tab and what its account holds. -/
def State.grownTab (s : State) (slot : Nat) (t : Tab) (a : Account) (x : Sums) (lines hold : Nat) : State :=
  (s.setTabSlot slot { s.tabSlot slot with
    state := .opened (t.added x lines hold s.clock.runSeconds) s.idleDeadline }).setAccount t.accountSlot
      { a with held := a.held + (hold - t.hold) }

/-- A tab waits for room in the posting queue (R96). -/
def State.closeTab (s : State) (slot : Nat) (t : Tab) (r : CloseReason) : State :=
  let s1 := s.setTabSlot slot { s.tabSlot slot with state := .closing t r }
  { s1 with engine := { s1.engine with waiting := s1.engine.waiting ++ [slot] } }

/-- The Charge Engine changes, and the money of accounts with it. -/
inductive MoneyEffect (s : State) : State → Prop
  | append (p : Posting) (loaded : s.loaded = true) (room : s.postRoom = true) (pending : p.delivered = false) :
      MoneyEffect s (s.appendPosting p)
  | postings (ps : List Posting) (numbers : ps.map Posting.number = s.engine.postings.map Posting.number)
      (order : deliveredFirst s.engine.postings → deliveredFirst ps) : MoneyEffect s (s.setPostings ps)
  | release (d : Nat) (delivered : d < s.engine.deliveredCount) :
      MoneyEffect s (s.removePostings d).serveWaiting.state
  | openTab (slot terminal cardSlot accountSlot : Nat) (c : Card) (a : Account) (hold : Nat)
      (loaded : s.loaded = true) (free : (s.tabSlot slot).state = .free) (range : terminal < 64)
      (heldCard : (cardSlot, c) ∈ s.store.cards) (aboard : c.presence.aboardShip = true)
      (heldAccount : (accountSlot, a) ∈ s.store.accounts) (two : a.openTabs < 2)
      (eight : s.terminalTabs terminal < 8) (available : hold ≤ a.available) :
      MoneyEffect s (s.openTab slot terminal cardSlot accountSlot a hold)
  | grow (slot : Nat) (t : Tab) (d : Nat) (a : Account) (x : Sums) (lines hold : Nat)
      (opened : (s.tabSlot slot).state = .opened t d) (heldAccount : (t.accountSlot, a) ∈ s.store.accounts)
      (grows : t.hold ≤ hold) (covers : t.sums.total + x.total ≤ hold)
      (available : hold - t.hold ≤ a.available) : MoneyEffect s (s.grownTab slot t a x lines hold)
  | settle (slot : Nat) (t : Tab) (d : Nat) (r : CloseReason) (opened : (s.tabSlot slot).state = .opened t d)
      (can : s.canSettle t = true) : MoneyEffect s (s.settle slot t r)
  | close (slot : Nat) (t : Tab) (d : Nat) (r : CloseReason) (opened : (s.tabSlot slot).state = .opened t d)
      (cannot : s.canSettle t = false) : MoneyEffect s (s.closeTab slot t r)

/-- A start of the whole part. -/
inductive StartEffect (s : State) : State → Prop
  | cold (v : WakeResult) : StartEffect s (s.coldStart v)
  | wake : StartEffect s s.wakeStart

/-- One effect on one part of the machine. -/
inductive Effect (s t : State) : Prop
  | clock (e : ClockEffect s t)
  | link (e : LinkEffect s t)
  | lane (e : LaneEffect s t)
  | door (e : DoorEffect s t)
  | store (e : StoreEffect s t)
  | money (e : MoneyEffect s t)
  | start (e : StartEffect s t)

/-- A run of effects, one after the other. -/
abbrev Run : State → State → Prop := Relation.ReflTransGen Effect

theorem ClockEffect.run {s t : State} (e : ClockEffect s t) : Run s t := .single (.clock e)
theorem LinkEffect.run {s t : State} (e : LinkEffect s t) : Run s t := .single (.link e)
theorem LaneEffect.run_effect {s t : State} (e : LaneEffect s t) : Run s t := .single (.lane e)
theorem DoorEffect.run {s t : State} (e : DoorEffect s t) : Run s t := .single (.door e)
theorem StoreEffect.run {s t : State} (e : StoreEffect s t) : Run s t := .single (.store e)
theorem MoneyEffect.run {s t : State} (e : MoneyEffect s t) : Run s t := .single (.money e)
theorem StartEffect.run {s t : State} (e : StartEffect s t) : Run s t := .single (.start e)

/-- A law that every effect keeps is kept along a run. -/
theorem Run.keeps {P : State → Prop} (h : ∀ s t, Effect s t → P s → P t) {s t : State} (r : Run s t)
    (hs : P s) : P t := by
  induction r with
  | refl => exact hs
  | tail _ e ih => exact h _ _ e ih

/-! ## What each family of effects leaves alone -/

theorem ClockEffect.frame {s t : State} (e : ClockEffect s t) : t = { s with clock := t.clock } := by
  cases e <;> rfl

theorem LinkEffect.frame {s t : State} (e : LinkEffect s t) :
    t = { s with link := t.link, retention := t.retention, freeCount := t.freeCount, pending := t.pending } := by
  cases e with
  | raise b => rw [State.raise_eq]; rfl
  | complete r =>
    obtain ⟨l, h⟩ := complete_link s r
    rw [h]; rfl
  | _ => rfl

theorem LaneRun.lanesOnly {s t : State} (r : LaneRun s t) : LanesOnly s t := by
  induction r with
  | refl => exact LanesOnly.refl s
  | lanes f _ ih => exact ih.trans rfl
  | raise b _ ih => exact ih.trans (raise_lanesOnly _ b)

theorem LaneEffect.frame {s t : State} (e : LaneEffect s t) : LanesOnly s t := e.run.lanesOnly

end Sys2Proof.Machine
end

section
/-! SUPPORT. The lanes: what each operation on a lane does to that lane's laws (R109 to R123). -/

namespace Sys2Proof.Machine

/-! ## One lane at a time -/

@[simp] theorem State.lane_setLane_self {n : Nat} (h : n < 4) (s : State) (l : Lane) :
    (s.setLane n l).lane n = l :=
  Four.get_set_self s.lanes h l

@[simp] theorem State.lane_raise (s : State) (b : NoticeBody) (n : Nat) : (s.raise b).lane n = s.lane n := by
  simp only [State.lane, State.raise_lanes]

theorem Four.all_iff {α : Type} (p : α → Bool) (f : Four α) :
    f.all p = true ↔ ∀ n, n < 4 → p (f.get n) = true := by
  simp only [Four.all, Bool.and_eq_true]
  constructor
  · rintro ⟨⟨⟨h0, h1⟩, h2⟩, h3⟩ n hn
    match n, hn with
    | 0, _ => exact h0
    | 1, _ => exact h1
    | 2, _ => exact h2
    | 3, _ => exact h3
  · exact fun h => ⟨⟨⟨h 0 (by omega), h 1 (by omega)⟩, h 2 (by omega)⟩, h 3 (by omega)⟩

/-- The laws of one lane. -/
def Lane.lawful (l : Lane) : Bool := l.law && l.countersLaw

theorem State.laneLaw_iff (s : State) : s.laneLaw = true ↔ ∀ n, n < 4 → (s.lane n).lawful = true :=
  Four.all_iff _ _

/-- `t` is `s` but for lane `n` and the notices raised. -/
structure OneLane (n : Nat) (s t : State) : Prop where
  run : LaneRun s t
  other : ∀ m, m < 4 → m ≠ n → t.lane m = s.lane m

theorem LaneRun.trans {s t u : State} (h1 : LaneRun s t) (h2 : LaneRun t u) : LaneRun s u := by
  induction h2 with
  | refl => exact h1
  | lanes f _ ih => exact .lanes f ih
  | raise b _ ih => exact .raise b ih

namespace OneLane
variable {n : Nat} {s t u : State}

theorem refl (n : Nat) (s : State) : OneLane n s s := ⟨.refl, fun _ _ _ => rfl⟩

theorem trans (h1 : OneLane n s t) (h2 : OneLane n t u) : OneLane n s u :=
  ⟨h1.run.trans h2.run, fun m hm hne => (h2.other m hm hne).trans (h1.other m hm hne)⟩

theorem setLane (n : Nat) (s : State) (l : Lane) : OneLane n s (s.setLane n l) :=
  ⟨.lanes _ .refl, fun _ hm hne => Four.get_set_other s.lanes hm hne l⟩

theorem raise (n : Nat) (s : State) (b : NoticeBody) : OneLane n s (s.raise b) :=
  ⟨.raise b .refl, fun m _ _ => s.lane_raise b m⟩

end OneLane

/-- One lane changes, lawfully, and no gate is opened in a shut lane. -/
structure LaneStep (n : Nat) (s t : State) : Prop where
  one : OneLane n s t
  lawful : (s.lane n).lawful = true → (t.lane n).lawful = true
  shut : (s.lane n).shut = true → (t.lane n).shut = true

namespace LaneStep
variable {n : Nat} {s t u : State}

theorem refl (n : Nat) (s : State) : LaneStep n s s := ⟨.refl n s, id, id⟩

theorem trans (h1 : LaneStep n s t) (h2 : LaneStep n t u) : LaneStep n s u :=
  ⟨h1.one.trans h2.one, h2.lawful ∘ h1.lawful, h2.shut ∘ h1.shut⟩

theorem setLane (hn : n < 4) {l : Lane} (lawful : (s.lane n).lawful = true → l.lawful = true)
    (shut : (s.lane n).shut = true → l.shut = true) : LaneStep n s (s.setLane n l) := by
  refine ⟨.setLane n s l, ?_, ?_⟩
  · rwa [State.lane_setLane_self hn]
  · rwa [State.lane_setLane_self hn]

theorem raise (n : Nat) (s : State) (b : NoticeBody) : LaneStep n s (s.raise b) := by
  refine ⟨.raise n s b, ?_, ?_⟩
  · rw [State.lane_raise]; exact id
  · rw [State.lane_raise]; exact id

end LaneStep

theorem OneLane.laneLaw {n : Nat} {s t : State} (h : OneLane n s t)
    (lawful : (s.lane n).lawful = true → (t.lane n).lawful = true) (hs : s.laneLaw = true) :
    t.laneLaw = true := by
  rw [State.laneLaw_iff] at hs ⊢
  intro m hm
  by_cases hmn : m = n
  · subst hmn
    exact lawful (hs m hm)
  · rw [h.other m hm hmn]
    exact hs m hm

theorem OneLane.allShut {n : Nat} {s t : State} (h : OneLane n s t)
    (shut : (s.lane n).shut = true → (t.lane n).shut = true) (hs : s.lanes.all Lane.shut = true) :
    t.lanes.all Lane.shut = true := by
  rw [Four.all_iff] at hs ⊢
  intro m hm
  by_cases hmn : m = n
  · subst hmn
    exact shut (hs m hm)
  · exact (congrArg Lane.shut (h.other m hm hmn)).trans (hs m hm)

theorem LaneStep.effect {n : Nat} {s t : State} (h : LaneStep n s t) : LaneEffect s t :=
  ⟨h.one.run, h.one.laneLaw h.lawful, .inr (h.one.allShut h.shut)⟩

/-! ## What the laws of a lane read -/

/-- Two lanes agree in what `Lane.law` and `Lane.shut` read. -/
structure Lane.SameGate (l m : Lane) : Prop where
  gate : m.gate = l.gate
  softGate : m.softGate = l.softGate
  brace : m.brace.level = l.brace.level
  s : m.s.level = l.s.level
  i : m.i.level = l.i.level
  flowEnd : m.flowEnd.isSome = l.flowEnd.isSome
  settling : m.settling = l.settling
  decoder : m.decoder = l.decoder
  mark : m.mark = l.mark

namespace Lane.SameGate
variable {l m : Lane}

theorem law (h : l.SameGate m) : m.law = l.law := by
  simp only [Lane.law, h.gate, h.softGate, h.brace, h.s, h.i, h.flowEnd, h.settling, h.decoder, h.mark]

theorem shut (h : l.SameGate m) : m.shut = l.shut := by
  simp only [Lane.shut, h.gate, h.softGate]

theorem trans {k : Lane} (h1 : k.SameGate l) (h2 : l.SameGate m) : k.SameGate m :=
  ⟨h2.gate.trans h1.gate, h2.softGate.trans h1.softGate, h2.brace.trans h1.brace, h2.s.trans h1.s,
    h2.i.trans h1.i, h2.flowEnd.trans h1.flowEnd, h2.settling.trans h1.settling,
    h2.decoder.trans h1.decoder, h2.mark.trans h1.mark⟩

end Lane.SameGate

/-- Writing a lane that keeps gate, levels, decoder and counters is a lawful step. -/
theorem LaneStep.same {n : Nat} (hn : n < 4) {s : State} {m : Lane} (gate : (s.lane n).SameGate m)
    (counters : (s.lane n).countersLaw = true → m.countersLaw = true) : LaneStep n s (s.setLane n m) := by
  refine .setLane hn (fun h => ?_) (fun h => gate.shut.trans h)
  simp only [Lane.lawful, Bool.and_eq_true] at h ⊢
  exact ⟨gate.law.trans h.1, counters h.2⟩

theorem Lane.setArmed_sameGate (l : Lane) (d : Direction) (v : Bool) : l.SameGate (l.setArmed d v) := by
  cases d <;> exact ⟨rfl, rfl, rfl, rfl, rfl, rfl, rfl, rfl, rfl⟩

theorem Lane.setArmed_countersLaw (l : Lane) (d : Direction) (v : Bool) :
    (l.setArmed d v).countersLaw = l.countersLaw := by
  cases d <;> rfl

theorem Lane.setBeam_sameGate (l : Lane) (b : Beam) {d : Debouncer} (h : d.level = (l.beam b).level) :
    l.SameGate (l.setBeam b d) := by
  cases b with
  | s => exact ⟨rfl, rfl, rfl, h, rfl, rfl, rfl, rfl, rfl⟩
  | i => exact ⟨rfl, rfl, rfl, rfl, h, rfl, rfl, rfl, rfl⟩

theorem Lane.setBeam_countersLaw (l : Lane) (b : Beam) (d : Debouncer) :
    (l.setBeam b d).countersLaw = l.countersLaw := by
  cases b <;> rfl

theorem Lane.forget_sameGate (l : Lane) (b : Beam) : l.SameGate (l.forget b) :=
  ⟨rfl, rfl, rfl, rfl, rfl, rfl, rfl, rfl, rfl⟩

theorem Lane.endChange_sameGate (l : Lane) (b : Beam) : l.SameGate (l.endChange b) := by
  unfold Lane.endChange
  exact (l.setBeam_sameGate b (d := { l.beam b with since := none }) rfl).trans (Lane.forget_sameGate _ b)

theorem Lane.endChange_countersLaw (l : Lane) (b : Beam) :
    (l.endChange b).countersLaw = l.countersLaw :=
  l.setBeam_countersLaw b _

/-! ## Counters and comparisons (R119, R121, R122, R123) -/

theorem bump_lt (n : Nat) : bump n < counterModulus := Nat.mod_lt _ (by decide)

theorem tailgate_laneStep {n : Nat} (hn : n < 4) (s : State) (d : Direction) :
    LaneStep n s (s.tailgate n d) := by
  have armed (v : Bool) : LaneStep n s (s.setLane n ((s.lane n).setArmed d v)) :=
    .same hn (Lane.setArmed_sameGate _ d v) (Lane.setArmed_countersLaw _ d v).trans
  unfold State.tailgate
  dsimp only
  split
  · split
    · exact (armed false).trans (.raise n _ _)
    · exact .refl n s
  · exact armed true

theorem countScan_laneStep {n : Nat} (hn : n < 4) (s : State) (d : Direction) :
    LaneStep n s (s.countScan n d) := by
  unfold State.countScan
  dsimp only
  refine LaneStep.trans ?_ (tailgate_laneStep hn _ d)
  refine .same hn ⟨rfl, rfl, rfl, rfl, rfl, rfl, rfl, rfl, rfl⟩ fun h => ?_
  simp only [Lane.countersLaw, Bool.and_eq_true, decide_eq_true_eq] at h ⊢
  cases d <;> simp [h, bump_lt]

theorem countPassage_laneStep {n : Nat} (hn : n < 4) (s : State) (p : Passage) :
    LaneStep n s (s.countPassage n p) := by
  have counted (c : LaneCounters) (hc : (s.lane n).countersLaw = true →
      ({ s.lane n with counters := c, flowCount := min ((s.lane n).flowCount + 1) 65535 } : Lane).countersLaw =
        true) :
      LaneStep n s (s.setLane n
        { s.lane n with counters := c, flowCount := min ((s.lane n).flowCount + 1) 65535 }) :=
    .same hn ⟨rfl, rfl, rfl, rfl, rfl, rfl, rfl, rfl, rfl⟩ hc
  simp only [Lane.countersLaw, Bool.and_eq_true, decide_eq_true_eq] at counted
  cases p with
  | inbound =>
    exact (counted { (s.lane n).counters with inbound := bump (s.lane n).counters.inbound }
      fun h => by simp [h, bump_lt]).trans (tailgate_laneStep hn _ .inward)
  | outbound =>
    exact (counted { (s.lane n).counters with outbound := bump (s.lane n).counters.outbound }
      fun h => by simp [h, bump_lt]).trans (tailgate_laneStep hn _ .outward)
  | ambiguous =>
    exact counted { (s.lane n).counters with ambiguous := bump (s.lane n).counters.ambiguous }
      fun h => by simp [h, bump_lt]

theorem crowding_laneStep {n : Nat} (hn : n < 4) (s : State) : LaneStep n s (s.crowding n) := by
  have armed (v : Bool) : LaneStep n s (s.setLane n { s.lane n with crowdingArmed := v }) :=
    .same hn ⟨rfl, rfl, rfl, rfl, rfl, rfl, rfl, rfl, rfl⟩ id
  unfold State.crowding
  dsimp only
  split
  · split
    · exact (armed false).trans (.raise n _ _)
    · exact .refl n s
  · exact armed true

/-! ## The gate (R112, R113) -/

theorem gateEffective_lawful {n : Nat} (hn : n < 4) {s : State} (soft : (s.lane n).softGate = true)
    (brace : (s.lane n).brace.level = true) : ((s.gateEffective n).lane n).lawful = true := by
  rw [State.gateEffective, State.lane_setLane_self hn]
  cases hs : (s.lane n).s.level <;> cases hi : (s.lane n).i.level <;>
    simp [Lane.lawful, Lane.law, Lane.countersLaw, soft, brace, hs, hi, counterModulus, Decoder.pattern]

/-- A lane after its gate is lost is lawful if its counters were and no gate is due any more. -/
theorem gateLoss_lawful {n : Nat} (hn : n < 4) {s : State} (r : HoldReason)
    (off : ((s.lane n).softGate && (s.lane n).brace.level) = false)
    (counters : (s.lane n).countersLaw = true) : ((s.gateLoss n r).lane n).lawful = true := by
  rw [State.gateLoss, State.lane_raise, State.lane_setLane_self hn]
  simp only [Lane.lawful, Bool.and_eq_true]
  exact ⟨by simp [Lane.law, off], counters⟩

theorem gateEffective_one (n : Nat) (s : State) : OneLane n s (s.gateEffective n) := .setLane n s _

theorem gateLoss_one (n : Nat) (s : State) (r : HoldReason) : OneLane n s (s.gateLoss n r) :=
  (OneLane.setLane n s _).trans (.raise n _ _)

theorem gate_of_lawful {l : Lane} (h : l.lawful = true) : l.gate = (l.softGate && l.brace.level) := by
  simp only [Lane.lawful, Lane.law, Bool.and_eq_true, beq_iff_eq, and_assoc] at h
  exact h.1

theorem countersLaw_of_lawful {l : Lane} (h : l.lawful = true) : l.countersLaw = true := by
  simp only [Lane.lawful, Bool.and_eq_true] at h
  exact h.2

/-- Gate, soft gate and brace of a lane whose gate is off may change while the gate stays off. -/
theorem lawful_of_gate_off {l : Lane} (h : l.lawful = true) (off : l.gate = false) (soft : Bool)
    (brace : Debouncer) (still : (soft && brace.level) = false) :
    ({ l with softGate := soft, brace := brace } : Lane).lawful = true := by
  have counters := countersLaw_of_lawful h
  simp only [Lane.lawful, Lane.law, off, still, Bool.and_eq_true, beq_iff_eq] at h ⊢
  obtain ⟨⟨⟨⟨-, flow⟩, atRest⟩, unmarked⟩, -⟩ := h
  exact ⟨⟨⟨⟨trivial, flow⟩, atRest⟩, unmarked⟩, counters⟩

theorem clearSoftGate_laneStep {n : Nat} (hn : n < 4) (s : State) (r : HoldReason) :
    LaneStep n s (s.clearSoftGate n r) := by
  unfold State.clearSoftGate
  dsimp only
  split
  next on =>
    refine ⟨(OneLane.setLane n s _).trans (gateLoss_one n _ r), fun h => gateLoss_lawful hn r ?_ ?_, ?_⟩
    · rw [State.lane_setLane_self hn]; rfl
    · rw [State.lane_setLane_self hn]; exact (countersLaw_of_lawful h :)
    · intro h
      simp [Lane.shut, on] at h
  next off =>
    exact .setLane hn (fun h => lawful_of_gate_off h (by simpa using off) false (s.lane n).brace rfl)
      (fun h => by simp_all [Lane.shut])

theorem setSoftGate_one (n : Nat) (s : State) : OneLane n s (s.setSoftGate n) := by
  unfold State.setSoftGate
  dsimp only
  split
  · exact .refl n s
  · split
    · exact (OneLane.setLane n s _).trans (gateEffective_one n _)
    · exact .setLane n s _

theorem setSoftGate_lawful {n : Nat} (hn : n < 4) {s : State} (h : (s.lane n).lawful = true) :
    ((s.setSoftGate n).lane n).lawful = true := by
  unfold State.setSoftGate
  dsimp only
  split
  · exact h
  next clear =>
    split
    next closed =>
      exact gateEffective_lawful hn (by rw [State.lane_setLane_self hn])
        (by rw [State.lane_setLane_self hn]; exact closed)
    next opened =>
      rw [State.lane_setLane_self hn]
      have off : (s.lane n).gate = false := by
        rw [gate_of_lawful h]; simp [Bool.eq_false_iff.mpr clear]
      exact lawful_of_gate_off h off true (s.lane n).brace (by simpa using opened)

theorem setSoftGate_effect {n : Nat} (hn : n < 4) (s : State) (loaded : s.loaded = true) :
    LaneEffect s (s.setSoftGate n) :=
  ⟨(setSoftGate_one n s).run, (setSoftGate_one n s).laneLaw (setSoftGate_lawful hn), .inl loaded⟩

theorem takeBrace_laneStep {n : Nat} (hn : n < 4) (s : State) : LaneStep n s (s.takeBrace n) := by
  unfold State.takeBrace
  dsimp only
  split
  next closed =>
    have wasOpen : (s.lane n).brace.level = false := by simpa [Debouncer.flip] using closed
    split
    next soft =>
      refine ⟨(OneLane.setLane n s _).trans (gateEffective_one n _), fun _ => gateEffective_lawful hn ?_ ?_, ?_⟩
      · rw [State.lane_setLane_self hn]; exact soft
      · rw [State.lane_setLane_self hn]; exact closed
      · intro h
        simp [Lane.shut, soft] at h
    next notSoft =>
      have clear : (s.lane n).softGate = false := by simpa using notSoft
      refine .setLane hn (fun h => ?_) id
      have off : (s.lane n).gate = false := by rw [gate_of_lawful h]; simp [clear]
      exact lawful_of_gate_off h off (s.lane n).softGate _ (by simp [clear])
  next opened =>
    split
    next on =>
      refine ⟨(OneLane.setLane n s _).trans (gateLoss_one n _ _), fun h => gateLoss_lawful hn _ ?_ ?_, ?_⟩
      · rw [State.lane_setLane_self hn]; simp [opened]
      · rw [State.lane_setLane_self hn]; exact (countersLaw_of_lawful h :)
      · intro h
        simp [Lane.shut, on] at h
    next off =>
      exact .setLane hn
        (fun h => lawful_of_gate_off h (by simpa using off) (s.lane n).softGate _ (by simp [opened])) id

/-! ## Beam changes (R110, R111, R117, R118) -/

/-- What an event does to the pattern of the beams. -/
def BeamEvent.moves : BeamEvent → Bool × Bool → Bool × Bool
  | .single .s, p => (!p.1, p.2)
  | .single .i, p => (p.1, !p.2)
  | .double, p => (!p.1, !p.2)

/-- The decoder follows the beams (R117). -/
theorem Decoder.pattern_step (d : Decoder) (e : BeamEvent) :
    (d.step e).next.pattern = e.moves d.pattern := by
  cases d <;> rcases e with ⟨⟨⟩⟩ | _ <;> rfl

theorem Lane.levels_moveLevels (l : Lane) (e : BeamEvent) :
    ((l.moveLevels e).s.level, (l.moveLevels e).i.level) = e.moves (l.s.level, l.i.level) := by
  rcases e with ⟨⟨⟩⟩ | _ <;> rfl

/-- Moving the levels of the beams leaves the rest of a lane. -/
theorem Lane.moveLevels_eq (l : Lane) (e : BeamEvent) :
    l.moveLevels e = { l with s := (l.moveLevels e).s, i := (l.moveLevels e).i } := by
  rcases e with ⟨⟨⟩⟩ | _ <;> rfl

/-- A lane whose decoder stood for the beams before an event, and whose levels have moved by it, is lawful once
the decoder has taken the event. -/
theorem decodeBeams_lawful {n : Nat} (hn : n < 4) {s : State} {l : Lane} (e : BeamEvent)
    (h : l.lawful = true) (gate : l.gate = true) (settled : l.settling = false)
    (moved : s.lane n = l.moveLevels e) : ((s.decodeBeams n e).lane n).lawful = true := by
  have counters := countersLaw_of_lawful h
  have law : ({ l.moveLevels e with
      decoder := ((l.moveLevels e).decoder.step e).next
      mark := if ((l.moveLevels e).decoder.step e).next = .clear then false
        else (l.moveLevels e).mark || ((l.moveLevels e).decoder.step e).mark } : Lane).lawful = true := by
    have pattern := Decoder.pattern_step l.decoder e
    have levels := l.levels_moveLevels e
    rw [Lane.moveLevels_eq l e]
    simp only [Lane.lawful, Lane.law, gate, settled, Bool.and_eq_true, decide_eq_true_eq, beq_iff_eq,
      if_true, Bool.false_eq_true, if_false] at h ⊢
    obtain ⟨⟨⟨⟨on, flow⟩, stands⟩, -⟩, -⟩ := h
    refine ⟨⟨⟨⟨on, flow⟩, ?_⟩, ?_⟩, counters⟩
    · rw [pattern, levels, stands]
    · by_cases clear : (l.decoder.step e).next = .clear <;> simp [clear]
  unfold State.decodeBeams
  dsimp only
  rw [moved]
  split
  · rw [State.lane_setLane_self hn]
    exact law
  · refine (countPassage_laneStep hn _ _).lawful ?_
    rw [State.lane_setLane_self hn]
    exact law

theorem decodeBeams_one {n : Nat} (hn : n < 4) (s : State) (e : BeamEvent) :
    OneLane n s (s.decodeBeams n e) := by
  unfold State.decodeBeams
  dsimp only
  split
  · exact .setLane n s _
  · exact (OneLane.setLane n s _).trans (countPassage_laneStep hn _ _).one

theorem Lane.moveLevels_gate (l : Lane) (e : BeamEvent) : (l.moveLevels e).gate = l.gate := by
  rw [Lane.moveLevels_eq]

theorem Lane.moveLevels_settling (l : Lane) (e : BeamEvent) : (l.moveLevels e).settling = l.settling := by
  rw [Lane.moveLevels_eq]

theorem Lane.moveLevels_shut (l : Lane) (e : BeamEvent) : (l.moveLevels e).shut = l.shut := by
  rw [Lane.moveLevels_eq]; rfl

/-- Beams moving under a gate that is off are lawful. -/
theorem moveLevels_lawful_of_gate_off {l : Lane} (e : BeamEvent) (h : l.lawful = true) (off : l.gate = false) :
    (l.moveLevels e).lawful = true := by
  have counters := countersLaw_of_lawful h
  rw [Lane.moveLevels_eq]
  simp only [Lane.lawful, Lane.law, off, Bool.and_eq_true, Bool.false_eq_true, if_false] at h ⊢
  obtain ⟨law, -⟩ := h
  exact ⟨law, counters⟩

/-- While settling holds the decoder in CLEAR the beams may move; settling ends once both are CLEAR. -/
theorem moveLevels_lawful_of_settling {l : Lane} (e : BeamEvent) (h : l.lawful = true) (on : l.gate = true)
    (settling : l.settling = true) :
    if (!(l.moveLevels e).s.level && !(l.moveLevels e).i.level) = true then
      ({ l.moveLevels e with settling := false } : Lane).lawful = true
    else (l.moveLevels e).lawful = true := by
  have counters := countersLaw_of_lawful h
  rw [Lane.moveLevels_eq]
  simp only [Lane.lawful, Lane.law, on, settling, Bool.and_eq_true, if_true, decide_eq_true_eq] at h ⊢
  obtain ⟨⟨⟨⟨gate, flow⟩, ⟨clear, -⟩, unmarked⟩, marked⟩, -⟩ := h
  split
  next bothClear =>
    simp only [Bool.not_eq_true'] at bothClear
    refine ⟨⟨⟨⟨gate, flow⟩, ?_⟩, marked⟩, counters⟩
    simp [clear, Decoder.pattern, bothClear]
  next broken =>
    refine ⟨⟨⟨⟨gate, flow⟩, ⟨clear, ?_⟩, unmarked⟩, marked⟩, counters⟩
    cases hs : (l.moveLevels e).s.level
    · cases hi : (l.moveLevels e).i.level
      · exact absurd ⟨by rw [hs]; rfl, by rw [hi]; rfl⟩ broken
      · rfl
    · rfl

theorem takeBeams_laneStep {n : Nat} (hn : n < 4) (s : State) (e : BeamEvent) :
    LaneStep n s (s.takeBeams n e) := by
  unfold State.takeBeams
  dsimp only
  split
  next on =>
    rw [Lane.moveLevels_gate] at on
    have notShut : ¬ (s.lane n).shut = true := by simp [Lane.shut, on]
    split
    next settling =>
      rw [Lane.moveLevels_settling] at settling
      refine ⟨?_, fun h => ?_, fun h => absurd h notShut⟩
      · split
        · exact (OneLane.setLane n s _).trans (.setLane n _ _)
        · exact .setLane n s _
      · have lawful := moveLevels_lawful_of_settling e h on settling
        split
        next bothClear =>
          rw [State.lane_setLane_self hn]
          rwa [if_pos bothClear] at lawful
        next broken =>
          rw [State.lane_setLane_self hn]
          rwa [if_neg broken] at lawful
    next settled =>
      rw [Lane.moveLevels_settling] at settled
      have moved : (s.setLane n ((s.lane n).moveLevels e)).lane n = (s.lane n).moveLevels e :=
        State.lane_setLane_self hn s _
      refine ⟨(OneLane.setLane n s _).trans (decodeBeams_one hn _ e), fun h => ?_, fun h => absurd h notShut⟩
      exact decodeBeams_lawful hn e h on (by simpa using settled) moved
  next off =>
    rw [Lane.moveLevels_gate] at off
    exact .setLane hn (fun h => moveLevels_lawful_of_gate_off e h (by simpa using off))
      (Lane.moveLevels_shut _ e).trans

/-- A lane whose gate stays as it is takes a beam change. -/
theorem setLane_takeBeams_laneStep {n : Nat} (hn : n < 4) (s : State) {l : Lane} (e : BeamEvent)
    (gate : (s.lane n).SameGate l) (counters : l.countersLaw = (s.lane n).countersLaw) :
    LaneStep n s ((s.setLane n l).takeBeams n e) :=
  LaneStep.trans (.same hn gate counters.trans) (takeBeams_laneStep hn _ e)

theorem takeHeld_laneStep {n : Nat} (hn : n < 4) (s : State) : LaneStep n s (s.takeHeld n) := by
  unfold State.takeHeld
  split
  · exact setLane_takeBeams_laneStep hn s _ ⟨rfl, rfl, rfl, rfl, rfl, rfl, rfl, rfl, rfl⟩ rfl
  · exact .refl n s

theorem expireHeld_laneStep {n : Nat} (hn : n < 4) (s : State) : LaneStep n s (s.expireHeld n) := by
  unfold State.expireHeld
  refine LaneStep.trans ?_ (takeHeld_laneStep hn _)
  exact .same hn ⟨rfl, rfl, rfl, rfl, rfl, rfl, rfl, rfl, rfl⟩ id

theorem endChange_laneStep {n : Nat} (hn : n < 4) (s : State) (b : Beam) :
    LaneStep n s (s.setLane n ((s.lane n).endChange b)) :=
  .same hn (Lane.endChange_sameGate _ b) (Lane.endChange_countersLaw _ b).trans

theorem beamEdge_laneStep {n : Nat} (hn : n < 4) (s : State) (b : Beam) (low : Bool) :
    LaneStep n s (s.beamEdge n b low) := by
  have edge : LaneStep n s (s.setLane n (((s.lane n).setBeam b
      (((s.lane n).beam b).edge ((s.lane n).reference b) low s.clock.ms)).forget b)) :=
    have set := (s.lane n).setBeam_sameGate b
      (d := ((s.lane n).beam b).edge ((s.lane n).reference b) low s.clock.ms) rfl
    .same hn (set.trans (Lane.forget_sameGate _ b)) (Lane.setBeam_countersLaw _ b _).trans
  unfold State.beamEdge
  dsimp only
  split
  · exact edge.trans (takeHeld_laneStep hn _)
  · exact edge

theorem inputEdge_laneStep {n : Nat} (hn : n < 4) (s : State) (input : LaneInput) (low : Bool) :
    LaneStep n s (s.inputEdge n input low) := by
  cases input with
  | beam b => exact beamEdge_laneStep hn s b low
  | brace => exact .same hn ⟨rfl, rfl, rfl, rfl, rfl, rfl, rfl, rfl, rfl⟩ id

theorem movePin_laneStep {n : Nat} (hn : n < 4) (s : State) (input : LaneInput) (low : Bool) :
    LaneStep n s (s.setLane n ((s.lane n).movePin input low)) := by
  cases input with
  | beam b => exact .same hn (Lane.setBeam_sameGate _ b rfl) (Lane.setBeam_countersLaw _ b _).trans
  | brace => exact .same hn ⟨rfl, rfl, rfl, rfl, rfl, rfl, rfl, rfl, rfl⟩ id

theorem laneEdge_effect (n : Nat) (s : State) (input : LaneInput) (low : Bool) :
    LaneEffect s (s.laneEdge n input low) := by
  unfold State.laneEdge
  split
  next => exact ⟨.refl, id, .inr id⟩
  next h =>
    have hn : n < 4 := by omega
    split
    · exact (inputEdge_laneStep hn s input low).effect
    · exact (movePin_laneStep hn s input low).effect

/-! ## Stable changes, the pairing wait and the flow window -/

/-- The clock moves to the end of the debounce, and a lane step follows. -/
theorem beamStable_step {n : Nat} (hn : n < 4) (s : State) (b : Beam) (since : Nat) :
    LaneStep n (s.advanceTo (s.stableAt since)) (s.beamStable n b since) := by
  unfold State.beamStable
  dsimp only
  split
  · exact expireHeld_laneStep hn _
  · exact .refl n _

theorem beamTaken_step {n : Nat} (hn : n < 4) {b : Beam} {s t : State} (h : beamTaken n b s = some t) :
    ∃ ms, LaneStep n (s.advanceTo ms) t := by
  unfold beamTaken at h
  obtain ⟨since, -, h⟩ := Option.bind_eq_some_iff.mp h
  have stable := beamStable_step hn s b since
  dsimp only at h
  generalize s.beamStable n b since = u at h stable
  refine ⟨_, stable.trans ?_⟩
  have ended : LaneStep n u (u.setLane n ((u.lane n).endChange b)) := endChange_laneStep hn u b
  split at h
  · cases h
    exact ended.trans (takeBeams_laneStep hn _ _)
  · split at h
    · cases h
      refine ended.trans (setLane_takeBeams_laneStep hn _ .double ?_ ?_)
      · rw [State.lane_setLane_self hn]; exact ⟨rfl, rfl, rfl, rfl, rfl, rfl, rfl, rfl, rfl⟩
      · rw [State.lane_setLane_self hn]; rfl
    · split at h
      · cases h
        exact ended.trans (takeBeams_laneStep hn _ _)
      · split at h
        · cases h
          refine ended.trans (setLane_takeBeams_laneStep hn _ .double ?_ ?_)
          · rw [State.lane_setLane_self hn]; exact Lane.endChange_sameGate _ _
          · rw [State.lane_setLane_self hn]; exact Lane.endChange_countersLaw _ _
        · cases h

theorem beamHeld_step {n : Nat} (hn : n < 4) {b : Beam} {s t : State} (h : beamHeld n b s = some t) :
    ∃ ms, LaneStep n (s.advanceTo ms) t := by
  unfold beamHeld at h
  obtain ⟨since, -, h⟩ := Option.bind_eq_some_iff.mp h
  have stable := beamStable_step hn s b since
  dsimp only at h
  generalize s.beamStable n b since = u at h stable
  refine ⟨_, stable.trans ?_⟩
  split at h
  · cases h
    refine (endChange_laneStep hn u b).trans (.same hn ?_ ?_)
    · rw [State.lane_setLane_self hn]; exact ⟨rfl, rfl, rfl, rfl, rfl, rfl, rfl, rfl, rfl⟩
    · rw [State.lane_setLane_self hn]; exact id
  · cases h

theorem pairingExpires_step {n : Nat} (hn : n < 4) {s t : State} (h : pairingExpires n s = some t) :
    ∃ ms, LaneStep n (s.advanceTo ms) t := by
  obtain ⟨held, -, rfl⟩ := Option.map_eq_some_iff.mp h
  exact ⟨_, expireHeld_laneStep hn _⟩

theorem braceTaken_step {n : Nat} (hn : n < 4) {s t : State} (h : braceTaken n s = some t) :
    ∃ ms, LaneStep n (s.advanceTo ms) t := by
  obtain ⟨since, -, rfl⟩ := Option.map_eq_some_iff.mp h
  exact ⟨_, takeBrace_laneStep hn _⟩

theorem flowCloses_step {n : Nat} (hn : n < 4) {s t : State} (h : flowCloses n s = some t) :
    ∃ ms, LaneStep n (s.advanceTo ms) t := by
  unfold flowCloses at h
  split at h
  next e on flow =>
    cases h
    refine ⟨e, ?_⟩
    have on' : ((s.advanceTo e).lane n).gate = true := on
    have flow' : ((s.advanceTo e).lane n).flowEnd = some e := flow
    generalize s.advanceTo e = u at on' flow' ⊢
    have gate : (u.lane n).SameGate ((u.crowding n).lane n) := by
      unfold State.crowding
      dsimp only
      split
      · split
        · rw [State.lane_raise, State.lane_setLane_self hn]; exact ⟨rfl, rfl, rfl, rfl, rfl, rfl, rfl, rfl, rfl⟩
        · exact ⟨rfl, rfl, rfl, rfl, rfl, rfl, rfl, rfl, rfl⟩
      · rw [State.lane_setLane_self hn]; exact ⟨rfl, rfl, rfl, rfl, rfl, rfl, rfl, rfl, rfl⟩
    refine (crowding_laneStep hn u).trans (.same hn ?_ fun h => ?_)
    · exact ⟨rfl, rfl, rfl, rfl, rfl, by rw [gate.flowEnd, flow']; rfl, rfl, rfl, rfl⟩
    · simp only [Lane.countersLaw, Bool.and_eq_true] at h ⊢
      exact ⟨h.1, rfl⟩
  · cases h

/-! ## The four lanes -/

theorem captured_effect (s : State) : LaneEffect s { s with lanes := Four.map Lane.captured s.lanes } :=
  ⟨.lanes _ .refl, id, .inr id⟩

end Sys2Proof.Machine
end

section
/-! SUPPORT. Every command is a run of single effects: the operations of the blocks first, the requests and the
events after them, and the step at the end. -/

namespace Sys2Proof.Machine

/-! ## The link, the registers and the clock -/

theorem raise_run (s : State) (b : NoticeBody) : Run s (s.raise b) := (LinkEffect.raise b).run

theorem advanceTo_run (s : State) (ms : Nat) : Run s (s.advanceTo ms) := (ClockEffect.advance ms).run

theorem advanceToSecond_run (s : State) (r : Nat) : Run s (s.advanceToSecond r) := by
  unfold State.advanceToSecond
  split
  · exact .refl
  · exact advanceTo_run s _

theorem registers_run (s : State) (r : Retention) (n : Nat) (queue : List Instr) :
    Run s { s with retention := r, freeCount := n, pending := queue } :=
  (LinkEffect.registers r n queue).run

theorem retention_run (s : State) (r : Retention) : Run s { s with retention := r } :=
  registers_run s r s.freeCount s.pending

theorem transfer_run (s : State) (x : Option Transfer) :
    Run s (s.setLink { s.link with transfer := x }) := (LinkEffect.transfer x).run

theorem enter_run (s : State) : Run s s.enter :=
  (retention_run s { s.retention with phase := .entering }).trans LinkEffect.entered.run

/-! ## Serving a request -/

theorem turn_run {s u : State} {c : Instr} (h : s.turn c = .runs u ∨ s.turn c = .waits u) : Run s u := by
  unfold State.turn at h
  split_ifs at h with events executing frames
  · rcases h with ⟨⟨⟩⟩ | ⟨⟨⟩⟩
    exact .refl
  · have offered := (LinkEffect.offer (s := s) c.asFramed).run
    dsimp only at h
    split_ifs at h
    · rcases h with ⟨⟨⟩⟩ | ⟨⟨⟩⟩
      exact offered
    · rcases h with ⟨⟨⟩⟩ | ⟨⟨⟩⟩
      exact offered
  · rcases h with ⟨⟨⟩⟩ | ⟨⟨⟩⟩
    exact .refl
  · rcases h with ⟨⟨⟩⟩ | ⟨⟨⟩⟩
    exact .refl

theorem serve_run {c : Instr} {run : State → State × Answer} {s t : State} (h : ∀ s, Run s (run s).1)
    (e : serve c run s = .next t) : Run s t := by
  unfold serve at e
  split at e
  next u turn => cases e; exact turn_run (.inr turn)
  next u turn => cases e; exact ((turn_run (.inl turn)).trans (h u)).trans (LinkEffect.complete _).run

theorem serveFor_run {span : Span} {c : Instr} {run : State → State × Answer} {s t : State}
    (h : ∀ s, Run s (run s).1) (e : serveFor span c run s = .next t) : Run s t := by
  cases span with
  | whole => exact serve_run h e
  | takesTime =>
    simp only [serveFor] at e
    split at e
    next u turn => cases e; exact turn_run (.inr turn)
    next u turn => cases e; exact turn_run (.inl turn)

/-- A request that its gate takes runs as its block does. -/
theorem judged_run {α : Type} {gate : Gate} {q : Body α} {block : α → State → State × Answer}
    (h : ∀ x s, gate.refusal s.store.opState = none → Run s (block x s).1) (s : State) :
    Run s (judged gate q block s).1 := by
  unfold judged
  split
  · exact .refl
  · split
    · exact .refl
    next taken => exact h _ s taken

theorem happens_run {event : State → Option State} {s t : State} (h : ∀ u, event s = some u → Run s u)
    (e : happens event s = .next t) : Run s t := by
  unfold happens at e
  split at e
  · cases e
    cases he : event s with
    | none => exact .refl
    | some u => exact h u he
  · cases e
    exact .refl

theorem onlyLanes_run {n : Nat} {event : State → Option State} {s u : State}
    (h : n < 4 → event s = some u → Run s u) (e : onlyLanes n event s = some u) : Run s u := by
  unfold onlyLanes at e
  split at e
  · cases e
  · exact h (by omega) e

theorem loaded_of_whenLoaded {s : State} (h : Gate.whenLoaded.refusal s.store.opState = none) :
    s.loaded = true := by
  cases o : s.store.opState with
  | unloaded => rw [o] at h; cases h
  | loading => rw [o] at h; cases h
  | service => simp [State.loaded, o]
  | secure => simp [State.loaded, o]

/-! ## Doors -/

@[simp] theorem State.channel_setChannel_self (s : State) (d : Nat) (c : Channel) :
    (s.setChannel d c).channel d = c :=
  Table.get_set_self _ _ d c

@[simp] theorem State.channel_setChannel_other (s : State) {d k : Nat} (c : Channel) (h : k ≠ d) :
    (s.setChannel d c).channel k = s.channel k :=
  Table.get_set_other _ _ c h

/-- A record that is not PENDING, owes nothing and takes the place of one that is not PENDING. -/
theorem State.MayHold.of_clear {s : State} {d : Nat} {c : Channel} (was : (s.channel d).state ≠ .pending)
    (state : c.state ≠ .pending) (owed : c.relatchOwed = false) : s.MayHold d c :=
  ⟨⟨fun h => absurd h state, fun h => absurd h was⟩, fun h => by simp [owed] at h⟩

/-- A record that differs in its state only. -/
theorem State.MayHold.of_state {s : State} {d : Nat} {v : ChannelState} (was : (s.channel d).state ≠ .pending)
    (state : v ≠ .pending) (owes : (s.channel d).state.owes = true → v.owes = true) :
    s.MayHold d { s.channel d with state := v } :=
  ⟨⟨fun h => absurd h state, fun h => absurd h was⟩, fun h => .inl ⟨h, owes⟩⟩

theorem callRelatch_run {s : State} {d : Nat} {v : ChannelState} (loaded : s.loaded = true)
    (was : (s.channel d).state ≠ .pending) (owes : v.owes = true) : Run s (s.callRelatch d v) := by
  have owing : v ≠ .pending := by rintro rfl; cases owes
  unfold State.callRelatch
  dsimp only
  split
  next room =>
    exact (DoorEffect.order .relatch d loaded room).run.trans
      (DoorEffect.channel (s := s.placeOrder .relatch d) d _ loaded (.of_clear was (by simp) rfl)).run
  next full =>
    refine (DoorEffect.channel d _ loaded ⟨⟨fun h => absurd h owing, fun h => absurd h was⟩, fun _ => ?_⟩).run
    exact .inr ⟨by simpa using full, owes⟩

theorem release_run {s : State} {b : Nat} (may : s.mayRelease b = true) : Run s (s.release b) :=
  (DoorEffect.release b may).run

theorem considerFor_run (fuel : Nat) : ∀ (s : State) (b : Nat), Run s (s.considerFor fuel b) := by
  induction fuel with
  | zero => exact fun _ _ => .refl
  | succ n ih =>
    intro s b
    simp only [State.considerFor]
    split
    next may => exact (release_run may).trans (ih _ b)
    next => exact .refl

theorem consider_run (s : State) (b : Nat) : Run s (s.consider b) := considerFor_run _ s b

theorem rotateFor_run (fuel : Nat) : ∀ s : State, Run s (s.rotateFor fuel) := by
  induction fuel with
  | zero => exact fun _ => .refl
  | succ n ih =>
    intro s
    simp only [State.rotateFor]
    split
    next b found => exact (release_run (List.find?_some found)).trans (ih _)
    next => exact .refl

theorem considerAll_run (s : State) : Run s s.considerAll := rotateFor_run _ s

theorem strikeRequest_run {s : State} {d : Nat} (loaded : s.loaded = true)
    (configured : (s.doorConfig d).configured = true) (idle : (s.channel d).state ≠ .pending) :
    Run s (s.strikeRequest d).state := by
  unfold State.strikeRequest
  dsimp only
  split
  next room => exact (DoorEffect.request d loaded configured idle room).run.trans (consider_run _ _)
  next => exact .refl

theorem grantAt_run {s : State} {d : Nat} (loaded : s.loaded = true)
    (configured : (s.doorConfig d).configured = true) : Run s (s.grantAt d).state := by
  unfold State.grantAt
  split
  next => exact .refl
  next => exact .refl
  next => exact .refl
  next timer confirm was =>
    exact (DoorEffect.channel d _ loaded (.of_clear (by rw [was]; simp) (by simp) rfl)).run
  next idle _ _ _ => exact strikeRequest_run loaded configured idle

theorem reportTransition_run {s : State} (d : Nat) (loaded : s.loaded = true) (c : Contact) (l : Latch) :
    Run s (s.reportTransition d c l) := by
  have opens (was : (s.channel d).state ≠ .pending) : Run s (s.openDoor d) :=
    (DoorEffect.channel d _ loaded (.of_clear was (by simp) rfl)).run
  have secures (was : (s.channel d).state ≠ .pending) : Run s (s.secureDoor d) :=
    (DoorEffect.channel d _ loaded (.of_clear was (by simp) rfl)).run
  unfold State.reportTransition
  split
  · unfold State.reportOpen
    split
    next was => exact (DoorEffect.withdraw d loaded was).run
    next => exact .refl
    next => exact .refl
    next was _ _ => exact opens was
  · unfold State.reportLatched
    split
    next => exact .refl
    next was =>
      split
      · exact secures (by rw [was]; simp)
      · exact .refl
    next was _ => exact secures was
  · unfold State.reportUnlatched
    split
    next was =>
      split
      · exact .refl
      · exact callRelatch_run loaded (by rw [was]; simp) rfl
    next was => exact callRelatch_run loaded (by rw [was]; simp) rfl
    next was => exact callRelatch_run loaded (by rw [was]; simp) rfl
    next was => exact callRelatch_run loaded (by rw [was]; simp) rfl
    next timer confirm was =>
      refine (DoorEffect.channel d _ loaded (.of_state (by rw [was]; simp) (by simp) ?_)).run
      rw [was]
      cases timer <;> exact id
    next => exact .refl
    next => exact .refl
    next => exact .refl

theorem takeReport_run {s : State} (d : Nat) (loaded : s.loaded = true) (c : Contact) (l : Latch)
    (dnd poll : Bool) : Run s (s.takeReport d c l dnd poll) := by
  unfold State.takeReport
  dsimp only
  refine Relation.ReflTransGen.trans (b := s.setChannel d _)
    (DoorEffect.channel d _ loaded ⟨?_, fun h => .inl ⟨?_, ?_⟩⟩).run
    (reportTransition_run (s := s.setChannel d _) d loaded c l)
  · split <;> exact Iff.rfl
  · split at h <;> exact h
  · split <;> exact id

theorem faultDoor_run {s : State} {d : Nat} (v : DoorFault) (loaded : s.loaded = true)
    (was : (s.channel d).state ≠ .pending) : Run s (s.faultDoor d v) :=
  (DoorEffect.channel d _ loaded (.of_clear was (by simp) rfl)).run.trans (raise_run _ _)

theorem auditDoor_secured {s : State} {d : Nat} (h : s.auditDoor = some d) :
    (s.channel d).state = .secured := by
  have listed : ∀ x ∈ (s.store.doors.filter s.auditable).map Prod.fst, (s.channel x).state = .secured := by
    intro x hx
    obtain ⟨e, he, rfl⟩ := List.mem_map.mp hx
    have secured := (List.mem_filter.mp he).2
    simp only [State.auditable, Bool.and_eq_true, decide_eq_true_eq] at secured
    exact secured.2
  unfold State.auditDoor at h
  dsimp only at h
  split at h
  next found => cases h; exact listed _ (List.mem_of_find?_eq_some found)
  next => exact listed _ (List.mem_of_mem_head? (by rw [h]; rfl))

theorem auditVisit_run {s : State} {d : Nat} (loaded : s.loaded = true) (room : s.orderRoom = true)
    (was : (s.channel d).state = .secured) : Run s (s.auditVisit d) := by
  have notPending : (s.channel d).state ≠ .pending := by rw [was]; simp
  have same {c : Channel} (state : c.state = (s.channel d).state)
      (owed : c.relatchOwed = (s.channel d).relatchOwed) : s.MayHold d c :=
    ⟨by rw [state], fun h => .inl ⟨owed.symm.trans h, by rw [state]; exact id⟩⟩
  unfold State.auditVisit
  dsimp only
  split
  · split
    · refine Relation.ReflTransGen.trans (DoorEffect.channel d _ loaded ?_).run (raise_run _ _)
      refine ⟨by simp [notPending], fun h => .inl ⟨h, ?_⟩⟩
      rw [was]
      exact fun h => by cases h
    · refine (DoorEffect.channel d _ loaded ?_).run
      exact same rfl rfl
  · refine (DoorEffect.order .poll d loaded room).run.trans
      (DoorEffect.channel (s := s.placeOrder .poll d) d _ loaded ?_).run
    exact ⟨Iff.rfl, fun h => .inl ⟨h, id⟩⟩

theorem auditAct_run {s : State} (loaded : s.loaded = true) : Run s s.auditAct := by
  unfold State.auditAct
  split
  · exact .refl
  · split
    next room =>
      split
      next => exact .refl
      next d found =>
        have visited : Run s { s with doorUnit := { s.doorUnit with auditPointer := (d + 1) % doorCount } } :=
          (DoorEffect.audit _ s.doorUnit.auditNext).run
        exact visited.trans (auditVisit_run loaded room (auditDoor_secured (s := s) found :))
    next => exact .refl

theorem auditSchedule_run (s : State) : Run s s.auditSchedule :=
  (DoorEffect.audit s.doorUnit.auditPointer _).run

theorem fetchOrders_of_empty {s : State} (h : s.scheduler.orders = []) : s.fetchOrders = s := by
  unfold State.fetchOrders
  rw [h]
  show { s with scheduler := { s.scheduler with orders := [] } } = s
  rw [← h]

theorem lockVisit_run {l : Lockdown} (d : Nat) (loaded : l.state.loaded = true) :
    Run l.state (l.visit d).state := by
  unfold Lockdown.visit
  split
  next was => exact callRelatch_run loaded (by rw [was]; simp) rfl
  next => exact .refl

theorem loaded_of_doorsOnly {s t : State} (h : DoorsOnly s t) : t.loaded = s.loaded := by
  rw [h]; rfl

theorem lockDoors_run {s : State} (loaded : s.loaded = true) : Run s s.lockDoors.state := by
  have visits : ∀ (ds : List Nat) (l : Lockdown), l.state.loaded = true →
      Run l.state (ds.foldl Lockdown.visit l).state := by
    intro ds
    induction ds with
    | nil => exact fun _ _ => .refl
    | cons d ds ih =>
      intro l hl
      exact (lockVisit_run d hl).trans (ih _ ((loaded_of_doorsOnly (visit_doorsOnly l d)).trans hl))
  exact (DoorEffect.cancel loaded).run.trans
    (visits _ ⟨s.cancelRequests, 0⟩ ((loaded_of_doorsOnly (cancelRequests_doorsOnly s)).trans loaded))

/-! ## Lanes -/

theorem LaneStep.run {n : Nat} {s t : State} (h : LaneStep n s t) : Run s t := h.effect.run_effect

theorem closeLanes_run (s : State) (r : HoldReason) : Run s (s.closeLanes r) := by
  have step (n : Nat) (hn : n < 4) (s : State) : Run s (s.clearSoftGate n r) :=
    (clearSoftGate_laneStep hn s r).run
  exact (((step 0 (by omega) s).trans (step 1 (by omega) _)).trans (step 2 (by omega) _)).trans
    (step 3 (by omega) _)

/-- The clock moves and a lane step follows. -/
theorem laneEvent_run {n : Nat} {s t : State} (h : ∃ ms, LaneStep n (s.advanceTo ms) t) : Run s t := by
  obtain ⟨ms, step⟩ := h
  exact (advanceTo_run s ms).trans step.run

/-! ## Cards, presence and tabs -/

theorem mem_of_cardByUid {s : State} {uid : Nat} {e : Nat × Card} (h : s.cardByUid uid = some e) :
    e ∈ s.store.cards :=
  Table.mem_of_seek h

theorem mem_of_accountByNumber {s : State} {number : Nat} {e : Nat × Account}
    (h : s.accountByNumber number = some e) : e ∈ s.store.accounts :=
  Table.mem_of_seek h

theorem number_of_accountByNumber {s : State} {number slot : Nat} {a : Account}
    (h : s.accountByNumber number = some (slot, a)) : a.number = number := by
  have found := List.find?_some h
  simpa using found

theorem mem_of_present {s : State} {uid issue slot : Nat} {c : Card}
    (h : s.present uid issue = .current slot c) : (slot, c) ∈ s.store.cards :=
  mem_of_cardByUid ((s.present_eq_current_iff uid issue slot c).mp h).1

theorem move_run {s : State} {slot : Nat} {c : Card} (held : (slot, c) ∈ s.store.cards) (new : Presence)
    (lane : Option Nat) : Run s (s.movePresence slot c new lane).state :=
  (StoreEffect.move slot c new lane held).run

theorem presenceNote_run {s : State} {slot : Nat} {c : Card} (held : (slot, c) ∈ s.store.cards) (door : Nat) :
    Run s (s.presenceNote slot c door) := by
  unfold State.presenceNote
  split
  · exact (move_run held _ _).trans (raise_run _ _)
  · exact .refl

theorem missAshore_run (s : State) : Run s s.missAshore := by
  have misses (s : State) (slot : Nat) : Run s (s.missCard slot) := by
    unfold State.missCard
    split
    next found => exact move_run (Table.mem_of_find found) _ _
    next => exact .refl
  have all : ∀ (xs : List Nat) (s : State), Run s (xs.foldl State.missCard s) := by
    intro xs
    induction xs with
    | nil => exact fun _ => .refl
    | cons x xs ih => exact fun s => (misses s x).trans (ih _)
  exact (all _ s).trans (raise_run _ _)

theorem markAdultDeparture_run (s : State) (number : Nat) : Run s (s.markAdultDeparture number) := by
  unfold State.markAdultDeparture
  split
  next slot a found =>
    refine (StoreEffect.account slot a _ (mem_of_accountByNumber found) ?_).run
    exact ⟨rfl, rfl, rfl, id⟩
  next => exact .refl

theorem markGuest_run (s : State) (c : Card) : Run s (s.markGuest c) := by
  unfold State.markGuest
  split
  · exact markAdultDeparture_run s _
  · exact .refl

theorem settle_run {s : State} {slot : Nat} {t : Tab} {d : Nat} (r : CloseReason)
    (opened : (s.tabSlot slot).state = .opened t d) (can : s.canSettle t = true) : Run s (s.settle slot t r) :=
  (MoneyEffect.settle slot t d r opened can).run

/-- A forced settlement is one effect. -/
theorem forceSettle_effect {s : State} {slot : Nat} {t : Tab} {d : Nat} (r : CloseReason)
    (opened : (s.tabSlot slot).state = .opened t d) : MoneyEffect s (s.forceSettle slot t r) := by
  unfold State.forceSettle
  split
  next can => exact .settle slot t d r opened can
  next cannot => exact .close slot t d r opened (by simpa using cannot)

end Sys2Proof.Machine
end

section
/-! SUPPORT. The owning blocks and the events as runs of effects, and with them every command and every step. -/

namespace Sys2Proof.Machine

variable {s t : State}

/-! ## The Credential Store -/

theorem blockLoadBegin_run (day : Nat) (h : Gate.whenUnloaded.refusal s.store.opState = none) :
    Run s (blockLoadBegin day s).1 := by
  refine (StoreEffect.loadBegin day ?_).run
  cases o : s.store.opState with
  | unloaded => rfl
  | _ => rw [o] at h; cases h

theorem blockLoadEnd_run (q : Unit) (h : Gate.whenLoading.refusal s.store.opState = none) :
    Run s (blockLoadEnd q s).1 := by
  unfold blockLoadEnd
  split
  next => exact .refl
  next passed =>
    refine (StoreEffect.enterService ?_ passed).run
    cases o : s.store.opState with
    | loading => rfl
    | _ => rw [o] at h; cases h

theorem putNewCard_run (uid issue presence : Nat) (g : CardConfig) :
    Run s (s.putNewCard uid issue presence g).1 := by
  unfold State.putNewCard
  split
  next => exact .refl
  next p initial =>
    split
    · exact .refl
    · split
      next => exact .refl
      next fresh =>
        split
        next => exact .refl
        next slot free =>
          split
          next => exact .refl
          next refers =>
            refine (StoreEffect.newCard slot uid issue g p ?_ fresh free refers).run
            unfold initialPresenceOf at initial
            split at initial
            · cases initial; exact .inl rfl
            · cases initial; exact .inr rfl
            · cases initial

theorem putChangedCard_run (uid : Nat) (g : CardConfig) : Run s (s.putChangedCard uid g).1 := by
  unfold State.putChangedCard
  split
  next => exact .refl
  next slot c found =>
    split
    next => exact .refl
    next refers =>
      split
      · exact .refl
      · exact (StoreEffect.changeCard slot c g (mem_of_cardByUid found) refers).run

theorem blockCardPut_run (q : CardPutReq) : Run s (blockCardPut q s).1 := by
  unfold blockCardPut
  split
  · exact putNewCard_run _ _ _ _
  · exact putChangedCard_run _ _
  · exact .refl

theorem blockCardRead_state (q : CardReadReq) (s : State) : (blockCardRead q s).1 = s := by
  unfold blockCardRead
  split
  · split <;> rfl
  · split
    · split <;> rfl
    · rfl
  · rfl

theorem blockCardReissue_run (uid : Nat) : Run s (blockCardReissue uid s).1 := by
  unfold blockCardReissue
  split
  next => exact .refl
  next slot c found =>
    split
    · exact .refl
    · refine (StoreEffect.card slot c _ (mem_of_cardByUid found) ?_ ?_).run
      · exact ⟨rfl, rfl, rfl, rfl⟩
      · exact id

theorem blockCardRetire_run (uid : Nat) : Run s (blockCardRetire uid s).1 := by
  unfold blockCardRetire
  split
  next => exact .refl
  next slot c found =>
    split
    · exact .refl
    next tabs => exact (StoreEffect.removeCard slot c (mem_of_cardByUid found) (by simpa using tabs)).run

theorem limitOf_le {i : Int} {n : Nat} (h : limitOf i = some n) : n ≤ 10000000 := by
  unfold limitOf at h
  split at h
  · cases h; omega
  · cases h

theorem blockAccountPut_run (q : AccountPutReq) : Run s (blockAccountPut q s).1 := by
  unfold blockAccountPut
  split
  next limit status _ range _ =>
    unfold State.putNewAccount
    split
    next => exact .refl
    next fresh =>
      split
      next => exact .refl
      next slot free => exact (StoreEffect.newAccount slot _ _ _ fresh free (limitOf_le range)).run
  next limit status _ range _ =>
    unfold State.putChangedAccount
    split
    next => exact .refl
    next slot a found =>
      refine (StoreEffect.account slot a _ (mem_of_accountByNumber found) ?_).run
      exact ⟨rfl, rfl, rfl, fun h => ⟨limitOf_le range, h.2⟩⟩
  next => exact .refl

theorem blockAccountRead_state (number : Nat) (s : State) : (blockAccountRead number s).1 = s := by
  unfold blockAccountRead
  split <;> rfl

/-- A lowered balance keeps the account lawful. -/
theorem lowerBalance_same (a : Account) (n : Nat) :
    a.SameAccount { a with balance := lowerBalance a.balance n } := by
  refine ⟨rfl, rfl, rfl, ?_⟩
  rintro ⟨limit, low, high⟩
  simp only [Account.Lawful, lowerBalance]
  omega

theorem blockAccountCredit_run (q : AccountCreditReq) : Run s (blockAccountCredit q s).1 := by
  unfold blockAccountCredit
  split
  · split
    next => exact .refl
    next slot a found =>
      exact (StoreEffect.account slot a _ (mem_of_accountByNumber found) (lowerBalance_same a _)).run
  · exact .refl

theorem blockAccountRetire_run (number : Nat) : Run s (blockAccountRetire number s).1 := by
  unfold blockAccountRetire
  split
  next => exact .refl
  next slot a found =>
    split
    · split <;> exact .refl
    next unnamed =>
      split
      · exact .refl
      next free =>
        have number := number_of_accountByNumber found
        refine (StoreEffect.removeAccount slot a (mem_of_accountByNumber found) ?_ ?_).run
        · simpa [number] using unnamed
        · simp only [not_or, not_not] at free
          exact free.2.2

theorem blockDoorPut_run (q : DoorPutReq) : Run s (blockDoorPut q s).1 := by
  unfold blockDoorPut
  split
  next => exact .refl
  next configured _ =>
    split
    · exact .refl
    · dsimp only
      have put (h : s.loaded = true → s.doorInUse q.door ⟨configured, q.label, q.bus⟩ = false) :=
        (StoreEffect.door q.door ⟨configured, q.label, q.bus⟩ h).run
      unfold State.doorPut at put
      split
      next loaded =>
        split
        · exact .refl
        next free => simpa [loaded] using put fun _ => by simpa using free
      next notLoaded => simpa [notLoaded] using put fun h => absurd h notLoaded

theorem blockDoorRead_state (door : Nat) (s : State) : (blockDoorRead door s).1 = s := by
  unfold blockDoorRead
  split <;> rfl

theorem blockCategoryPut_run (q : CategoryPutReq) : Run s (blockCategoryPut q s).1 := by
  unfold blockCategoryPut
  split
  · split
    · exact (StoreEffect.category _ _).run
    · exact .refl
  · exact .refl

theorem blockRegionPut_run (q : RegionPutReq) : Run s (blockRegionPut q s).1 := by
  unfold blockRegionPut
  split
  · exact (StoreEffect.region _ _).run
  · exact .refl

theorem blockTierPut_run (q : TierPutReq) : Run s (blockTierPut q s).1 := by
  unfold blockTierPut
  split
  · exact (StoreEffect.tier q.tier ⟨q.covered, q.allowance, q.coverCap⟩).run
  · exact .refl

theorem afterSetting_run (name : SettingName) (old : Nat) : Run s (s.afterSetting name old) := by
  unfold State.afterSetting
  split
  · split
    · exact auditSchedule_run s
    · exact .refl
  · exact considerAll_run s
  · exact considerAll_run s
  · exact .refl

theorem blockSettingPut_run (q : SettingPutReq) : Run s (blockSettingPut q s).1 := by
  unfold blockSettingPut
  split
  next => exact .refl
  next name _ => exact (StoreEffect.setting name q.value).run.trans (afterSetting_run _ _)

theorem blockSettingRead_state (q : SettingReadReq) (s : State) : (blockSettingRead q s).1 = s := by
  unfold blockSettingRead
  split <;> rfl

/-! ## The Ship Clock -/

theorem blockTimeSet_run (x : Nat) : Run s (blockTimeSet x s).1 := by
  unfold blockTimeSet
  split
  · exact .refl
  next range => exact (ClockEffect.shipTime x (Nat.not_lt.mp range)).run

theorem blockDayRoll_run (q : Unit) : Run s (blockDayRoll q s).1 := by
  unfold blockDayRoll
  split
  · exact .refl
  · exact StoreEffect.rolled.run

theorem blockPortArrive_run (region : Nat) : Run s (blockPortArrive region s).1 := by
  unfold blockPortArrive
  split
  · exact .refl
  · exact (ClockEffect.arrive region (by omega) (by omega)).run

theorem blockSail_run (q : Unit) : Run s (blockSail q s).1 := by
  unfold blockSail
  split
  · exact .refl
  · exact (ClockEffect.depart.run.trans (closeLanes_run _ .sail)).trans (missAshore_run _)

theorem blockSecure_run (q : Unit) (h : Gate.whenLoaded.refusal s.store.opState = none) :
    Run s (blockSecure q s).1 := by
  unfold blockSecure
  split
  · exact .refl
  · have secured : (s.setMode .secure .secure).loaded = true := rfl
    exact ((StoreEffect.secure (loaded_of_whenLoaded h)).run.trans (lockDoors_run secured)).trans
      (closeLanes_run _ .secure)

theorem blockModeCode_run (code : Nat) (h : Gate.whenLoaded.refusal s.store.opState = none) :
    Run s (blockModeCode code s).1 := by
  unfold blockModeCode
  split
  · exact .refl
  · split
    · exact .refl
    · exact (StoreEffect.reopen (loaded_of_whenLoaded h)).run.trans (DoorEffect.audit 0 s.doorUnit.auditNext).run

/-! ## Doors -/

theorem enterRefusal_run (s : State) (door : Nat) : Run s (s.enterRefusal door) := by
  unfold State.enterRefusal
  dsimp only
  split
  · exact (DoorEffect.reader door _).run.trans (raise_run _ _)
  · exact (DoorEffect.reader door _).run

theorem refuseAt_run (s : State) (door : Nat) (o : JobOutcome) (card : Option CardView) :
    Run s (s.refuseAt door o card).1 := by
  unfold State.refuseAt
  dsimp only
  split
  · exact enterRefusal_run s door
  · exact .refl

theorem grantSecurity_run {slot : Nat} {c : Card} (held : (slot, c) ∈ s.store.cards) (door : Nat) :
    Run s (s.grantSecurity door slot c).1 := by
  unfold State.grantSecurity
  dsimp only
  split
  · exact (raise_run s _).trans (presenceNote_run (by rwa [State.raise_store]) door)
  · exact presenceNote_run held door

theorem grantCard_run {slot : Nat} {c : Card} {door : Nat} (held : (slot, c) ∈ s.store.cards)
    (loaded : s.loaded = true) (configured : (s.doorConfig door).configured = true) :
    Run s (s.grantCard door slot c).1 := by
  have granted := grantAt_run loaded configured
  unfold State.grantCard
  dsimp only
  split
  · exact granted
  · refine granted.trans (presenceNote_run ?_ door)
    rw [grantAt_doorsOnly s door]
    exact held

theorem decideCard_run {door : Nat} (loaded : s.loaded = true)
    (configured : (s.doorConfig door).configured = true) (uid issue : Nat) :
    Run s (s.decideCard door uid issue).1 := by
  unfold State.decideCard
  split
  next => exact refuseAt_run s door _ _
  next => exact (raise_run s _).trans (refuseAt_run _ door _ _)
  next slot c presented =>
    have held := mem_of_present presented
    split
    · exact grantSecurity_run held door
    · split
      · exact refuseAt_run s door _ _
      · exact grantCard_run held loaded configured

theorem decideBlocked_run (door uid issue : Nat) : Run s (s.decideBlocked door uid issue).1 := by
  unfold State.decideBlocked
  split
  next slot c presented =>
    split
    · exact grantSecurity_run (mem_of_present presented) door
    · exact .refl
  next => exact .refl

theorem decideAt_run {door : Nat} (loaded : s.loaded = true)
    (configured : (s.doorConfig door).configured = true) (uid issue : Nat) :
    Run s (s.decideAt door uid issue).1 := by
  unfold State.decideAt
  split
  · exact decideCard_run loaded configured uid issue
  · split
    · exact decideBlocked_run door uid issue
    · exact (DoorEffect.reader door _).run.trans (decideCard_run (s := s.setReader door _) loaded configured uid issue)

theorem blockDoorCard_run (q : DoorCardReq) (h : Gate.whenLoaded.refusal s.store.opState = none) :
    Run s (blockDoorCard q s).1 := by
  unfold blockDoorCard
  split
  · exact .refl
  · split
    · exact .refl
    next configured => exact decideAt_run (loaded_of_whenLoaded h) (by simpa using configured) _ _

theorem blockDoorReport_run (q : DoorReportReq) (h : Gate.whenLoaded.refusal s.store.opState = none) :
    Run s (blockDoorReport q s).1 := by
  unfold blockDoorReport
  split
  · split
    · exact .refl
    · split
      · exact .refl
      · exact takeReport_run _ (loaded_of_whenLoaded h) _ _ _ _
  · exact .refl

theorem blockOrderFetch_run (q : Unit) : Run s (blockOrderFetch q s).1 := by
  unfold blockOrderFetch
  dsimp only
  cases orders : s.scheduler.orders with
  | nil => rw [fetchOrders_of_empty orders]; exact .refl
  | cons o os => exact (DoorEffect.fetch (by simp [orders])).run

theorem relatchExpires_run (door : Nat) (h : relatchExpires door s = some t) : Run s t := by
  unfold relatchExpires at h
  split at h
  next ms confirm loaded was =>
    cases h
    exact (advanceTo_run s ms).trans
      (callRelatch_run (s := s.advanceTo ms) loaded (fun h => by cases was.symm.trans h) rfl)
  next => cases h

theorem strikeConfirmExpires_run (door : Nat) (h : strikeConfirmExpires door s = some t) : Run s t := by
  unfold strikeConfirmExpires at h
  split at h
  next ms loaded was =>
    cases h
    exact (advanceTo_run s _).trans
      (faultDoor_run (s := s.advanceTo _) _ loaded (fun h => by cases was.symm.trans h))
  next => cases h

theorem ajarExpires_run (door : Nat) (h : ajarExpires door s = some t) : Run s t := by
  unfold ajarExpires at h
  split at h
  next ms loaded was =>
    cases h
    refine (advanceTo_run s ms).trans (Relation.ReflTransGen.trans ?_ (raise_run _ _))
    refine (DoorEffect.channel (s := s.advanceTo ms) door _ loaded
      (.of_state (fun h => by cases was.symm.trans h) (by simp) fun owes => ?_)).run
    have was' : ((s.advanceTo ms).channel door).state = .opened ms := was
    rw [was'] at owes
    cases owes
  next => cases h

theorem relatchConfirmExpires_run (door : Nat) (h : relatchConfirmExpires door s = some t) : Run s t := by
  unfold relatchConfirmExpires at h
  split at h
  next ms loaded was =>
    cases h
    exact (advanceTo_run s _).trans
      (faultDoor_run (s := s.advanceTo _) _ loaded (fun h => by cases was.symm.trans h))
  next => cases h

theorem loaded_advanceToSecond (s : State) (r : Nat) : (s.advanceToSecond r).loaded = s.loaded := by
  unfold State.advanceToSecond
  split <;> rfl

theorem auditSteps_run (h : auditSteps s = some t) : Run s t := by
  unfold auditSteps at h
  split at h
  next r loaded _ =>
    cases h
    exact ((advanceToSecond_run s r).trans (auditAct_run ((loaded_advanceToSecond s r).trans loaded))).trans
      (auditSchedule_run _)
  next => cases h

theorem windowAgesOut_run (bus : Nat) (h : windowAgesOut bus s = some t) : Run s t := by
  unfold windowAgesOut at h
  split at h
  · cases h
    exact consider_run s bus
  · obtain ⟨since, -, rfl⟩ := Option.map_eq_some_iff.mp h
    exact (advanceTo_run s _).trans (consider_run _ bus)

/-! ## Sales and tabs -/

theorem appendPosting_run (p : Posting) (loaded : s.loaded = true) (room : s.postRoom = true)
    (pending : p.delivered = false) : Run s (s.appendPosting p) :=
  (MoneyEffect.append p loaded room pending).run

theorem spend_same (c : Card) (x : Sums) : c.SameCard (c.spend x) := ⟨rfl, rfl, rfl, rfl⟩

/-- The working allowance bounds what a request takes of it, and so allowance used stays in the tier's. -/
theorem spend_used {c : Card} {x : Sums} (units : x.units ≤ s.workingAllowance c)
    (h : c.allowanceUsed ≤ s.tierAllowance c.config.tier) :
    (c.spend x).allowanceUsed ≤ s.tierAllowance c.config.tier := by
  simp only [State.workingAllowance] at units
  simp only [Card.spend]
  omega

theorem appendPosting_store (s : State) (p : Posting) : (s.appendPosting p).store = s.store := by
  unfold State.appendPosting
  dsimp only
  split
  · simp
  · rfl

/-- The account charged with a total that its available amount covers stays lawful. -/
theorem charged_same {a : Account} {n : Nat} (h : n ≤ a.available) :
    a.SameAccount { a with balance := a.balance + (n : Int) } := by
  refine ⟨rfl, rfl, rfl, ?_⟩
  rintro ⟨limit, low, high⟩
  simp only [Account.available] at h
  simp only [Account.Lawful]
  omega

theorem acceptCharge_run {q : ChargeReq} {slot accountSlot : Nat} {c : Card} {a : Account} {x : Sums}
    (loaded : s.loaded = true) (heldCard : (slot, c) ∈ s.store.cards)
    (heldAccount : (accountSlot, a) ∈ s.store.accounts) (units : x.units ≤ s.workingAllowance c)
    (available : x.total ≤ a.available) (room : s.postRoom = true) :
    Run s (s.acceptCharge q slot c accountSlot a x) := by
  have store := appendPosting_store s (s.chargeRecord q c x)
  unfold State.acceptCharge
  refine ((appendPosting_run _ loaded room rfl).trans (StoreEffect.account accountSlot a _ ?_ (charged_same available)).run).trans
    (StoreEffect.card slot c (c.spend x) ?_ (spend_same c x) ?_).run
  · rwa [store]
  · rw [State.setAccount_store, store]; exact heldCard
  · have tiers : (State.setAccount (s.appendPosting (s.chargeRecord q c x)) accountSlot
        { a with balance := a.balance + (x.total : Int) }).tierAllowance c.config.tier =
          s.tierAllowance c.config.tier := by
      simp only [State.tierAllowance, State.tier, State.setAccount_store, store]
    rw [tiers]
    exact spend_used units

theorem computeCharge_run {q : ChargeReq} {slot accountSlot : Nat} {c : Card} {a : Account}
    (loaded : s.loaded = true) (heldCard : (slot, c) ∈ s.store.cards) (heldAccount : (accountSlot, a) ∈ s.store.accounts) :
    Run s (s.computeCharge q slot c accountSlot a).1 := by
  unfold State.computeCharge
  dsimp only
  split
  · exact .refl
  · split
    · exact .refl
    next available =>
      split
      · exact .refl
      next room =>
        exact acceptCharge_run loaded heldCard heldAccount (s.sumAll_linesSums_units_le c _ _)
          (Nat.not_lt.mp available) (by simpa using room)

/-- Precondition 3 raises at most a notice, and hands on a card and an account of the tables. -/
theorem saleCard_run {uid issue : Nat} {u : State} {r : Answer ⊕ (Nat × Card) × (Nat × Account)}
    (h : s.saleCard uid issue = (u, r)) : Run s u ∧
      ∀ slot c accountSlot a, r = .inr ((slot, c), (accountSlot, a)) →
        u = s ∧ (slot, c) ∈ s.store.cards ∧ (accountSlot, a) ∈ s.store.accounts := by
  unfold State.saleCard at h
  split at h
  next => cases h; exact ⟨.refl, fun _ _ _ _ h => by cases h⟩
  next => cases h; exact ⟨raise_run s _, fun _ _ _ _ h => by cases h⟩
  next slot c presented =>
    split at h
    next => cases h; exact ⟨.refl, fun _ _ _ _ h => by cases h⟩
    next found =>
      cases h
      refine ⟨.refl, ?_⟩
      rintro _ _ _ _ ⟨⟩
      exact ⟨rfl, mem_of_present presented, mem_of_accountByNumber found⟩

/-- Preconditions 4 to 8 raise at most a notice; a sale that passes them has its card aboard. -/
theorem salePreconditions_run {c : Card} {a : Account} {terminal : Nat} {ls : List Line} {u : State}
    {r : Option Answer} (h : s.salePreconditions c a terminal ls = (u, r)) :
    Run s u ∧ (r = none → u = s ∧ c.presence.aboardShip = true) := by
  unfold State.salePreconditions at h
  split at h
  next => cases h; exact ⟨.refl, fun h => by cases h⟩
  next => cases h; exact ⟨.refl, fun h => by cases h⟩
  next => cases h; exact ⟨raise_run s _, fun h => by cases h⟩
  next notExpected notMissed notAshore =>
    have aboard : c.presence.aboardShip = true := by
      cases p : c.presence with
      | expected => exact absurd p notExpected
      | missed => exact absurd p notMissed
      | ashore => exact absurd p notAshore
      | aboard => rfl
      | unverified => rfl
    split_ifs at h <;> cases h <;> exact ⟨.refl, fun _ => ⟨rfl, aboard⟩⟩

theorem blockCharge_run (q : ChargeReq) (h : Gate.whenLoaded.refusal s.store.opState = none) :
    Run s (blockCharge q s).1 := by
  unfold blockCharge
  split
  · exact .refl
  · split
    · exact .refl
    · split
      next presented => exact (saleCard_run presented).1
      next u slot c accountSlot a presented =>
        obtain ⟨-, held⟩ := saleCard_run presented
        obtain ⟨rfl, heldCard, heldAccount⟩ := held _ _ _ _ rfl
        split
        next passed => exact (salePreconditions_run passed).1
        next passed =>
          obtain ⟨rfl, -⟩ := (salePreconditions_run passed).2 rfl
          exact computeCharge_run (loaded_of_whenLoaded h) heldCard heldAccount

theorem freeTab_free {slot : Nat} (h : s.freeTab = some slot) : (s.tabSlot slot).state = .free := by
  have free := List.find?_some h
  simpa using free

theorem poolTests_run {terminal slot accountSlot hold : Nat} {c : Card} {a : Account} (loaded : s.loaded = true)
    (range : terminal < 64)
    (heldCard : (slot, c) ∈ s.store.cards) (aboard : c.presence.aboardShip = true)
    (heldAccount : (accountSlot, a) ∈ s.store.accounts) :
    Run s (s.poolTests terminal slot accountSlot a hold).1 := by
  unfold State.poolTests
  split
  next => exact .refl
  next n free =>
    split
    · exact .refl
    next room =>
      split
      · exact .refl
      next available =>
        simp only [not_or, Nat.not_le] at room
        exact (MoneyEffect.openTab n terminal slot accountSlot c a hold loaded (freeTab_free free) range heldCard
          aboard heldAccount room.1 room.2 (Nat.not_lt.mp available)).run

theorem terminal_lt {n : Nat} {b : Bool} (h : ¬ (!(terminalInRange n && b)) = true) : n < 64 := by
  simp only [terminalInRange, Bool.not_eq_true', Bool.not_eq_false, Bool.and_eq_true, decide_eq_true_eq] at h
  omega

theorem blockTabOpen_run (q : TabOpenReq) (h : Gate.whenLoaded.refusal s.store.opState = none) :
    Run s (blockTabOpen q s).1 := by
  unfold blockTabOpen
  split
  · exact .refl
  · split
    · exact .refl
    next range =>
      simp only [Bool.and_assoc] at range
      split
      next presented => exact (saleCard_run presented).1
      next u slot c accountSlot a presented =>
        obtain ⟨-, held⟩ := saleCard_run presented
        obtain ⟨rfl, heldCard, heldAccount⟩ := held _ _ _ _ rfl
        split
        next passed => exact (salePreconditions_run passed).1
        next passed =>
          obtain ⟨rfl, aboard⟩ := (salePreconditions_run passed).2 rfl
          exact poolTests_run (loaded_of_whenLoaded h) (terminal_lt range) heldCard aboard heldAccount

theorem le_newHold (hold sum : Nat) : hold ≤ newHold hold sum ∧ sum ≤ newHold hold sum := by
  unfold newHold
  split <;> omega

theorem ownTab_opened {slot generation terminal : Nat} {t : Tab}
    (h : s.ownTab slot generation terminal = .inr t) : ∃ d, (s.tabSlot slot).state = .opened t d := by
  unfold State.ownTab at h
  split at h
  · cases h
  · split at h
    next => cases h
    next x d opened =>
      split at h
      · cases h; exact ⟨d, opened⟩
      · cases h
    next =>
      split at h <;> cases h

theorem acceptAdd_run {q : TabAddReq} {t : Tab} {d : Nat} {c : Card} {a : Account} {x : Sums} {hold : Nat}
    (opened : (s.tabSlot q.slot).state = .opened t d) (heldCard : (t.cardSlot, c) ∈ s.store.cards)
    (heldAccount : (t.accountSlot, a) ∈ s.store.accounts) (units : x.units ≤ s.workingAllowance c)
    (grows : t.hold ≤ hold) (covers : t.sums.total + x.total ≤ hold) (available : hold - t.hold ≤ a.available) :
    Run s (s.acceptAdd q t c a x hold) :=
  (MoneyEffect.grow q.slot t d a x q.lines.length hold opened heldAccount grows covers available).run.trans
    (StoreEffect.card (s := s.grownTab q.slot t a x q.lines.length hold) t.cardSlot c (c.spend x) heldCard
      (spend_same c x) (spend_used (s := s) units)).run

theorem computeAdd_run {q : TabAddReq} {t : Tab} {d : Nat} {c : Card} {a : Account}
    (opened : (s.tabSlot q.slot).state = .opened t d) (heldCard : (t.cardSlot, c) ∈ s.store.cards)
    (heldAccount : (t.accountSlot, a) ∈ s.store.accounts) : Run s (s.computeAdd q t c a).1 := by
  unfold State.computeAdd
  dsimp only
  split
  · exact .refl
  · split
    · exact .refl
    next available =>
      obtain ⟨grows, covers⟩ := le_newHold t.hold
        (t.sums.total + (sumAll (s.linesSums c (s.workingAllowance c) q.lines)).total)
      exact acceptAdd_run opened heldCard heldAccount (s.sumAll_linesSums_units_le c _ _) grows covers
        (Nat.not_lt.mp available)

theorem blockTabAdd_run (q : TabAddReq) : Run s (blockTabAdd q s).1 := by
  unfold blockTabAdd
  split
  · exact .refl
  · split
    · exact .refl
    · split
      next => exact .refl
      next t own =>
        obtain ⟨d, opened⟩ := ownTab_opened own
        split
        next c a foundCard foundAccount =>
          split
          next passed => exact (salePreconditions_run passed).1
          next passed =>
            obtain ⟨rfl, -⟩ := (salePreconditions_run passed).2 rfl
            exact computeAdd_run opened (Table.mem_of_find foundCard) (Table.mem_of_find foundAccount)
        next => exact .refl

theorem blockTabClose_run (q : TabCloseReq) : Run s (blockTabClose q s).1 := by
  unfold blockTabClose
  split
  · exact .refl
  · split
    next => exact .refl
    next t own =>
      obtain ⟨d, opened⟩ := ownTab_opened own
      split
      next can => exact settle_run .closed opened can
      next => exact .refl

theorem blockTabRead_state (slot : Nat) (s : State) : (blockTabRead slot s).1 = s := by
  unfold blockTabRead
  split
  · split <;> rfl
  · rfl

theorem tabSlot_advanceToSecond (s : State) (r slot : Nat) : (s.advanceToSecond r).tabSlot slot = s.tabSlot slot := by
  unfold State.advanceToSecond
  split <;> rfl

theorem tabExpires_run (slot : Nat) (h : tabExpires slot s = some t) : Run s t := by
  unfold tabExpires at h
  split at h
  next tab d opened =>
    cases h
    refine ((advanceToSecond_run s d).trans (raise_run _ _)).trans (forceSettle_effect (d := d) .expired ?_).run
    have slots : (State.raise (s.advanceToSecond d) (.tabExpired slot tab.sums.total)).tabSlot slot = s.tabSlot slot := by
      rw [State.tabSlot, State.raise_engine]
      exact tabSlot_advanceToSecond s d slot
    rw [slots]
    exact opened
  next => cases h

/-! ## The posting queue -/

theorem markDelivered_numbers : ∀ (n : Nat) (ps : List Posting),
    (markDelivered n ps).map Posting.number = ps.map Posting.number
  | _, [] => by simp [markDelivered]
  | 0, p :: ps => rfl
  | n + 1, p :: ps => by
    simp only [markDelivered]
    split
    · simp [markDelivered_numbers (n + 1) ps]
    · simp [markDelivered_numbers n ps]

theorem deliveredFirst_cons_delivered {p : Posting} {ps : List Posting} (h : p.delivered = true) :
    deliveredFirst (p :: ps) ↔ deliveredFirst ps := by
  simp [deliveredFirst, h]

theorem deliveredFirst_cons_pending {p : Posting} {ps : List Posting} (h : p.delivered = false) :
    deliveredFirst (p :: ps) ↔ ps.all Posting.isPending = true := by
  simp [deliveredFirst, h, Posting.isPending]

theorem deliveredFirst_of_pending : ∀ {ps : List Posting}, ps.all Posting.isPending = true → deliveredFirst ps
  | [], _ => rfl
  | p :: ps, h => by
    simp only [List.all_cons, Bool.and_eq_true, Posting.isPending, Bool.not_eq_true'] at h
    exact (deliveredFirst_cons_pending h.1).mpr h.2

theorem markDelivered_order : ∀ (n : Nat) (ps : List Posting), deliveredFirst ps →
    deliveredFirst (markDelivered n ps)
  | _, [], h => by simpa [markDelivered] using h
  | 0, p :: ps, h => h
  | n + 1, p :: ps, h => by
    cases delivered : p.delivered with
    | true =>
      simp only [markDelivered, delivered, if_true]
      exact (deliveredFirst_cons_delivered delivered).mpr
        (markDelivered_order (n + 1) ps ((deliveredFirst_cons_delivered delivered).mp h))
    | false =>
      simp only [markDelivered, delivered, Bool.false_eq_true, if_false]
      exact (deliveredFirst_cons_delivered rfl).mpr
        (markDelivered_order n ps (deliveredFirst_of_pending ((deliveredFirst_cons_pending delivered).mp h)))

theorem blockPostFetch_run (q : Unit) : Run s (blockPostFetch q s).1 :=
  (MoneyEffect.postings _ (markDelivered_numbers 4 _) (markDelivered_order 4 _)).run

theorem blockPostRewind_run (q : Unit) : Run s (blockPostRewind q s).1 := by
  refine (MoneyEffect.postings _ ?_ fun _ => deliveredFirst_of_pending ?_).run
  · simp
  · simp [Posting.isPending]

theorem blockPostRelease_run (n : Nat) : Run s (blockPostRelease n s).1 := by
  unfold blockPostRelease
  dsimp only
  split
  · exact .refl
  · split
    next delivered => exact (MoneyEffect.release _ delivered).run
    · split <;> exact .refl

theorem dropWhile_map_voided (f : Posting → Posting) (same : ∀ p, (f p).delivered = p.delivered) :
    ∀ ps : List Posting, deliveredFirst ps → deliveredFirst (ps.map f)
  | [], h => h
  | p :: ps, h => by
    have kept := same p
    cases delivered : p.delivered with
    | true =>
      exact (deliveredFirst_cons_delivered (kept.trans delivered)).mpr
        (dropWhile_map_voided f same ps ((deliveredFirst_cons_delivered delivered).mp h))
    | false =>
      refine (deliveredFirst_cons_pending (kept.trans delivered)).mpr ?_
      have pending := (deliveredFirst_cons_pending delivered).mp h
      simp only [List.all_eq_true, List.mem_map, Posting.isPending] at pending ⊢
      rintro _ ⟨x, hx, rfl⟩
      rw [same]
      exact pending x hx

theorem markVoided_run (s : State) (number : Nat) : Run s (s.markVoided number) := by
  refine (MoneyEffect.postings _ ?_ (dropWhile_map_voided _ (fun p => ?_) _)).run
  · rw [List.map_map]
    refine List.map_congr_left fun p _ => ?_
    simp only [Function.comp]
    split <;> rfl
  · split <;> rfl

theorem voidAccount_run (s : State) (p : Posting) : Run s (s.voidAccount p).1 := by
  unfold State.voidAccount
  split
  next slot a found =>
    exact (StoreEffect.account slot a _ (mem_of_accountByNumber found) (lowerBalance_same a _)).run
  next => exact registers_run s s.retention (s.freeCount + 1) s.pending

theorem voidCard_run (s : State) (p : Posting) : Run s (s.voidCard p).1 := by
  unfold State.voidCard
  split
  next slot c found =>
    split
    · refine (StoreEffect.card slot c _ (mem_of_cardByUid found) ?_ ?_).run
      · exact ⟨rfl, rfl, rfl, rfl⟩
      · exact fun h => (Nat.sub_le _ _).trans h
    · exact .refl
  next => exact .refl

theorem blockVoid_run (q : VoidReq) : Run s (blockVoid q s).1 := by
  unfold blockVoid
  split
  · exact .refl
  · split
    next => exact .refl
    next p _ =>
      split
      next => exact .refl
      next => exact ((markVoided_run s _).trans (voidAccount_run _ p)).trans (voidCard_run _ p)

/-! ## Lanes and presence -/

theorem blockLaneOpen_run (n : Nat) (h : Gate.whenLoaded.refusal s.store.opState = none) :
    Run s (blockLaneOpen n s).1 := by
  unfold blockLaneOpen
  split_ifs with range secured atSea
  · exact .refl
  · exact .refl
  · exact .refl
  · exact (setSoftGate_effect (by omega) s (loaded_of_whenLoaded h)).run_effect

theorem blockLaneClose_run (n : Nat) : Run s (blockLaneClose n s).1 := by
  unfold blockLaneClose
  split
  · exact .refl
  next range => exact (clearSoftGate_laneStep (by omega) s .close).run

theorem blockLaneRead_state (n : Nat) (s : State) : (blockLaneRead n s).1 = s := by
  unfold blockLaneRead
  split <;> rfl

theorem scan_run {n slot : Nat} (hn : n < 4) {c : Card} (held : (slot, c) ∈ s.store.cards) :
    Run s (s.scan n slot c).1 := by
  unfold State.scan
  split
  · unfold State.scanBoarding
    split
    · unfold State.boardRepeat
      dsimp only
      exact (raise_run s _).trans (countScan_laneStep hn _ _).run
    · unfold State.boardScan
      dsimp only
      exact (move_run held _ _).trans (countScan_laneStep hn _ _).run
  · unfold State.scanLeaving
    split
    · exact .refl
    · exact .refl
    · unfold State.leaveRepeat
      dsimp only
      exact ((raise_run s _).trans (markGuest_run _ c)).trans (countScan_laneStep hn _ _).run
    · split
      · exact .refl
      · unfold State.leaveScan
        dsimp only
        exact ((move_run held _ _).trans (markGuest_run _ c)).trans (countScan_laneStep hn _ _).run

theorem blockGangwayCard_run (q : GangwayCardReq) : Run s (blockGangwayCard q s).1 := by
  unfold blockGangwayCard
  split
  · exact .refl
  next range =>
    split
    · exact .refl
    · split
      next => exact .refl
      next => exact raise_run s _
      next presented => exact scan_run (by omega) (mem_of_present presented)

theorem blockPresenceSet_run (q : PresenceSetReq) : Run s (blockPresenceSet q s).1 := by
  unfold blockPresenceSet
  split
  next => exact .refl
  next =>
    split
    next => exact .refl
    next found => exact move_run (mem_of_cardByUid found) _ _

theorem blockAllAboard_state (q : AllAboardReq) (s : State) : (blockAllAboard q s).1 = s := by
  unfold blockAllAboard
  split <;> rfl

/-! ## Retention and the starts -/

theorem coldStart_run (s : State) (v : WakeResult) : Run s (s.coldStart v) := (StartEffect.cold v).run

theorem wakeStart_run (s : State) : Run s s.wakeStart := StartEffect.wake.run

theorem restartInto_run {new : State} (h : Run s new) : Run s (s.restartInto new) := by
  have started : Run s { new with retention := { new.retention with vretFailed := s.retention.vretFailed } } :=
    h.trans (retention_run new _)
  unfold State.restartInto
  dsimp only
  split
  · exact (started.trans (enter_run _)).trans (retention_run _ _)
  · exact started

theorem blockRestartCode_run (code : Nat) : Run s (blockRestartCode code s).1 := by
  unfold blockRestartCode
  split
  · exact .refl
  · exact restartInto_run (wakeStart_run s)

theorem verifyAndStart_run (s : State) : Run s s.verifyAndStart := by
  unfold State.verifyAndStart
  split
  · split
    · exact wakeStart_run s
    · exact coldStart_run s _
  · exact coldStart_run s _
  · exact coldStart_run s _

theorem setPfail_run (s : State) (level : Bool) : Run s (s.setPfail level) := retention_run s _

theorem pfailFalls_run (s : State) : Run s s.pfailFalls := by
  have fallen := setPfail_run s true
  unfold State.pfailFalls
  dsimp only
  split
  · exact fallen
  · split
    · exact (fallen.trans (enter_run _)).trans (retention_run _ _)
    · exact fallen.trans (retention_run _ _)

theorem capture_run (s : State) : Run s s.capture := by
  unfold State.capture
  split
  · exact (captured_effect s).run_effect.trans (registers_run _ _ _ _)
  · exact .refl

theorem pfailRises_run (s : State) : Run s s.pfailRises := by
  unfold State.pfailRises
  dsimp only
  split
  · exact (setPfail_run s false).trans (verifyAndStart_run _)
  · exact setPfail_run s false

theorem powersUp_run (s : State) : Run s s.powersUp := by
  unfold State.powersUp
  dsimp only
  split
  · exact setPfail_run s false
  · split
    · exact (setPfail_run s false).trans (verifyAndStart_run _)
    · exact (setPfail_run s false).trans (coldStart_run _ _)

theorem supplyFails_run (s : State) : Run s s.supplyFails := by
  unfold State.supplyFails
  split
  · exact registers_run s _ _ s.pending
  · exact retention_run s _

theorem resets_run (s : State) : Run s s.resets :=
  (retention_run s { s.retention with resetHeld := true }).trans LinkEffect.emptied.run

theorem leavesReset_run (s : State) : Run s s.leavesReset := by
  unfold State.leavesReset
  split
  · exact coldStart_run s _
  · exact .refl

/-! ## The link -/

theorem receive_run (s : State) (began : Reception) (sdi : List Byte) : Run s (s.receive began sdi) := by
  unfold State.receive
  split
  · exact .refl
  next f _ =>
    split
    · exact .refl
    · split
      · exact (LinkEffect.offer (s := s) f.request).run.trans (transfer_run _ _)
      · exact transfer_run s _

theorem endTransfer_run (s : State) (clocked : Nat) : Run s (s.endTransfer clocked) := by
  have ended : Run s (s.setLink { s.link with transfer := none }) := transfer_run s none
  unfold State.endTransfer
  dsimp only
  split
  next reads =>
    unfold Transfer.readsOut at reads
    split at reads
    next r _ =>
      simp only [Bool.and_eq_true, decide_eq_true_eq] at reads
      exact ended.trans (LinkEffect.readHead (s := s.setLink { s.link with transfer := none }) r reads.2).run
    next => cases reads
  next => exact ended

theorem blockNoticeFetch_run (q : Unit) : Run s (blockNoticeFetch q s).1 := LinkEffect.fetchNotices.run

theorem endOf_run {c : Instr} {run : State → State × Answer} (h : endOf c = some run) (s : State) :
    Run s (run s).1 := by
  unfold endOf at h
  split at h <;> cases h
  · exact judged_run (fun x s => blockLoadEnd_run x) s
  · exact judged_run (fun x s _ => blockTierPut_run x) s
  · exact judged_run (fun x s _ => blockDayRoll_run x) s
  · exact judged_run (fun x s _ => blockSail_run x) s
  · exact judged_run (fun x s => blockSecure_run x) s

theorem requestEnds_run (h : requestEnds s = some t) : Run s t := by
  unfold requestEnds at h
  obtain ⟨c, -, h⟩ := Option.bind_eq_some_iff.mp h
  obtain ⟨run, ends, rfl⟩ := Option.map_eq_some_iff.mp h
  exact (endOf_run ends s).trans (LinkEffect.complete _).run

/-! ## Every command and every step -/

/-- A block that leaves its state is a run. -/
theorem run_of_state {u : State} (h : u = s) : Run s u := by
  rw [h]

theorem exec_run {c : Instr} (h : exec c s = .next t) : Run s t := by
  cases c with
  | frameReceived began sdi => cases h; exact receive_run s began sdi
  | transferEnd clocked => cases h; exact endTransfer_run s clocked
  | badFrame mark tag => exact serve_run (fun _ => .refl) h
  | unknownCode code tag => exact serve_run (fun _ => .refl) h
  | summary tag q => exact serve_run (judged_run fun _ _ _ => .refl) h
  | noticeFetch tag q => exact serve_run (judged_run fun x _ _ => blockNoticeFetch_run x) h
  | orderFetch tag q => exact serve_run (judged_run fun x _ _ => blockOrderFetch_run x) h
  | loadBegin tag q => exact serve_run (judged_run fun x _ => blockLoadBegin_run x) h
  | loadEnd tag q span => exact serveFor_run (judged_run fun x _ => blockLoadEnd_run x) h
  | cardPut tag q => exact serve_run (judged_run fun x _ _ => blockCardPut_run x) h
  | cardRead tag q => exact serve_run (judged_run fun x s _ => run_of_state (blockCardRead_state x s)) h
  | cardReissue tag q => exact serve_run (judged_run fun x _ _ => blockCardReissue_run x) h
  | cardRetire tag q => exact serve_run (judged_run fun x _ _ => blockCardRetire_run x) h
  | accountPut tag q => exact serve_run (judged_run fun x _ _ => blockAccountPut_run x) h
  | accountRead tag q => exact serve_run (judged_run fun x s _ => run_of_state (blockAccountRead_state x s)) h
  | accountCredit tag q => exact serve_run (judged_run fun x _ _ => blockAccountCredit_run x) h
  | accountRetire tag q => exact serve_run (judged_run fun x _ _ => blockAccountRetire_run x) h
  | doorPut tag q => exact serve_run (judged_run fun x _ _ => blockDoorPut_run x) h
  | doorRead tag q => exact serve_run (judged_run fun x s _ => run_of_state (blockDoorRead_state x s)) h
  | categoryPut tag q => exact serve_run (judged_run fun x _ _ => blockCategoryPut_run x) h
  | regionPut tag q => exact serve_run (judged_run fun x _ _ => blockRegionPut_run x) h
  | tierPut tag q span => exact serveFor_run (judged_run fun x _ _ => blockTierPut_run x) h
  | settingPut tag q => exact serve_run (judged_run fun x _ _ => blockSettingPut_run x) h
  | settingRead tag q => exact serve_run (judged_run fun x s _ => run_of_state (blockSettingRead_state x s)) h
  | doorCard tag q => exact serve_run (judged_run fun x _ => blockDoorCard_run x) h
  | doorReport tag q => exact serve_run (judged_run fun x _ => blockDoorReport_run x) h
  | relatchTimerExpiry door => exact happens_run (fun _ => relatchExpires_run door) h
  | strikeConfirmExpiry door => exact happens_run (fun _ => strikeConfirmExpires_run door) h
  | ajarTimerExpiry door => exact happens_run (fun _ => ajarExpires_run door) h
  | relatchConfirmExpiry door => exact happens_run (fun _ => relatchConfirmExpires_run door) h
  | auditStep => exact happens_run (fun _ => auditSteps_run) h
  | busWindowAgeOut bus => exact happens_run (fun _ => windowAgesOut_run bus) h
  | charge tag q => exact serve_run (judged_run fun x _ => blockCharge_run x) h
  | void tag q => exact serve_run (judged_run fun x _ _ => blockVoid_run x) h
  | tabOpen tag q => exact serve_run (judged_run fun x _ => blockTabOpen_run x) h
  | tabAdd tag q => exact serve_run (judged_run fun x _ _ => blockTabAdd_run x) h
  | tabClose tag q => exact serve_run (judged_run fun x _ _ => blockTabClose_run x) h
  | tabRead tag q => exact serve_run (judged_run fun x s _ => run_of_state (blockTabRead_state x s)) h
  | tabIdleExpiry slot => exact happens_run (fun _ => tabExpires_run slot) h
  | postFetch tag q => exact serve_run (judged_run fun x _ _ => blockPostFetch_run x) h
  | postRelease tag q => exact serve_run (judged_run fun x _ _ => blockPostRelease_run x) h
  | postRewind tag q => exact serve_run (judged_run fun x _ _ => blockPostRewind_run x) h
  | laneOpen tag q => exact serve_run (judged_run fun x _ => blockLaneOpen_run x) h
  | laneClose tag q => exact serve_run (judged_run fun x _ _ => blockLaneClose_run x) h
  | laneRead tag q => exact serve_run (judged_run fun x s _ => run_of_state (blockLaneRead_state x s)) h
  | laneInputEdge lane input level => cases h; exact (laneEdge_effect lane s input _).run_effect
  | beamChangeTaken lane beam =>
    exact happens_run (fun _ => onlyLanes_run fun hn e => laneEvent_run (beamTaken_step hn e)) h
  | pairingWaitExpiry lane =>
    exact happens_run (fun _ => onlyLanes_run fun hn e => laneEvent_run (pairingExpires_step hn e)) h
  | braceChangeTaken lane =>
    exact happens_run (fun _ => onlyLanes_run fun hn e => laneEvent_run (braceTaken_step hn e)) h
  | flowWindowClose lane =>
    exact happens_run (fun _ => onlyLanes_run fun hn e => laneEvent_run (flowCloses_step hn e)) h
  | gangwayCard tag q => exact serve_run (judged_run fun x _ _ => blockGangwayCard_run x) h
  | presenceSet tag q => exact serve_run (judged_run fun x _ _ => blockPresenceSet_run x) h
  | allaboardQuery tag q => exact serve_run (judged_run fun x s _ => run_of_state (blockAllAboard_state x s)) h
  | timeSet tag q => exact serve_run (judged_run fun x _ _ => blockTimeSet_run x) h
  | dayRoll tag q span => exact serveFor_run (judged_run fun x _ _ => blockDayRoll_run x) h
  | portArrive tag q => exact serve_run (judged_run fun x _ _ => blockPortArrive_run x) h
  | sail tag q span => exact serveFor_run (judged_run fun x _ _ => blockSail_run x) h
  | modeSetSecure tag span => exact serveFor_run (judged_run fun x _ => blockSecure_run x) h
  | modeSetService tag q => exact serve_run (judged_run fun x _ => blockModeCode_run x) h
  | runSecondsRise => exact happens_run (fun u e => by cases e; exact advanceTo_run s _) h
  | retain tag q => exact serve_run (judged_run fun _ s _ => enter_run s) h
  | pfailAsserted => cases h; exact pfailFalls_run s
  | retentionCapture => cases h; exact capture_run s
  | wake => cases h; exact pfailRises_run s
  | restartWarm tag q => exact serve_run (judged_run fun x _ _ => blockRestartCode_run x) h
  | restartCold tag => exact serve_run (judged_run fun _ s _ => restartInto_run (coldStart_run s _)) h
  | resetnAsserted => cases h; exact resets_run s
  | resetnDeasserted => cases h; exact leavesReset_run s
  | powerUp => cases h; exact powersUp_run s
  | transferStart => cases h; exact transfer_run s _
  | requestCompletion => exact happens_run (fun _ => requestEnds_run) h
  | beamChangeHeld lane beam =>
    exact happens_run (fun _ => onlyLanes_run fun hn e => laneEvent_run (beamHeld_step hn e)) h
  | retentionSupplyFailure => cases h; exact supplyFails_run s

/-- A step is a run of effects. -/
theorem step_run (h : step s = .next t) : Run s t := by
  rcases step_cases s with ⟨-, idle⟩ | ⟨c, rest, -, front⟩
  · cases idle.symm.trans h
    unfold State.idle
    split
    · exact advanceTo_run s _
    · exact .refl
  · exact (registers_run s s.retention s.freeCount rest).trans (exec_run (front.symm.trans h))

/-- A law that every effect keeps is kept by every step. -/
theorem step_keeps {P : State → Prop} (effect : ∀ s t, Effect s t → P s → P t) {s t : State}
    (h : step s = .next t) (hs : P s) : P t :=
  (step_run h).keeps effect hs

end Sys2Proof.Machine
end

section
/-! SUPPORT. What the larger effects leave alone, and the first of the laws: mode, clock, port condition and
settings (R1, R22, R144, R145). -/

namespace Sys2Proof.Machine

variable {s t : State}

/-! ## Frames -/

/-- `t` is `s` but for the door channels, the audit timer, the Strike Scheduler and the readers. -/
def DoorUnitsOnly (s t : State) : Prop :=
  t = { s with doorUnit := t.doorUnit, scheduler := t.scheduler, readers := t.readers }

theorem DoorsOnly.doorUnitsOnly (h : DoorsOnly s t) : DoorUnitsOnly s t := by
  unfold DoorUnitsOnly
  rw [h]

theorem handDoor_doorUnitsOnly (s : State) (d : Nat) (was now : Bool) :
    DoorUnitsOnly s (s.handDoor d was now) := by
  unfold State.handDoor
  split <;> exact rfl

theorem DoorEffect.frame (e : DoorEffect s t) : DoorUnitsOnly s t := by
  cases e with
  | reader door r => exact rfl
  | audit p n => exact rfl
  | channel door c => exact (setChannel_doorsOnly s door c).doorUnitsOnly
  | order k door => exact (placeOrder_doorsOnly s k door).doorUnitsOnly
  | release b => exact (release_doorsOnly s b).doorUnitsOnly
  | request door => exact rfl
  | withdraw door => exact rfl
  | cancel => exact (cancelRequests_doorsOnly s).doorUnitsOnly
  | fetch =>
    have taken : DoorsOnly s s.fetchOrders :=
      DoorsOnly.trans (t := { s with scheduler := { s.scheduler with orders := s.scheduler.orders.drop 8 } }) rfl
        (foldl_doorsOnly deliver_doorsOnly _ _)
    exact (taken.trans (refill_doorsOnly _)).doorUnitsOnly

theorem closeTab_moneyOnly (s : State) (slot : Nat) (x : Tab) (r : CloseReason) :
    MoneyOnly s (s.closeTab slot x r) := setEngine_moneyOnly s _

theorem MoneyEffect.frame (e : MoneyEffect s t) : MoneyOnly s t := by
  cases e with
  | append p => exact appendPosting_moneyOnly s p
  | postings ps => exact setEngine_moneyOnly s _
  | release d => exact MoneyOnly.trans (setEngine_moneyOnly s _) (serveWaiting_moneyOnly _)
  | openTab slot terminal cardSlot accountSlot c a hold => exact rfl
  | grow slot x d a y lines hold => exact rfl
  | settle slot x d r => exact settle_moneyOnly s slot x r
  | close slot x d r => exact closeTab_moneyOnly s slot x r

/-- A presence move is a relocation and then, tab by tab, the settlement of the tabs that the card leaves. What
both keep, the move keeps. -/
theorem movePresence_keeps {P : State → Prop} {slot : Nat} {c : Card} {new : Presence} {lane : Option Nat}
    (relocate : P s → c.presence ≠ new → P (s.relocate slot c new lane))
    (money : ∀ u v, MoneyEffect u v → P u → P v) (hs : P s) : P (s.movePresence slot c new lane).state := by
  have tab (d : Departed) (slot : Nat) (hd : P d.state) : P (d.tab slot).state := by
    unfold Departed.tab
    split
    next x deadline opened =>
      have forced := money _ _ (forceSettle_effect .departed opened) hd
      split <;> exact forced
    next => exact hd
  have tabs : ∀ (xs : List Nat) (d : Departed), P d.state → P (xs.foldl Departed.tab d).state := by
    intro xs
    induction xs with
    | nil => exact fun _ => id
    | cons x xs ih => exact fun d hd => ih _ (tab d x hd)
  unfold State.movePresence
  split
  · exact hs
  next moves =>
    dsimp only
    split
    · exact tabs _ _ (relocate hs moves)
    · exact relocate hs moves

theorem doorPut_store (s : State) (d : Nat) (g : DoorConfig) : (s.doorPut d g).store =
    { s.store with doors := Table.set DoorConfig.cold s.store.doors d g } := by
  unfold State.doorPut
  split
  · rw [handDoor_doorUnitsOnly (s.setDoorConfig d g)]; rfl
  · rfl

/-- `t` is `s` but for a door's configuration, the channels and the readers. -/
theorem doorPut_frame (s : State) (d : Nat) (g : DoorConfig) : s.doorPut d g = { s with
    store := (s.doorPut d g).store
    doorUnit := (s.doorPut d g).doorUnit
    scheduler := (s.doorPut d g).scheduler
    readers := (s.doorPut d g).readers } := by
  unfold State.doorPut
  split
  · exact (handDoor_doorUnitsOnly (s.setDoorConfig d g) _ _ _).trans (by
      rw [handDoor_doorUnitsOnly (s.setDoorConfig d g)]; rfl)
  · rfl

/-! ## The clock (R144, R145) -/

theorem Clock.advanceTo_le (c : Clock) {ms : Nat} (h : ms ≤ c.ms) : c.advanceTo ms = c := if_pos h

/-- Run-seconds count the completed seconds of the millisecond timer, saturating (R145). -/
theorem Clock.advanceTo_runSeconds {c : Clock} {ms : Nat} (h : c.runSeconds = min (c.ms / 1000) maxNat32) :
    (c.advanceTo ms).runSeconds = min ((c.advanceTo ms).ms / 1000) maxNat32 := by
  unfold Clock.advanceTo
  split
  · exact h
  next later =>
    have mono : c.ms / 1000 ≤ ms / 1000 := Nat.div_le_div_right (by omega)
    dsimp only
    omega

theorem Clock.advanceTo_shipTime {c : Clock} {ms x : Nat} (h : ∀ y, c.shipTime = some y → y < 86400)
    (hx : (c.advanceTo ms).shipTime = some x) : x < 86400 := by
  unfold Clock.advanceTo at hx
  split at hx
  · exact h x hx
  · obtain ⟨y, -, rfl⟩ := Option.map_eq_some_iff.mp hx
    exact Nat.mod_lt _ (by decide)

theorem State.clockLaw_iff (s : State) : s.clockLaw = true ↔
    s.clock.runSeconds = min (s.clock.ms / 1000) maxNat32 ∧ ∀ x, s.clock.shipTime = some x → x < 86400 := by
  simp only [State.clockLaw, Bool.and_eq_true, decide_eq_true_eq, and_congr_right_iff]
  intro _
  cases s.clock.shipTime <;> simp

theorem ClockEffect.clockLaw (e : ClockEffect s t) (h : s.clockLaw = true) : t.clockLaw = true := by
  rw [State.clockLaw_iff] at h ⊢
  obtain ⟨seconds, day⟩ := h
  cases e with
  | advance ms => exact ⟨Clock.advanceTo_runSeconds seconds, fun _ => Clock.advanceTo_shipTime day⟩
  | shipTime x range =>
    refine ⟨seconds, fun y hy => ?_⟩
    cases hy
    omega
  | arrive => exact ⟨seconds, day⟩
  | depart => exact ⟨seconds, day⟩

theorem StoreEffect.clock (e : StoreEffect s t) : ∃ day, t.clock = { s.clock with shipDay := day } := by
  cases e with
  | loadBegin day => exact ⟨day, rfl⟩
  | rolled => exact ⟨_, rfl⟩
  | door d g =>
    refine ⟨s.clock.shipDay, ?_⟩
    rw [doorPut_frame]
  | move slot c new lane =>
    refine ⟨s.clock.shipDay, ?_⟩
    exact movePresence_keeps (P := fun u => u.clock = s.clock) (fun _ _ => rfl)
      (fun u v e h => by rw [e.frame]; exact h) rfl
  | _ => exact ⟨s.clock.shipDay, rfl⟩

theorem Effect.clockLaw (e : Effect s t) (h : s.clockLaw = true) : t.clockLaw = true := by
  cases e with
  | clock e => exact e.clockLaw h
  | link e => rw [e.frame]; exact h
  | lane e => rw [e.frame]; exact h
  | door e => rw [e.frame]; exact h
  | money e => rw [e.frame]; exact h
  | store e =>
    obtain ⟨day, same⟩ := e.clock
    unfold State.clockLaw at h ⊢
    rw [same]
    exact h
  | start e =>
    cases e with
    | cold v => simp [State.clockLaw, State.coldStart, Clock.cold]
    | wake => simp [State.clockLaw, State.wakeStart]

/-- Ship day, port condition and region do not move with time. -/
theorem Clock.advanceTo_frame (c : Clock) (ms : Nat) : c.advanceTo ms = { c with
    ms := (c.advanceTo ms).ms
    runSeconds := (c.advanceTo ms).runSeconds
    shipTime := (c.advanceTo ms).shipTime } := by
  unfold Clock.advanceTo
  split <;> rfl

theorem Effect.portLaw (e : Effect s t) (h : s.portLaw = true) : t.portLaw = true := by
  cases e with
  | clock e =>
    cases e with
    | advance ms =>
      rw [State.portLaw, State.advanceTo, Clock.advanceTo_frame]
      exact h
    | shipTime => exact h
    | arrive region low high => simp [State.portLaw, low, high]
    | depart => rfl
  | link e => rw [e.frame]; exact h
  | lane e => rw [e.frame]; exact h
  | door e => rw [e.frame]; exact h
  | money e => rw [e.frame]; exact h
  | store e =>
    obtain ⟨day, same⟩ := e.clock
    unfold State.portLaw at h ⊢
    rw [same]
    exact h
  | start e =>
    cases e with
    | cold v => rfl
    | wake => exact h

/-! ## Mode and settings (R1, R22) -/

theorem Effect.modeLaw (e : Effect s t) (h : s.modeLaw = true) : t.modeLaw = true := by
  cases e with
  | clock e => rw [e.frame]; exact h
  | link e => rw [e.frame]; exact h
  | lane e => rw [e.frame]; exact h
  | door e => rw [e.frame]; exact h
  | money e => rw [e.frame]; exact h
  | store e =>
    cases e with
    | loadBegin day unloaded => simpa [State.modeLaw, unloaded] using h
    | enterService => rfl
    | secure => rfl
    | reopen => rfl
    | door d g => rw [State.modeLaw, doorPut_store]; exact h
    | move =>
      exact movePresence_keeps (P := fun u => u.modeLaw = true) (fun h _ => h)
        (fun u v e h => by rw [e.frame]; exact h) h
    | _ => exact h
  | start e =>
    cases e with
    | cold v => rfl
    | wake => exact h

theorem clampTo_within {low high : Nat} (h : low ≤ high) (x : Nat) : within low high (clampTo low high x) = true := by
  rw [within, Bool.and_eq_true, decide_eq_true_eq, decide_eq_true_eq]
  exact ⟨Nat.le_max_left .., Nat.max_le.mpr ⟨h, Nat.min_le_left ..⟩⟩

theorem flowWindowOf_lawful (x : Nat) : flowWindowLaw (flowWindowOf x) = true := by
  unfold flowWindowOf
  split
  · rfl
  · split <;> rfl

theorem Four.all_set {α : Type} {p : α → Bool} {f : Four α} (h : f.all p = true) (n : Nat) {v : α}
    (hv : p v = true) : (f.set n v).all p = true := by
  rw [Four.all_iff] at h ⊢
  intro m hm
  by_cases e : m = n
  · subst e
    rw [Four.get_set_self f hm]
    exact hv
  · rw [Four.get_set_other f hm e]
    exact h m hm

/-- R23: whatever value is put, the setting written is in its range. -/
theorem Settings.write_law {v : Settings} (h : v.law = true) (name : SettingName) (x : Nat) :
    (v.write name x).law = true := by
  simp only [Settings.law, Bool.and_eq_true] at h ⊢
  cases name with
  | flowWindow n =>
    obtain ⟨⟨⟨⟨before, windows⟩, limits⟩, tolerance⟩, high⟩ := h
    exact ⟨⟨⟨⟨before, Four.all_set windows n (flowWindowOf_lawful x)⟩, limits⟩, tolerance⟩, high⟩
  | flowLimit n =>
    obtain ⟨⟨⟨⟨before, windows⟩, limits⟩, tolerance⟩, high⟩ := h
    exact ⟨⟨⟨⟨before, windows⟩, Four.all_set limits n (clampTo_within (by decide) x)⟩, tolerance⟩, high⟩
  | _ => simp only [Settings.write, h, clampTo_within, Nat.reduceLeDiff, and_self]

theorem Effect.settingsLaw (e : Effect s t) (h : s.store.settings.law = true) :
    t.store.settings.law = true := by
  cases e with
  | clock e => rw [e.frame]; exact h
  | link e => rw [e.frame]; exact h
  | lane e => rw [e.frame]; exact h
  | door e => rw [e.frame]; exact h
  | money e => rw [e.frame]; exact h
  | store e =>
    cases e with
    | setting name x => exact Settings.write_law h name x
    | door d g => rw [doorPut_store]; exact h
    | move =>
      exact movePresence_keeps (P := fun u => u.store.settings.law = true) (fun h _ => h)
        (fun u v e h => by rw [e.frame]; exact h) h
    | _ => exact h
  | start e =>
    cases e with
    | cold v => rfl
    | wake => exact h

/-- Settles O54: each of the four laws is kept by every effect on its own. -/
theorem everyStepKeepsModeClockPortAndSettings : Obligations.EveryStepKeepsModeClockPortAndSettings := by
  unfold Obligations.EveryStepKeepsModeClockPortAndSettings
  exact fun s t h => ⟨step_keeps (fun _ _ => Effect.modeLaw) h, step_keeps (fun _ _ => Effect.clockLaw) h,
    step_keeps (fun _ _ => Effect.portLaw) h,
    step_keeps (P := fun s => s.store.settings.law = true) (fun _ _ => Effect.settingsLaw) h⟩

end Sys2Proof.Machine
end

section
/-! The lanes and the reply queue: what every step keeps of them (R109 to R119, R155 to R157). -/

namespace Sys2Proof.Machine

variable {s t : State}

/-! ## The reply queue in order (R155, R156) -/

/-- The queue and the buffer in one of their two forms: unread replies alone, or replies, the request in
execution and the requests that wait for it. -/
def Link.Orderly (l : Link) : Prop :=
  (l.places.all Place.isReply = true ∧ (l.buffer = none ∨ l.places.length = replyPlaces)) ∨
    ∃ replies c waits, l.places = replies ++ .executing c :: waits ∧ replies.all Place.isReply = true ∧
      waits.all Place.isWaiting = true ∧ l.buffer = some c

theorem executing_of_split {l : Link} {replies waits : List Place} {c : Instr}
    (split : l.places = replies ++ .executing c :: waits) (replied : replies.all Place.isReply = true) :
    l.executing = some c := by
  have rest : (Place.executing c :: waits).findSome? Place.executing? = some c := rfl
  rw [Link.executing, split, List.findSome?_append, executing_of_replies replied, rest]
  rfl

theorem dropWhile_replies {replies rest : List Place} (replied : replies.all Place.isReply = true) :
    (replies ++ rest).dropWhile Place.isReply = rest.dropWhile Place.isReply := by
  rw [List.dropWhile_append, if_pos]
  rw [List.isEmpty_iff, List.dropWhile_eq_nil_iff]
  exact List.all_eq_true.mp replied

/-- The two forms of what stands behind the replies. -/
theorem restLaw_iff (ps : List Place) :
    restLaw ps = true ↔ ps = [] ∨ ∃ c waits, ps = .executing c :: waits ∧ waits.all Place.isWaiting = true := by
  cases ps with
  | nil => simp [restLaw]
  | cons p ps => cases p <;> simp [restLaw]

theorem State.linkLaw_of_replies (replied : s.link.places.all Place.isReply = true) :
    s.linkLaw = true ↔ s.link.buffer = none ∨ s.link.places.length = replyPlaces := by
  have none : s.link.executing = none := executing_of_replies replied
  have nil : s.link.places.dropWhile Place.isReply = [] :=
    List.dropWhile_eq_nil_iff.mpr (List.all_eq_true.mp replied)
  rw [State.linkLaw, nil, none]
  simp [restLaw]

theorem State.linkLaw_of_split {replies waits : List Place} {c : Instr}
    (split : s.link.places = replies ++ .executing c :: waits) (replied : replies.all Place.isReply = true) :
    s.linkLaw = true ↔ waits.all Place.isWaiting = true ∧ s.link.buffer = some c := by
  have rest : (Place.executing c :: waits).dropWhile Place.isReply = .executing c :: waits := rfl
  rw [State.linkLaw, executing_of_split split replied, split, dropWhile_replies replied, rest]
  simp [restLaw]

theorem State.linkLaw_iff (s : State) : s.linkLaw = true ↔ s.link.Orderly := by
  constructor
  · intro law
    have whole := (List.takeWhile_append_dropWhile (p := Place.isReply) (l := s.link.places)).symm
    have replied : (s.link.places.takeWhile Place.isReply).all Place.isReply = true := List.all_takeWhile
    have tail : restLaw (s.link.places.dropWhile Place.isReply) = true := by
      rw [State.linkLaw, Bool.and_eq_true] at law
      exact law.1
    rcases (restLaw_iff _).mp tail with nil | ⟨c, waits, cons, -⟩
    · rw [nil, List.append_nil] at whole
      rw [← whole] at replied
      exact .inl ⟨replied, (State.linkLaw_of_replies replied).mp law⟩
    · rw [cons] at whole
      obtain ⟨waiting, buffer⟩ := (State.linkLaw_of_split whole replied).mp law
      exact .inr ⟨_, c, waits, whole, replied, waiting, buffer⟩
  · rintro (⟨replied, buffer⟩ | ⟨replies, c, waits, whole, replied, waiting, buffer⟩)
    · exact (State.linkLaw_of_replies replied).mpr buffer
    · exact (State.linkLaw_of_split whole replied).mpr ⟨waiting, buffer⟩

/-! ## The operations of the reply queue -/

theorem Link.beginNext_of_executing {l : Link} {c : Instr} (h : l.executing = some c) : l.beginNext = l := by
  simp only [Link.beginNext, h]

theorem Link.beginNext_of_replies {l : Link} (h : l.places.all Place.isReply = true) : l.beginNext = l := by
  have none : l.executing = none := executing_of_replies h
  simp only [Link.beginNext, none, beginOldest_of_replies h]

/-- Behind the unread replies the oldest WAITING request begins (R156). -/
theorem Link.beginNext_of_waiting {l : Link} {replies waits : List Place} {c : Instr}
    (split : l.places = replies ++ .waiting c :: waits) (replied : replies.all Place.isReply = true)
    (waiting : waits.all Place.isWaiting = true) :
    l.beginNext = { l with places := replies ++ .executing c :: waits, buffer := some c } := by
  have none : l.executing = none := by
    have rest : waits.findSome? Place.executing? = none := by
      rw [List.findSome?_eq_none_iff]
      intro p hp
      cases p with
      | executing c => exact absurd (List.all_eq_true.mp waiting _ hp) (by simp [Place.isWaiting])
      | _ => rfl
    have tail : (Place.waiting c :: waits).findSome? Place.executing? = none := rest
    rw [Link.executing, split, List.findSome?_append, executing_of_replies replied, tail]
    rfl
  simp only [Link.beginNext, none, split, beginOldest_append replied]

/-- Replies with waiting requests behind them are in order once the oldest has begun. -/
theorem Link.Orderly.beginNext {l : Link} {replies waits : List Place} (split : l.places = replies ++ waits)
    (replied : replies.all Place.isReply = true) (waiting : waits.all Place.isWaiting = true)
    (buffer : l.buffer = none) : l.beginNext.Orderly := by
  cases waits with
  | nil =>
    rw [List.append_nil] at split
    rw [Link.beginNext_of_replies (by rw [split]; exact replied)]
    exact .inl ⟨by rw [split]; exact replied, .inl buffer⟩
  | cons p waits =>
    simp only [List.all_cons, Bool.and_eq_true] at waiting
    obtain ⟨first, waiting⟩ := waiting
    cases p with
    | waiting c =>
      rw [Link.beginNext_of_waiting split replied waiting]
      exact .inr ⟨replies, c, waits, rfl, replied, waiting, rfl⟩
    | executing c => cases first
    | reply r => cases first

theorem beginOldest_length : ∀ {ps qs : List Place} {c : Instr}, beginOldest ps = some (c, qs) →
    qs.length = ps.length
  | [], _, _, h => by cases h
  | .waiting _ :: ps, _, _, h => by cases h; rfl
  | .executing d :: ps, _, _, h => by
    obtain ⟨x, hx, e⟩ := Option.map_eq_some_iff.mp h
    cases e
    exact congrArg Nat.succ (beginOldest_length hx)
  | .reply r :: ps, _, _, h => by
    obtain ⟨x, hx, e⟩ := Option.map_eq_some_iff.mp h
    cases e
    exact congrArg Nat.succ (beginOldest_length hx)

theorem Link.beginNext_length (l : Link) : l.beginNext.places.length = l.places.length := by
  unfold Link.beginNext
  split
  · rfl
  · split
    next found => exact beginOldest_length found
    next => rfl

theorem Link.offer_length {l : Link} (c : Instr) (h : l.places.length ≤ replyPlaces) :
    (l.offer c).places.length ≤ replyPlaces := by
  unfold Link.offer
  split
  next room =>
    rw [Link.beginNext_length]
    simpa using room
  next => split <;> exact h

theorem Link.offer_orderly {l : Link} (c : Instr) (h : l.Orderly) (room : l.places.length ≤ replyPlaces) :
    (l.offer c).Orderly := by
  unfold Link.offer
  split
  next free =>
    rcases h with ⟨replied, buffer⟩ | ⟨replies, d, waits, whole, replied, waiting, buffer⟩
    · exact .beginNext (replies := l.places) (waits := [.waiting c]) rfl replied rfl
        (buffer.resolve_right (by omega))
    · have whole' : l.places ++ [.waiting c] = replies ++ .executing d :: (waits ++ [.waiting c]) := by
        rw [whole]; simp
      rw [Link.beginNext_of_executing (executing_of_split whole' replied)]
      exact .inr ⟨replies, d, waits ++ [.waiting c], whole', replied, by simp [waiting, Place.isWaiting], buffer⟩
  next full =>
    split
    next empty =>
      rcases h with ⟨replied, -⟩ | ⟨_, _, _, _, _, _, buffer⟩
      · exact .inl ⟨replied, .inr (Nat.le_antisymm room (Nat.le_of_not_lt full))⟩
      · simp [buffer] at empty
    next => exact h

theorem Link.headReply_eq {l : Link} {r : Reply} (h : l.headReply = some r) : ∃ rest, l.places = .reply r :: rest := by
  unfold Link.headReply at h
  split at h
  next r' rest places => cases h; exact ⟨rest, places⟩
  next => cases h

theorem Link.readHead_length {l : Link} {r : Reply} (head : l.headReply = some r)
    (h : l.places.length ≤ replyPlaces) : l.readHead.places.length ≤ replyPlaces := by
  obtain ⟨rest, places⟩ := Link.headReply_eq head
  rw [places, List.length_cons] at h
  unfold Link.readHead
  dsimp only
  split
  · rw [Link.beginNext_length]
    simpa [places] using h
  · show l.places.tail.length ≤ replyPlaces
    rw [places, List.tail_cons]
    omega

theorem Link.readHead_orderly {l : Link} {r : Reply} (head : l.headReply = some r) (h : l.Orderly) :
    l.readHead.Orderly := by
  obtain ⟨rest, places⟩ := Link.headReply_eq head
  rcases h with ⟨replied, -⟩ | ⟨replies, d, waits, whole, replied, waiting, buffer⟩
  · have none : l.executing = none := executing_of_replies replied
    rw [places, List.all_cons, Bool.and_eq_true] at replied
    have tail : l.places.tail = rest := by rw [places]; rfl
    unfold Link.readHead
    cases buffered : l.buffer with
    | none =>
      simp only [none]
      exact .inl ⟨by rw [tail]; exact replied.2, .inl rfl⟩
    | some c =>
      simp only [none]
      exact .beginNext (replies := rest) (waits := [.waiting c]) (by simp [tail]) replied.2 rfl rfl
  · have executing := executing_of_split whole replied
    unfold Link.readHead
    simp only [executing]
    cases replies with
    | nil => rw [places] at whole; cases whole
    | cons p replies =>
      rw [List.all_cons, Bool.and_eq_true] at replied
      exact .inr ⟨replies, d, waits, by rw [whole]; rfl, replied.2, waiting, buffer⟩

theorem complete_length (r : Reply) (h : s.link.places.length ≤ replyPlaces) :
    (s.complete r).link.places.length ≤ replyPlaces := by
  unfold State.complete
  split
  · exact h
  · split
    · show (Link.beginNext _).places.length ≤ replyPlaces
      rw [Link.beginNext_length, List.length_map]
      exact h
    · exact Nat.zero_le _

theorem map_answered_waits {waits : List Place} (h : waits.all Place.isWaiting = true) (r : Reply) :
    waits.map (Place.answered r) = waits := by
  rw [List.map_congr_left (g := id), List.map_id]
  intro p hp
  cases p with
  | executing c => exact absurd (List.all_eq_true.mp h _ hp) (by simp [Place.isWaiting])
  | _ => rfl

theorem complete_orderly (r : Reply) (h : s.link.Orderly) : (s.complete r).link.Orderly := by
  unfold State.complete
  split
  · exact h
  next executing =>
    split
    · rcases h with ⟨replied, -⟩ | ⟨replies, d, waits, whole, replied, waiting, buffer⟩
      · have none : s.link.executing = none := executing_of_replies replied
        rw [none] at executing
        cases executing
      · refine Link.Orderly.beginNext (replies := replies ++ [.reply r]) (waits := waits) ?_ ?_ waiting rfl
        · simp [whole, map_answered_replies replied, map_answered_waits waiting, Place.answered]
        · simpa [Place.isReply] using replied
    · exact .inl ⟨rfl, .inl rfl⟩

/-! ## Every effect on the link -/

/-- The queue and its buffer are untouched. -/
structure SameQueue (s t : State) : Prop where
  places : t.link.places = s.link.places
  buffer : t.link.buffer = s.link.buffer

theorem raise_sameQueue (s : State) (b : NoticeBody) : SameQueue s (s.raise b) :=
  ⟨s.raise_places b, s.raise_buffer b⟩

theorem StoreEffect.sameQueue (e : StoreEffect s t) : SameQueue s t := by
  cases e with
  | door d g => rw [doorPut_frame]; exact ⟨rfl, rfl⟩
  | move slot c new lane =>
    refine movePresence_keeps (P := SameQueue s) (fun h _ => ⟨h.places, h.buffer⟩) (fun u v e h => ?_) ⟨rfl, rfl⟩
    rw [e.frame]
    exact ⟨h.places, h.buffer⟩
  | _ => exact ⟨rfl, rfl⟩

/-- An effect off the link keeps the queue, or the part starts and the queue is empty. -/
theorem Effect.queue (e : Effect s t) : LinkEffect s t ∨ SameQueue s t ∨
    (t.link.places = [] ∧ t.link.buffer = none) := by
  cases e with
  | clock e => rw [e.frame]; exact .inr (.inl ⟨rfl, rfl⟩)
  | link e => exact .inl e
  | lane e => rw [e.frame]; exact .inr (.inl ⟨rfl, rfl⟩)
  | door e => rw [e.frame]; exact .inr (.inl ⟨rfl, rfl⟩)
  | store e => exact .inr (.inl e.sameQueue)
  | money e => rw [e.frame]; exact .inr (.inl ⟨rfl, rfl⟩)
  | start e => cases e <;> exact .inr (.inr ⟨rfl, rfl⟩)

theorem LinkEffect.places (e : LinkEffect s t) (h : s.link.places.length ≤ replyPlaces) :
    t.link.places.length ≤ replyPlaces := by
  cases e with
  | offer c => exact Link.offer_length c h
  | readHead r head => exact Link.readHead_length head h
  | complete r => exact complete_length r h
  | raise b => rw [(raise_sameQueue s b).places]; exact h
  | entered =>
    show s.link.entered.places.length ≤ replyPlaces
    unfold Link.entered
    split
    · exact Nat.le_add_left 1 3
    · exact Nat.zero_le _
  | emptied => exact Nat.zero_le _
  | _ => exact h

theorem LinkEffect.orderly (e : LinkEffect s t) (room : s.link.places.length ≤ replyPlaces)
    (h : s.link.Orderly) : t.link.Orderly := by
  cases e with
  | offer c => exact Link.offer_orderly c h room
  | readHead r head => exact Link.readHead_orderly head h
  | complete r => exact complete_orderly r h
  | raise b => simpa only [Link.Orderly, State.raise_places, State.raise_buffer] using h
  | entered =>
    show s.link.entered.Orderly
    unfold Link.entered
    split
    next c _ => exact .inr ⟨[], c, [], rfl, rfl, rfl, rfl⟩
    next => exact .inl ⟨rfl, .inl rfl⟩
  | emptied => exact .inl ⟨rfl, .inl rfl⟩
  | _ => exact h

/-- The reply queue within its room and in order. -/
structure State.QueueInOrder (s : State) : Prop where
  room : s.link.places.length ≤ replyPlaces
  orderly : s.link.Orderly

theorem Effect.queueInOrder (e : Effect s t) (h : s.QueueInOrder) : t.QueueInOrder := by
  obtain ⟨room, orderly⟩ := h
  rcases e.queue with link | ⟨places, buffer⟩ | ⟨places, buffer⟩
  · exact ⟨link.places room, link.orderly room orderly⟩
  · exact ⟨by rw [places]; exact room, by simpa only [Link.Orderly, places, buffer] using orderly⟩
  · exact ⟨by rw [places]; exact Nat.zero_le _, .inl ⟨by rw [places]; rfl, .inl buffer⟩⟩

/-! ## The lanes -/

theorem StoreEffect.lanes (e : StoreEffect s t) : t.lanes = s.lanes := by
  cases e with
  | door d g => rw [doorPut_frame]
  | move slot c new lane =>
    exact movePresence_keeps (P := fun u => u.lanes = s.lanes) (fun h _ => h)
      (fun u v e h => by rw [e.frame]; exact h) rfl
  | _ => rfl

theorem Effect.laneLaw (e : Effect s t) (h : s.laneLaw = true) : t.laneLaw = true := by
  cases e with
  | clock e => rw [e.frame]; exact h
  | link e => rw [e.frame]; exact h
  | lane e => exact e.law h
  | door e => rw [e.frame]; exact h
  | store e => rw [State.laneLaw, e.lanes]; exact h
  | money e => rw [e.frame]; exact h
  | start e => cases e <;> rfl

theorem places_of_roomLaw (h : s.roomLaw = true) : s.link.places.length ≤ replyPlaces := by
  simp only [State.roomLaw, Bool.and_eq_true, decide_eq_true_eq, and_assoc] at h
  exact h.2.2.2.1

/-- Settles O56: the laws of the lanes by the lane effects, and the order of the reply queue by what each
operation of the link makes of its two forms. -/
theorem everyStepKeepsLanesAndLink : Obligations.EveryStepKeepsLanesAndLink := by
  unfold Obligations.EveryStepKeepsLanesAndLink
  refine fun s t h => ⟨step_keeps (fun _ _ => Effect.laneLaw) h, fun room law => ?_⟩
  have start : s.QueueInOrder := ⟨places_of_roomLaw room, s.linkLaw_iff.mp law⟩
  exact t.linkLaw_iff.mpr (step_keeps (fun _ _ => Effect.queueInOrder) h start).orderly

end Sys2Proof.Machine
end

section
/-! Tables in canonical form, queues within their room, and a part that is not loaded holds nothing: what every
step keeps of them (R2, R58, R59, R61, R100, R155, R161). -/

namespace Sys2Proof.Machine

variable {s t : State}

/-! ## What every entry of a table satisfies -/

theorem Table.get_of_all {α : Type} {p : α → Prop} {d : α} {t : Table α} (all : ∀ e ∈ t, p e.2) (dflt : p d)
    (k : Nat) : p (Table.get d t k) := by
  unfold Table.get
  cases found : Table.find t k with
  | none => exact dflt
  | some v => exact all _ (Table.mem_of_find found)

theorem Table.mem_set {α : Type} [DecidableEq α] {d : α} {t : Table α} {k : Nat} {v : α} {e : Nat × α}
    (h : e ∈ Table.set d t k v) : e = (k, v) ∨ e ∈ t := by
  unfold Table.set at h
  split at h
  · exact .inr (List.mem_of_mem_filter h)
  · exact Table.mem_put h

theorem Table.all_set {α : Type} [DecidableEq α] {p : α → Prop} {d : α} {t : Table α} (all : ∀ e ∈ t, p e.2)
    (k : Nat) {v : α} (hv : p v) : ∀ e ∈ Table.set d t k v, p e.2 := by
  intro e he
  rcases Table.mem_set he with rfl | old
  · exact hv
  · exact all e old

/-! ## The tables, named one by one -/

/-- Every table of the part in its canonical form. -/
structure State.Canonical (s : State) : Prop where
  cards : s.store.cards.rising = true
  accounts : s.store.accounts.rising = true
  doors : s.store.doors.canonical DoorConfig.cold = true
  categories : s.store.categories.canonical ⟨false, false, 0⟩ = true
  regions : s.store.regions.canonical 0 = true
  tiers : s.store.tiers.canonical ⟨0#16, 0, 0⟩ = true
  tabs : s.engine.tabs.canonical TabSlot.cold = true
  terminalTabs : s.engine.terminalTabs.canonical 0 = true
  channels : s.doorUnit.channels.canonical Channel.start = true
  buses : s.scheduler.buses.canonical Bus.start = true
  readers : s.readers.canonical Reader.start = true

theorem State.tablesLaw_iff (s : State) : s.tablesLaw = true ↔ s.Canonical := by
  simp only [State.tablesLaw, Bool.and_eq_true, and_assoc]
  exact ⟨fun ⟨h1, h2, h3, h4, h5, h6, h7, h8, h9, h10, h11⟩ => ⟨h1, h2, h3, h4, h5, h6, h7, h8, h9, h10, h11⟩,
    fun ⟨h1, h2, h3, h4, h5, h6, h7, h8, h9, h10, h11⟩ => ⟨h1, h2, h3, h4, h5, h6, h7, h8, h9, h10, h11⟩⟩

/-! ## The queues within their room -/

/-- A bus's queue and history within their room (R58, R59). -/
def Bus.Fits (b : Bus) : Prop := b.queue.length ≤ busQueueRoom ∧ b.history.length ≤ 8

/-- Every queue of the part within its room. -/
structure State.Fits (s : State) : Prop where
  orders : s.scheduler.orders.length ≤ orderQueueRoom
  postings : s.engine.postings.length ≤ postingQueueRoom
  notices : s.link.notices.length ≤ noticeQueueRoom
  places : s.link.places.length ≤ replyPlaces
  buses : ∀ e ∈ s.scheduler.buses, e.2.Fits

theorem State.roomLaw_iff (s : State) : s.roomLaw = true ↔ s.Fits := by
  simp only [State.roomLaw, Bool.and_eq_true, decide_eq_true_eq, List.all_eq_true, and_assoc]
  exact ⟨fun ⟨h1, h2, h3, h4, h5⟩ => ⟨h1, h2, h3, h4, h5⟩, fun ⟨h1, h2, h3, h4, h5⟩ => ⟨h1, h2, h3, h4, h5⟩⟩

theorem State.Fits.bus (h : s.Fits) (b : Nat) : (s.bus b).Fits :=
  Table.get_of_all (p := Bus.Fits) h.buses ⟨Nat.zero_le _, Nat.zero_le _⟩ b

theorem raise_notices (b : NoticeBody) (h : s.link.notices.length ≤ noticeQueueRoom) :
    (s.raise b).link.notices.length ≤ noticeQueueRoom := by
  unfold State.raise
  split
  next room => simpa [State.setLink] using room
  next => exact h

theorem appendRelease_length {history : List Nat} (h : history.length ≤ 8) (x : Nat) :
    (appendRelease history x).length ≤ 8 := by
  unfold appendRelease
  split
  next room => simpa using room
  next => simp; omega

/-! ## What the door units' operations are made of -/

/-- Single writes to the door units, the Strike Scheduler and the readers, one after the other. -/
inductive DoorRun (s : State) : State → Prop
  | refl : DoorRun s s
  | channel {t : State} (d : Nat) (c : Channel) (before : DoorRun s t) : DoorRun s (t.setChannel d c)
  | reader {t : State} (d : Nat) (r : Reader) (before : DoorRun s t) : DoorRun s (t.setReader d r)
  | audit {t : State} (p : Nat) (n : Option Nat) (before : DoorRun s t) :
      DoorRun s { t with doorUnit := { t.doorUnit with auditPointer := p, auditNext := n } }
  | bus {t : State} (b : Nat) (v : Bus) (fits : s.Fits → t.Fits → v.Fits) (before : DoorRun s t) : DoorRun s (t.setBus b v)
  | orders {t : State} (os : List Order) (latest : Nat)
      (fits : t.scheduler.orders.length ≤ orderQueueRoom → os.length ≤ orderQueueRoom) (before : DoorRun s t) :
      DoorRun s { t with scheduler := { t.scheduler with orders := os, latestBus := latest } }

theorem DoorRun.fits (r : DoorRun s t) (h : s.Fits) : t.Fits := by
  induction r with
  | refl => exact h
  | channel d c _ ih => exact { ih with }
  | reader d r _ ih => exact { ih with }
  | audit p n _ ih => exact { ih with }
  | bus b v fits _ ih => exact { ih with buses := Table.all_set ih.buses b (fits h ih) }
  | orders os latest fits _ ih => exact { ih with orders := fits ih.orders }

theorem DoorRun.trans {u : State} (h1 : DoorRun s t) (h2 : DoorRun t u) : DoorRun s u := by
  induction h2 with
  | refl => exact h1
  | channel d c _ ih => exact .channel d c ih
  | reader d r _ ih => exact .reader d r ih
  | audit p n _ ih => exact .audit p n ih
  | bus b v fits _ ih => exact .bus b v (fun start => fits (h1.fits start)) ih
  | orders os latest fits _ ih => exact .orders os latest fits ih

theorem foldl_doorRun {α : Type} {f : State → α → State} (hf : ∀ s x, DoorRun s (f s x)) (xs : List α) :
    ∀ s, DoorRun s (xs.foldl f s) := by
  induction xs with
  | nil => exact fun _ => .refl
  | cons x xs ih => exact fun s => (hf s x).trans (ih _)

theorem placeOrder_doorRun (k : OrderKind) (d : Nat) (room : s.orderRoom = true) :
    DoorRun s (s.placeOrder k d) := by
  refine .orders _ s.scheduler.latestBus (fun _ => ?_) .refl
  simp only [State.orderRoom, decide_eq_true_eq] at room
  simpa using room

theorem callRelatch_doorRun (s : State) (d : Nat) (v : ChannelState) : DoorRun s (s.callRelatch d v) := by
  unfold State.callRelatch
  dsimp only
  split
  next room => exact .channel d _ (placeOrder_doorRun .relatch d room)
  next => exact .channel d _ .refl

theorem orderRoom_of_mayRelease {b : Nat} (may : s.mayRelease b = true) : s.orderRoom = true := by
  simp only [State.mayRelease, Bool.and_eq_true] at may
  exact may.2

theorem release_doorRun {b : Nat} (may : s.mayRelease b = true) : DoorRun s (s.release b) := by
  unfold State.release
  split
  · exact .refl
  next door rest queue =>
    have taken : DoorRun s (s.setBus b ⟨rest, appendRelease (s.bus b).history s.clock.ms⟩) := by
      refine .bus b _ (fun _ fits => ?_) .refl
      obtain ⟨short, history⟩ := fits.bus b
      rw [queue, List.length_cons] at short
      exact ⟨Nat.le_of_succ_le short, appendRelease_length history _⟩
    have placed := taken.trans (placeOrder_doorRun .strike door (orderRoom_of_mayRelease (s := s) may))
    exact .channel door _ (.orders _ b id placed)

theorem rotateFor_doorRun (fuel : Nat) : ∀ s : State, DoorRun s (s.rotateFor fuel) := by
  induction fuel with
  | zero => exact fun _ => .refl
  | succ n ih =>
    intro s
    simp only [State.rotateFor]
    split
    next b found => exact (release_doorRun (List.find?_some found)).trans (ih _)
    next => exact .refl

theorem serveOwed_doorRun (s : State) (d : Nat) : DoorRun s (s.serveOwed d) := by
  unfold State.serveOwed
  split
  · exact callRelatch_doorRun s d _
  · exact .refl

theorem refill_doorRun (s : State) : DoorRun s s.refill :=
  (foldl_doorRun serveOwed_doorRun _ s).trans (rotateFor_doorRun _ _)

theorem deliver_doorRun (s : State) (o : Order) : DoorRun s (s.deliver o) := by
  unfold State.deliver
  split
  · exact .channel _ _ .refl
  · exact .channel _ _ .refl
  · exact .refl

theorem fetchOrders_doorRun (s : State) : DoorRun s s.fetchOrders := by
  have taken : DoorRun s { s with scheduler := { s.scheduler with orders := s.scheduler.orders.drop 8 } } := by
    refine .orders _ s.scheduler.latestBus (fun fits => ?_) .refl
    rw [List.length_drop]
    omega
  exact taken.trans (foldl_doorRun deliver_doorRun _ _)

/-- The state with other buses. -/
def State.withBuses (s : State) (t : Table Bus) : State := { s with scheduler := { s.scheduler with buses := t } }

theorem emptyBuses_doorRun (s : State) : ∀ (es : List (Nat × Bus)) (t : Table Bus), (∀ e ∈ es, e ∈ s.scheduler.buses) →
    DoorRun s (s.withBuses t) →
    DoorRun s (s.withBuses (es.foldl (fun t e => Table.set Bus.start t e.1 e.2.emptied) t))
  | [], _, _, before => before
  | e :: es, t, held, before => by
    refine emptyBuses_doorRun s es _ (fun x hx => held x (List.mem_cons_of_mem _ hx)) ?_
    have emptied : DoorRun s ((s.withBuses t).setBus e.1 e.2.emptied) :=
      .bus e.1 e.2.emptied (fun start _ =>
        ⟨Nat.zero_le _, (start.buses e (held e (List.mem_cons_self ..))).2⟩) before
    exact emptied

theorem cancelRequests_doorRun (s : State) : DoorRun s s.cancelRequests :=
  (emptyBuses_doorRun s s.scheduler.buses s.scheduler.buses (fun _ => id) .refl).trans
    (foldl_doorRun (fun _ d => .channel d _ .refl) _ _)

theorem DoorEffect.doorRun (e : DoorEffect s t) : DoorRun s t := by
  cases e with
  | reader door r => exact .reader door r .refl
  | audit p n => exact .audit p n .refl
  | channel door c => exact .channel door c .refl
  | order k door _ room => exact placeOrder_doorRun k door room
  | release b may => exact release_doorRun may
  | request door _ _ _ room =>
    refine .channel door _ (.bus _ _ (fun _ fits => ⟨?_, (fits.bus _).2⟩) .refl)
    simpa using room
  | withdraw door =>
    refine .channel door _ (.bus _ _ (fun _ fits => ⟨?_, (fits.bus _).2⟩) .refl)
    exact (List.length_filter_le ..).trans (fits.bus _).1
  | cancel => exact cancelRequests_doorRun s
  | fetch => exact (fetchOrders_doorRun s).trans (refill_doorRun _)

theorem DoorRun.canonical (r : DoorRun s t) (h : s.Canonical) : t.Canonical := by
  induction r with
  | refl => exact h
  | channel d c _ ih => exact { ih with channels := Table.canonical_set ih.channels d c }
  | reader d r _ ih => exact { ih with readers := Table.canonical_set ih.readers d r }
  | bus b v _ _ ih => exact { ih with buses := Table.canonical_set ih.buses b v }
  | audit p n _ ih => exact { ih with }
  | orders os latest _ _ ih => exact { ih with }

/-! ## What the Charge Engine's operations are made of -/

/-- Single writes to the accounts, whose numbers stay, and to the Charge Engine, and notices, one after the
other. -/
inductive MoneyRun (s : State) : State → Prop
  | refl : MoneyRun s s
  | account {t : State} (k : Nat) (a : Account)
      (kept : s.Canonical → ∃ old, Table.find t.store.accounts k = some old ∧ a.number = old.number)
      (before : MoneyRun s t) : MoneyRun s (t.setAccount k a)
  | tab {t : State} (k : Nat) (v : TabSlot) (before : MoneyRun s t) : MoneyRun s (t.setTabSlot k v)
  | terminal {t : State} (k n : Nat) (before : MoneyRun s t) : MoneyRun s (t.setTerminalTabs k n)
  | queues {t : State} (ps : List Posting) (waiting : List Nat) (next : Nat) (armed : Bool)
      (fits : t.engine.postings.length ≤ postingQueueRoom → ps.length ≤ postingQueueRoom)
      (before : MoneyRun s t) : MoneyRun s { t with engine := { t.engine with
        postings := ps, waiting := waiting, nextPosting := next, highWaterArmed := armed } }
  | raise {t : State} (b : NoticeBody) (before : MoneyRun s t) : MoneyRun s (t.raise b)

theorem raise_canonical {b : NoticeBody} (h : s.Canonical) : (s.raise b).Canonical := by
  rw [State.raise_eq]
  exact { h with }

theorem raise_fits {b : NoticeBody} (h : s.Fits) : (s.raise b).Fits where
  orders := by rw [State.raise_scheduler]; exact h.orders
  postings := by rw [State.raise_engine]; exact h.postings
  notices := raise_notices b h.notices
  places := by rw [State.raise_places]; exact h.places
  buses := by rw [State.raise_scheduler]; exact h.buses

theorem MoneyRun.canonical (r : MoneyRun s t) (h : s.Canonical) : t.Canonical := by
  induction r with
  | refl => exact h
  | account k a _ _ ih => exact { ih with accounts := Table.rising_put ih.accounts k a }
  | tab k v _ ih => exact { ih with tabs := Table.canonical_set ih.tabs k v }
  | terminal k n _ ih => exact { ih with terminalTabs := Table.canonical_set ih.terminalTabs k n }
  | queues ps w n a _ _ ih => exact { ih with }
  | raise b _ ih => exact raise_canonical ih

theorem MoneyRun.fits (r : MoneyRun s t) (h : s.Fits) : t.Fits := by
  induction r with
  | refl => exact h
  | account k a _ _ ih => exact { ih with }
  | tab k v _ ih => exact { ih with }
  | terminal k n _ ih => exact { ih with }
  | queues ps w n a fits _ ih => exact { ih with postings := fits ih.postings }
  | raise b _ ih => exact raise_fits ih

theorem MoneyRun.trans {u : State} (h1 : MoneyRun s t) (h2 : MoneyRun t u) : MoneyRun s u := by
  induction h2 with
  | refl => exact h1
  | account k a kept _ ih => exact .account k a (fun start => kept (h1.canonical start)) ih
  | tab k v _ ih => exact .tab k v ih
  | terminal k n _ ih => exact .terminal k n ih
  | queues ps w n a fits _ ih => exact .queues ps w n a fits ih
  | raise b _ ih => exact .raise b ih

theorem appendPosting_moneyRun (p : Posting) (room : s.postRoom = true) : MoneyRun s (s.appendPosting p) := by
  simp only [State.postRoom, decide_eq_true_eq] at room
  have fits : (s.engine.postings ++ [{ p with number := s.engine.nextPosting }]).length ≤ postingQueueRoom := by
    simpa using room
  unfold State.appendPosting
  dsimp only
  split
  · exact .raise _ (.queues _ s.engine.waiting _ false (fun _ => fits) .refl)
  · exact .queues _ s.engine.waiting _ s.engine.highWaterArmed (fun _ => fits) .refl

theorem releaseTab_moneyRun (s : State) (slot : Nat) (x : Tab) : MoneyRun s (s.releaseTab slot x) := by
  unfold State.releaseTab
  dsimp only
  split
  next a found => exact .tab slot _ (.terminal _ _ (.account _ _ (fun _ => ⟨a, found, rfl⟩) .refl))
  next => exact .tab slot _ (.terminal _ _ .refl)

theorem settle_moneyRun {x : Tab} (slot : Nat) (r : CloseReason) (can : s.canSettle x = true) :
    MoneyRun s (s.settle slot x r) := by
  unfold State.settle
  split
  · exact releaseTab_moneyRun s slot x
  next some =>
    have room : s.postRoom = true := by simpa [State.canSettle, some] using can
    exact (appendPosting_moneyRun _ room).trans (releaseTab_moneyRun _ slot x)

theorem serveWaiting_moneyRun (s : State) : MoneyRun s s.serveWaiting.state := by
  have go : ∀ (xs : List Nat) (v : Served), MoneyRun v.state (Served.go xs v).state := by
    intro xs
    induction xs with
    | nil => exact fun v => .refl
    | cons x xs ih =>
      intro v
      unfold Served.go
      split
      next y reason closing =>
        split
        next can =>
          have taken : MoneyRun v.state { v.state with engine := { v.state.engine with waiting := xs } } :=
            .queues v.state.engine.postings xs _ _ id .refl
          have settled := taken.trans (settle_moneyRun x reason can)
          exact settled.trans (ih ⟨_, v.settled + 1⟩)
        next => exact .refl
      next => exact .refl
  exact go _ ⟨s, 0⟩

theorem MoneyEffect.moneyRun (e : MoneyEffect s t) : MoneyRun s t := by
  cases e with
  | append p _ room => exact appendPosting_moneyRun p room
  | postings ps numbers =>
    refine .queues ps s.engine.waiting _ _ (fun fits => ?_) .refl
    have same := congrArg List.length numbers
    simp only [List.length_map] at same
    rw [same]; exact fits
  | release d =>
    have taken : MoneyRun s (s.removePostings d) := by
      refine .queues (s.engine.postings.drop (d + 1)) s.engine.waiting _ _ (fun fits => ?_) .refl
      rw [List.length_drop]
      exact (Nat.sub_le ..).trans fits
    exact taken.trans (serveWaiting_moneyRun _)
  | openTab slot terminal cardSlot accountSlot c a hold _ _ _ _ _ held =>
    exact .terminal terminal _ (.account accountSlot _ (fun h => ⟨a, Table.find_of_mem h.accounts held, rfl⟩)
      (.tab slot _ .refl))
  | grow slot x d a y lines hold _ held =>
    exact .account x.accountSlot _ (fun h => ⟨a, Table.find_of_mem h.accounts held, rfl⟩) (.tab slot _ .refl)
  | settle slot x d r _ can => exact settle_moneyRun slot r can
  | close slot x d r =>
    exact .queues s.engine.postings _ s.engine.nextPosting s.engine.highWaterArmed id (.tab slot _ .refl)

/-! ## The store and the starts -/

theorem handDoor_doorRun (s : State) (d : Nat) (was now : Bool) : DoorRun s (s.handDoor d was now) := by
  unfold State.handDoor
  split
  · exact .channel d _ .refl
  · exact .reader d _ (.channel d _ .refl)
  · exact .refl

theorem setDoorConfig_canonical (d : Nat) (g : DoorConfig) (h : s.Canonical) : (s.setDoorConfig d g).Canonical :=
  { h with doors := Table.canonical_set h.doors d g }

theorem relocate_canonical {slot : Nat} {c : Card} {new : Presence} {lane : Option Nat} (h : s.Canonical) :
    (s.relocate slot c new lane).Canonical :=
  { h with cards := Table.rising_put h.cards slot _ }

theorem StoreEffect.canonical (e : StoreEffect s t) (h : s.Canonical) : t.Canonical := by
  cases e with
  | loadBegin day => exact { h with }
  | enterService => exact { h with channels := rfl, readers := rfl }
  | secure => exact { h with }
  | reopen => exact { h with }
  | newCard slot uid issue g p => exact { h with cards := Table.rising_put h.cards slot _ }
  | changeCard slot c g => exact { h with cards := Table.rising_put h.cards slot _ }
  | removeCard slot c => exact { h with cards := Table.rising_erase h.cards slot }
  | card slot c d => exact { h with cards := Table.rising_put h.cards slot d }
  | rolled => exact { h with cards := Table.rising_mapEntries h.cards }
  | move slot c new lane =>
    exact movePresence_keeps (fun h _ => relocate_canonical h) (fun _ _ e => e.moneyRun.canonical) h
  | newAccount slot => exact { h with accounts := Table.rising_put h.accounts slot _ }
  | account slot a b => exact { h with accounts := Table.rising_put h.accounts slot b }
  | removeAccount slot a => exact { h with accounts := Table.rising_erase h.accounts slot }
  | door d g =>
    have put := setDoorConfig_canonical d g h
    unfold State.doorPut
    split
    · exact (handDoor_doorRun _ d _ _).canonical put
    · exact put
  | category n x => exact { h with categories := Table.canonical_set h.categories n x }
  | region n x => exact { h with regions := Table.canonical_set h.regions n x }
  | tier n x =>
    refine { h with tiers := Table.canonical_set h.tiers n x, cards := ?_ }
    show Table.rising (if _ then _ else _) = true
    split
    · exact Table.rising_mapEntries h.cards
    · exact h.cards
  | setting name x => exact { h with }

theorem StoreEffect.fits (e : StoreEffect s t) (h : s.Fits) : t.Fits := by
  cases e with
  | move slot c new lane =>
    exact movePresence_keeps (fun h _ => { h with }) (fun _ _ e => e.moneyRun.fits) h
  | door d g =>
    have put : (s.setDoorConfig d g).Fits := { h with }
    unfold State.doorPut
    split
    · exact (handDoor_doorRun _ d _ _).fits put
    · exact put
  | _ => exact { h with }

theorem TabSlot.awoken_ne_cold {n : Nat} {x : TabSlot} (h : x ≠ TabSlot.cold) : x.awoken n ≠ TabSlot.cold := by
  obtain ⟨generation, state⟩ := x
  cases state with
  | free => exact h
  | opened tab deadline => exact fun e => by cases e
  | closing tab reason => exact h

theorem wakeStart_canonical (h : s.Canonical) : s.wakeStart.Canonical where
  cards := Table.rising_mapEntries h.cards
  accounts := Table.rising_mapEntries h.accounts
  doors := h.doors
  categories := h.categories
  regions := h.regions
  tiers := h.tiers
  tabs := by
    have tabs := h.tabs
    simp only [Table.canonical, Bool.and_eq_true, List.all_eq_true, decide_eq_true_eq] at tabs ⊢
    refine ⟨Table.rising_mapEntries tabs.1, fun e he => ?_⟩
    obtain ⟨x, hx, rfl⟩ := List.mem_map.mp he
    exact TabSlot.awoken_ne_cold (tabs.2 x hx)
  terminalTabs := h.terminalTabs
  channels := rfl
  buses := rfl
  readers := rfl

theorem StartEffect.canonical (e : StartEffect s t) (h : s.Canonical) : t.Canonical := by
  cases e with
  | cold v => exact ⟨rfl, rfl, rfl, rfl, rfl, rfl, rfl, rfl, rfl, rfl, rfl⟩
  | wake => exact wakeStart_canonical h

theorem StartEffect.fits (e : StartEffect s t) (h : s.Fits) : t.Fits := by
  have one : (1 : Nat) ≤ noticeQueueRoom := Nat.le_add_left 1 63
  have none : ∀ e ∈ ([] : Table Bus), e.2.Fits := fun _ => nofun
  cases e with
  | cold v => exact ⟨Nat.zero_le _, Nat.zero_le _, one, Nat.zero_le _, none⟩
  | wake =>
    refine ⟨Nat.zero_le _, ?_, one, Nat.zero_le _, none⟩
    show (s.engine.postings.map Posting.awoken).length ≤ postingQueueRoom
    rw [List.length_map]
    exact h.postings

/-! ## Every effect -/

theorem LaneRun.fits (r : LaneRun s t) (h : s.Fits) : t.Fits := by
  induction r with
  | refl => exact h
  | lanes f _ ih => exact { ih with }
  | raise b _ ih => exact raise_fits ih

theorem Link.beginNext_notices (l : Link) : l.beginNext.notices = l.notices := by
  unfold Link.beginNext
  split
  · rfl
  · split <;> rfl

theorem LinkEffect.notices (e : LinkEffect s t) (h : s.link.notices.length ≤ noticeQueueRoom) :
    t.link.notices.length ≤ noticeQueueRoom := by
  cases e with
  | raise b => exact raise_notices b h
  | offer c =>
    show (s.link.offer c).notices.length ≤ _
    unfold Link.offer
    split
    · rw [Link.beginNext_notices]; exact h
    · split <;> exact h
  | readHead r =>
    show s.link.readHead.notices.length ≤ _
    unfold Link.readHead
    dsimp only
    split
    · rw [Link.beginNext_notices]; exact h
    · exact h
  | complete r =>
    unfold State.complete
    split
    · exact h
    · split
      · show (Link.beginNext _).notices.length ≤ _
        rw [Link.beginNext_notices]; exact h
      · exact h
  | fetchNotices =>
    show (s.link.notices.drop 8).length ≤ _
    rw [List.length_drop]
    exact (Nat.sub_le ..).trans h
  | entered =>
    show s.link.entered.notices.length ≤ _
    unfold Link.entered
    split <;> exact h
  | _ => exact h

theorem Effect.canonical (e : Effect s t) (h : s.Canonical) : t.Canonical := by
  cases e with
  | clock e => rw [e.frame]; exact { h with }
  | link e => rw [e.frame]; exact { h with }
  | lane e => rw [e.frame]; exact { h with }
  | door e => exact e.doorRun.canonical h
  | store e => exact e.canonical h
  | money e => exact e.moneyRun.canonical h
  | start e => exact e.canonical h

theorem Effect.fits (e : Effect s t) (h : s.Fits) : t.Fits := by
  cases e with
  | clock e => rw [e.frame]; exact { h with }
  | link e =>
    have notices := e.notices h.notices
    have places := e.places h.places
    rw [e.frame]
    exact { h with notices := notices, places := places }
  | lane e => exact e.run.fits h
  | door e => exact e.doorRun.fits h
  | store e => exact e.fits h
  | money e => exact e.moneyRun.fits h
  | start e => exact e.fits h

/-! ## Before the part is loaded (R2) -/

/-- Nothing is in use: no order, posting, channel, strike request or tab, and no gate. -/
structure State.Idle (s : State) : Prop where
  orders : s.scheduler.orders = []
  postings : s.engine.postings = []
  channels : s.doorUnit.channels = []
  queues : ∀ e ∈ s.scheduler.buses, e.2.queue = []
  waiting : s.engine.waiting = []
  tabs : ∀ e ∈ s.engine.tabs, e.2.state = .free
  lanes : s.lanes.all Lane.shut = true

theorem State.unloadedLaw_iff (s : State) : s.unloadedLaw = true ↔ s.loaded = true ∨ s.Idle := by
  simp only [State.unloadedLaw, Bool.or_eq_true, Bool.and_eq_true, List.isEmpty_iff, List.all_eq_true,
    decide_eq_true_eq, and_assoc]
  exact or_congr_right ⟨fun ⟨h1, h2, h3, h4, h5, h6, h7⟩ => ⟨h1, h2, h3, h4, h5, h6, h7⟩,
    fun ⟨h1, h2, h3, h4, h5, h6, h7⟩ => ⟨h1, h2, h3, h4, h5, h6, h7⟩⟩

theorem State.Idle.tabSlot (h : s.Idle) (slot : Nat) : (s.tabSlot slot).state = .free :=
  Table.get_of_all (p := fun x : TabSlot => x.state = .free) h.tabs rfl slot

theorem State.Idle.queue (h : s.Idle) (b : Nat) : (s.bus b).queue = [] :=
  Table.get_of_all (p := fun x : Bus => x.queue = []) h.queues rfl b

/-- Of the door units an idle part moves the readers and the audit timer only. -/
theorem DoorEffect.idle (e : DoorEffect s t) (loaded : s.loaded ≠ true) (h : s.Idle) : t.Idle := by
  cases e with
  | reader d r => exact { h with }
  | audit p n => exact { h with }
  | release b may =>
    simp only [State.mayRelease, h.queue b] at may
    cases may
  | fetch some => exact absurd h.orders some
  | channel d c held => exact absurd held loaded
  | order k d held => exact absurd held loaded
  | request d held => exact absurd held loaded
  | withdraw d held => exact absurd held loaded
  | cancel held => exact absurd held loaded

theorem MoneyEffect.idle (e : MoneyEffect s t) (loaded : s.loaded ≠ true) (h : s.Idle) : t.Idle := by
  cases e with
  | append p held => exact absurd held loaded
  | openTab slot terminal cardSlot accountSlot c a hold held => exact absurd held loaded
  | postings ps numbers =>
    rw [h.postings, List.map_nil, List.map_eq_nil_iff] at numbers
    exact { h with postings := numbers }
  | release d delivered =>
    rw [Engine.deliveredCount, h.postings] at delivered
    cases delivered
  | grow slot x d a y lines hold opened => rw [h.tabSlot slot] at opened; cases opened
  | settle slot x d r opened => rw [h.tabSlot slot] at opened; cases opened
  | close slot x d r opened => rw [h.tabSlot slot] at opened; cases opened

theorem StoreEffect.unloadedLaw (e : StoreEffect s t) (h : s.unloadedLaw = true) : t.unloadedLaw = true := by
  cases e with
  | move slot c new lane =>
    refine movePresence_keeps (P := fun u => u.unloadedLaw = true) (fun h _ => h) (fun u v e h => ?_) h
    rw [State.unloadedLaw_iff] at h ⊢
    by_cases loaded : u.loaded = true
    · exact .inl (by rw [State.loaded, e.frame]; exact loaded)
    · exact .inr (e.idle loaded (h.resolve_left loaded))
  | loadBegin day unloaded =>
    rw [State.unloadedLaw_iff] at h ⊢
    exact .inr { h.resolve_left (by simp [State.loaded, unloaded]) with }
  | enterService => exact (State.unloadedLaw_iff _).mpr (.inl rfl)
  | secure => exact (State.unloadedLaw_iff _).mpr (.inl rfl)
  | reopen => exact (State.unloadedLaw_iff _).mpr (.inl rfl)
  | door d g =>
    have same : (s.doorPut d g).loaded = s.loaded := by rw [State.loaded, doorPut_store]; rfl
    rw [State.unloadedLaw_iff] at h ⊢
    rw [same]
    rcases Bool.eq_false_or_eq_true s.loaded with loaded | unloaded
    · exact .inl loaded
    · refine .inr ?_
      rw [State.doorPut, if_neg (by simp [unloaded])]
      exact { h.resolve_left (by simp [unloaded]) with }
  | _ => exact h

theorem Effect.unloadedLaw (e : Effect s t) (h : s.unloadedLaw = true) : t.unloadedLaw = true := by
  cases e with
  | clock e => rw [e.frame]; exact h
  | link e => rw [e.frame]; exact h
  | store e => exact e.unloadedLaw h
  | lane e =>
    rw [State.unloadedLaw_iff] at h ⊢
    have same : t.loaded = s.loaded := by rw [State.loaded, e.frame]; rfl
    have frame := e.frame
    rcases e.shut with loaded | shut
    · exact .inl (same.trans loaded)
    · rw [same]
      refine h.imp_right fun idle => ?_
      have lanes := shut idle.lanes
      rw [frame]
      exact { idle with lanes := lanes }
  | door e =>
    rw [State.unloadedLaw_iff] at h ⊢
    by_cases loaded : s.loaded = true
    · exact .inl (by rw [State.loaded, e.frame]; exact loaded)
    · exact .inr (e.idle loaded (h.resolve_left loaded))
  | money e =>
    rw [State.unloadedLaw_iff] at h ⊢
    by_cases loaded : s.loaded = true
    · exact .inl (by rw [State.loaded, e.frame]; exact loaded)
    · exact .inr (e.idle loaded (h.resolve_left loaded))
  | start e =>
    rw [State.unloadedLaw_iff] at h ⊢
    have none : ∀ e ∈ ([] : Table Bus), e.2.queue = [] := fun _ => nofun
    cases e with
    | cold v => exact .inr ⟨rfl, rfl, rfl, none, rfl, fun _ => nofun, rfl⟩
    | wake =>
      refine h.imp id fun idle => ⟨rfl, ?_, rfl, none, idle.waiting, fun e he => ?_, rfl⟩
      · show s.engine.postings.map Posting.awoken = []
        rw [idle.postings]; rfl
      · obtain ⟨x, hx, rfl⟩ := List.mem_map.mp he
        have free := idle.tabs x hx
        show (x.2.awoken _).state = .free
        rw [TabSlot.awoken, free]
        exact free

/-- Settles O55: each effect is a run of single writes, and each write keeps its table canonical and its queue
within its room; what an effect of the doors or of money needs is not there before the part is loaded. -/
theorem everyStepKeepsTablesAndRoom : Obligations.EveryStepKeepsTablesAndRoom := by
  unfold Obligations.EveryStepKeepsTablesAndRoom
  refine fun s t h => ⟨fun tables => ?_, fun room => ?_, step_keeps (fun _ _ => Effect.unloadedLaw) h⟩
  · exact t.tablesLaw_iff.mpr (step_keeps (fun _ _ => Effect.canonical) h (s.tablesLaw_iff.mp tables))
  · exact t.roomLaw_iff.mpr (step_keeps (fun _ _ => Effect.fits) h (s.roomLaw_iff.mp room))

end Sys2Proof.Machine
end

section
/-! SUPPORT. Tables as collections: a write is a permutation of the entry written and the entries of the other
keys, so that what counts, sums or compares the entries follows the write. -/

namespace Sys2Proof.Machine

variable {α : Type} {t : Table α} {k : Nat} {v w : α}

theorem Table.mem_iff_find (h : Table.rising t = true) : (k, v) ∈ t ↔ Table.find t k = some v :=
  ⟨Table.find_of_mem h, Table.mem_of_find⟩

theorem Table.find_eq_none (h : ∀ e ∈ t, e.1 ≠ k) : Table.find t k = none := by
  cases found : Table.find t k with
  | none => rfl
  | some v => exact absurd rfl (h _ (Table.mem_of_find found))

theorem Table.ne_of_find_none (h : Table.find t k = none) : ∀ e ∈ t, e.1 ≠ k := by
  induction t with
  | nil => exact fun _ => nofun
  | cons e t ih =>
    obtain ⟨j, w⟩ := e
    rw [Table.find] at h
    split at h
    · cases h
    next other =>
      intro x hx
      rcases List.mem_cons.mp hx with rfl | hx
      · exact other
      · exact ih h x hx

theorem Table.erase_of_find_none (h : Table.find t k = none) : Table.erase t k = t := by
  rw [Table.erase, List.filter_eq_self]
  intro e he
  simpa using Table.ne_of_find_none h e he

theorem Table.rising_head_lt {e : Nat × α} (h : Table.rising (e :: t) = true) : ∀ x ∈ t, e.1 < x.1 :=
  (List.pairwise_cons.mp ((Table.rising_iff _).mp h)).1

theorem Table.rising_tail {e : Nat × α} (h : Table.rising (e :: t) = true) : Table.rising t = true :=
  (Table.rising_iff _).mpr (List.pairwise_cons.mp ((Table.rising_iff _).mp h)).2

/-- A written table holds the entry written and the entries of the other keys. -/
theorem Table.put_perm (h : Table.rising t = true) (k : Nat) (v : α) :
    (Table.put t k v).Perm ((k, v) :: Table.erase t k) := by
  induction t with
  | nil => exact .refl _
  | cons e t ih =>
    obtain ⟨j, w⟩ := e
    have above := Table.rising_head_lt h
    have rest (le : k ≤ j) : Table.erase t k = t :=
      Table.erase_of_find_none (Table.find_eq_none fun x hx => by have : j < x.1 := above x hx; omega)
    rw [Table.put]
    split
    next lt =>
      have all : Table.erase ((j, w) :: t) k = (j, w) :: Table.erase t k :=
        List.filter_cons_of_pos (by simp; omega)
      rw [all, rest (by omega)]
    next ge =>
      split
      next same =>
        subst same
        have all : Table.erase ((k, w) :: t) k = Table.erase t k := List.filter_cons_of_neg (by simp)
        rw [all, rest (by omega)]
      next other =>
        have all : Table.erase ((j, w) :: t) k = (j, w) :: Table.erase t k :=
          List.filter_cons_of_pos (by simp; omega)
        rw [all]
        exact ((ih (Table.rising_tail h)).cons _).trans (.swap ..)

/-- A table holds the entry of a key that it finds and the entries of the other keys. -/
theorem Table.perm_of_find (h : Table.rising t = true) (found : Table.find t k = some v) :
    t.Perm ((k, v) :: Table.erase t k) := by
  induction t with
  | nil => cases found
  | cons e t ih =>
    obtain ⟨j, w⟩ := e
    rw [Table.find] at found
    split at found
    next same =>
      subst same
      cases found
      have all : Table.erase ((j, v) :: t) j = Table.erase t j := List.filter_cons_of_neg (by simp)
      have above := Table.rising_head_lt h
      rw [all, Table.erase_of_find_none (Table.find_eq_none fun x hx => by have : j < x.1 := above x hx; omega)]
    next other =>
      have all : Table.erase ((j, w) :: t) k = (j, w) :: Table.erase t k :=
        List.filter_cons_of_pos (by simpa using other)
      rw [all]
      exact ((ih (Table.rising_tail h) found).cons _).trans (.swap ..)

theorem Table.put_perm_of_find_none (h : Table.rising t = true) (free : Table.find t k = none) (v : α) :
    (Table.put t k v).Perm ((k, v) :: t) := by
  have perm := Table.put_perm h k v
  rwa [Table.erase_of_find_none free] at perm

/-- What a write leaves of an entry leaves the table as it was, up to order. -/
theorem Table.map_put_perm {β : Type} {f : α → β} (h : Table.rising t = true) (found : Table.find t k = some w)
    (same : f v = f w) : ((Table.put t k v).map fun e => f e.2).Perm (t.map fun e => f e.2) := by
  have written := (Table.put_perm h k v).map fun e => f e.2
  have held := (Table.perm_of_find h found).map fun e => f e.2
  rw [List.map_cons, same] at written
  exact written.trans held.symm

theorem Table.le_gap : ∀ (t : Table α) (n : Nat), n ≤ Table.gap n t
  | [], _ => Nat.le_refl _
  | (j, w) :: t, n => by
    rw [Table.gap]
    split
    · exact (Nat.le_succ n).trans (Table.le_gap t (n + 1))
    · exact Nat.le_refl _

theorem Table.find_gap : ∀ (t : Table α) (n : Nat), Table.rising t = true → (∀ e ∈ t, n ≤ e.1) →
    Table.find t (Table.gap n t) = none
  | [], _, _, _ => rfl
  | (j, w) :: t, n, h, low => by
    have above := Table.rising_head_lt h
    rw [Table.gap]
    split
    next same =>
      have far := Table.le_gap t (n + 1)
      rw [Table.find, if_neg (by omega)]
      exact Table.find_gap t (n + 1) (Table.rising_tail h) fun e he => by have : j < e.1 := above e he; omega
    next other =>
      have start : n ≤ j := low _ (List.mem_cons_self ..)
      refine Table.find_eq_none fun e he => ?_
      rcases List.mem_cons.mp he with rfl | he
      · exact other
      · have : j < e.1 := above e he
        omega

theorem Table.find_freeSlot {room : Nat} (h : Table.rising t = true) (free : Table.freeSlot room t = some k) :
    Table.find t k = none := by
  simp only [Table.freeSlot] at free
  split at free
  · cases free
    exact Table.find_gap t 0 h fun _ _ => Nat.zero_le _
  · cases free

theorem Table.find_mapEntries {β : Type} (f : α → β) (t : Table α) (k : Nat) :
    Table.find (Table.mapEntries f t) k = (Table.find t k).map f := by
  induction t with
  | nil => rfl
  | cons e t ih =>
    obtain ⟨j, w⟩ := e
    show (if j = k then some (f w) else Table.find (Table.mapEntries f t) k) = _
    rw [ih, Table.find]
    split <;> rfl

theorem Table.seek_eq_none {p : α → Bool} : Table.seek p t = none ↔ ∀ e ∈ t, p e.2 = false := by
  simp [Table.seek]

end Sys2Proof.Machine
end

section
/-! The laws of the cards: keys, references, allowances, presence counts and the ashore list, and how every step
keeps them (R6, R7, R13, R84, R128 to R130). -/

namespace Sys2Proof.Machine

variable {s t : State}

/-! ## Names that occur once (R6, R13) -/

/-- No two entries have the same name. -/
def Table.Distinct {α : Type} (name : α → Nat) (t : Table α) : Prop := (t.map fun e => name e.2).Nodup

theorem State.keysLaw_iff (s : State) :
    s.keysLaw = true ↔ s.store.cards.Distinct Card.uid ∧ s.store.accounts.Distinct Account.number := by
  simp only [State.keysLaw, Bool.and_eq_true, decide_eq_true_eq, Table.Distinct]

namespace Table.Distinct

variable {α : Type} {name : α → Nat} {t : Table α} {k : Nat} {v w : α}

theorem put_same (h : t.Distinct name) (rising : t.rising = true) (found : t.find k = some w)
    (same : name v = name w) : (Table.put t k v).Distinct name :=
  (Table.map_put_perm rising found same).nodup_iff.mpr h

theorem put_fresh (h : t.Distinct name) (rising : t.rising = true) (free : t.find k = none)
    (fresh : ∀ e ∈ t, name e.2 ≠ name v) : (Table.put t k v).Distinct name := by
  rw [Distinct, ((Table.put_perm_of_find_none rising free v).map fun e => name e.2).nodup_iff, List.map_cons,
    List.nodup_cons]
  refine ⟨fun held => ?_, h⟩
  obtain ⟨e, he, same⟩ := List.mem_map.mp held
  exact fresh e he same

theorem erase (h : t.Distinct name) (k : Nat) : (Table.erase t k).Distinct name :=
  h.sublist (List.filter_sublist.map _)

theorem mapEntries {f : α → α} (h : t.Distinct name) (same : ∀ x, name (f x) = name x) :
    (Table.mapEntries f t).Distinct name := by
  have names : (Table.mapEntries f t).map (fun e => name e.2) = t.map fun e => name e.2 := by
    simp [Table.mapEntries, Function.comp_def, same]
  rw [Distinct, names]
  exact h

end Table.Distinct

theorem uid_ne_of_cardByUid {uid : Nat} (h : s.cardByUid uid = none) : ∀ e ∈ s.store.cards, e.2.uid ≠ uid := by
  intro e he
  simpa using Table.seek_eq_none.mp h e he

theorem number_ne_of_accountByNumber {n : Nat} (h : s.accountByNumber n = none) :
    ∀ e ∈ s.store.accounts, e.2.number ≠ n := by
  intro e he
  simpa using Table.seek_eq_none.mp h e he

theorem MoneyEffect.cards (e : MoneyEffect s t) : t.store.cards = s.store.cards := by rw [e.frame]

theorem doorPut_cards (s : State) (d : Nat) (g : DoorConfig) : (s.doorPut d g).store.cards = s.store.cards := by
  rw [doorPut_store]

theorem Card.trimmed_uid (n a : Nat) (c : Card) : (Card.trimmed n a c).uid = c.uid := by
  unfold Card.trimmed
  split <;> rfl

/-! ## The account numbers -/

/-- The numbers of the accounts. -/
def State.numbers (s : State) : List Nat := s.store.accounts.map fun e => e.2.number

theorem MoneyRun.numbers (r : MoneyRun s t) (h : s.Canonical) : t.numbers.Perm s.numbers := by
  induction r with
  | refl => exact .refl _
  | account k a kept before ih =>
    obtain ⟨old, found, same⟩ := kept h
    exact (Table.map_put_perm (before.canonical h).accounts found same).trans ih
  | tab k v _ ih => exact ih
  | terminal k n _ ih => exact ih
  | queues ps w n a _ _ ih => exact ih
  | raise b _ ih => rwa [State.numbers, State.raise_store]

theorem MoneyEffect.numbers (e : MoneyEffect s t) (h : s.Canonical) : t.numbers.Perm s.numbers :=
  e.moneyRun.numbers h

/-! ## Keys -/

/-- Keys that occur once, over tables in canonical form. -/
structure State.Keyed (s : State) : Prop where
  canonical : s.Canonical
  cards : s.store.cards.Distinct Card.uid
  accounts : s.store.accounts.Distinct Account.number

theorem MoneyEffect.keyed (e : MoneyEffect s t) (h : s.Keyed) : t.Keyed where
  canonical := e.moneyRun.canonical h.canonical
  cards := by rw [e.frame]; exact h.cards
  accounts := (e.numbers h.canonical).nodup_iff.mpr h.accounts

theorem StoreEffect.keyed (e : StoreEffect s t) (h : s.Keyed) : t.Keyed := by
  have canonical := e.canonical h.canonical
  have cards := h.canonical.cards
  have accounts := h.canonical.accounts
  cases e with
  | newCard slot uid issue g p initial fresh free =>
    exact ⟨canonical, h.cards.put_fresh cards (Table.find_freeSlot cards free) (uid_ne_of_cardByUid fresh),
      h.accounts⟩
  | changeCard slot c g held =>
    exact ⟨canonical, h.cards.put_same cards (Table.find_of_mem cards held) rfl, h.accounts⟩
  | removeCard slot c => exact ⟨canonical, h.cards.erase slot, h.accounts⟩
  | card slot c d held same =>
    exact ⟨canonical, h.cards.put_same cards (Table.find_of_mem cards held) same.uid, h.accounts⟩
  | rolled => exact ⟨canonical, h.cards.mapEntries fun _ => rfl, h.accounts⟩
  | move slot c new lane held =>
    refine movePresence_keeps (P := State.Keyed) (fun _ _ => ?_) (fun _ _ e => e.keyed) h
    exact ⟨relocate_canonical h.canonical, h.cards.put_same cards (Table.find_of_mem cards held) rfl, h.accounts⟩
  | newAccount slot number limit status fresh free =>
    exact ⟨canonical, h.cards,
      h.accounts.put_fresh accounts (Table.find_freeSlot accounts free) (number_ne_of_accountByNumber fresh)⟩
  | account slot a b held same =>
    exact ⟨canonical, h.cards, h.accounts.put_same accounts (Table.find_of_mem accounts held) same.number⟩
  | removeAccount slot a => exact ⟨canonical, h.cards, h.accounts.erase slot⟩
  | door d g =>
    refine ⟨canonical, ?_, ?_⟩
    · rw [doorPut_store]; exact h.cards
    · rw [doorPut_store]; exact h.accounts
  | tier n x =>
    refine ⟨canonical, ?_, h.accounts⟩
    show Table.Distinct Card.uid (if _ then _ else _)
    split
    · exact h.cards.mapEntries (Card.trimmed_uid n _)
    · exact h.cards
  | _ => exact ⟨canonical, h.cards, h.accounts⟩

theorem Effect.keyed (e : Effect s t) (h : s.Keyed) : t.Keyed := by
  have canonical := e.canonical h.canonical
  cases e with
  | clock e => rw [e.frame] at canonical ⊢; exact ⟨canonical, h.cards, h.accounts⟩
  | link e => rw [e.frame] at canonical ⊢; exact ⟨canonical, h.cards, h.accounts⟩
  | lane e => rw [e.frame] at canonical ⊢; exact ⟨canonical, h.cards, h.accounts⟩
  | door e => rw [e.frame] at canonical ⊢; exact ⟨canonical, h.cards, h.accounts⟩
  | store e => exact e.keyed h
  | money e => exact e.keyed h
  | start e =>
    cases e with
    | cold v => exact ⟨canonical, .nil, .nil⟩
    | wake => exact ⟨canonical, h.cards.mapEntries fun _ => rfl, h.accounts.mapEntries fun _ => rfl⟩

/-! ## References (R4, R7, R16, R18) -/

/-- A configuration names an account, configured doors, and a section whose bounds are in order. -/
structure State.Refers (s : State) (g : CardConfig) : Prop where
  account : g.account ∈ s.numbers
  cabins : ∀ d ∈ g.cabins, (s.doorConfig d).configured = true
  sect : ∀ p, g.section_ = some p → p.first ≤ p.second

theorem accountByNumber_isNone (s : State) (n : Nat) : (s.accountByNumber n).isNone = true ↔ n ∉ s.numbers := by
  simp [State.accountByNumber, Table.seek, State.numbers]

theorem cabins_configured (s : State) (ds : List Nat) : (ds.any fun d => !(s.doorConfig d).configured) = true ↔
    ¬ ∀ d ∈ ds, (s.doorConfig d).configured = true := by
  simp

theorem State.cardFailure_eq_none (s : State) (c : Card) : s.cardFailure c = none ↔ s.Refers c.config := by
  unfold State.cardFailure
  simp only [accountByNumber_isNone, cabins_configured]
  split
  next missing => exact ⟨nofun, fun h => absurd h.account missing⟩
  next named =>
    split
    next missing => exact ⟨nofun, fun h => absurd h.cabins missing⟩
    next doors =>
      simp only [not_not] at named doors
      split
      next p sect =>
        split
        next bad => exact ⟨nofun, fun h => absurd (h.sect p sect) (Nat.not_le.mpr bad)⟩
        next ordered =>
          refine ⟨fun _ => ⟨named, doors, fun q hq => ?_⟩, fun _ => rfl⟩
          rw [sect] at hq
          cases hq
          exact Nat.not_lt.mp ordered
      next sect => exact ⟨fun _ => ⟨named, doors, fun q hq => by rw [sect] at hq; cases hq⟩, fun _ => rfl⟩

theorem State.refers_of_badReference {g : CardConfig} (h : s.badReference g = none) : s.Refers g := by
  refine (s.cardFailure_eq_none ⟨0, 0, g, 0, 0, .expected, none⟩).mp ?_
  unfold State.badReference at h
  unfold State.cardFailure
  split at h
  · cases h
  next named =>
    rw [if_neg named]
    split at h
    · cases h
    next doors =>
      rw [if_neg doors]
      cases sect : g.section_ with
      | none => rfl
      | some p =>
        rw [sect] at h
        dsimp only at h ⊢
        split at h
        · cases h
        next ordered => rw [if_neg ordered]

theorem State.refers_of_referenceFailure {g : CardConfig} (h : s.referenceFailure g = none)
    (loaded : s.loaded = true) : s.Refers g := by
  rw [State.referenceFailure, if_pos loaded] at h
  exact State.refers_of_badReference h

/-- Once the part is loaded every card refers, over tables in canonical form. -/
structure State.Referring (s : State) : Prop where
  canonical : s.Canonical
  refers : s.loaded = true → ∀ e ∈ s.store.cards, s.Refers e.2.config

theorem State.referenceLaw_iff (s : State) :
    s.referenceLaw = true ↔ (s.loaded = true → ∀ e ∈ s.store.cards, s.Refers e.2.config) := by
  simp only [State.referenceLaw, Bool.or_eq_true, Bool.not_eq_true', List.all_eq_true, Option.isNone_iff_eq_none,
    State.cardFailure_eq_none]
  rcases Bool.eq_false_or_eq_true s.loaded with loaded | loaded <;> simp [loaded]

/-- A configuration refers on as long as no account number and no door configuration is taken away. -/
theorem State.Refers.mono {g : CardConfig} (h : s.Refers g) (numbers : g.account ∈ s.numbers → g.account ∈ t.numbers)
    (doors : ∀ d ∈ g.cabins, (s.doorConfig d).configured = true → (t.doorConfig d).configured = true) : t.Refers g :=
  ⟨numbers h.account, fun d hd => doors d hd (h.cabins d hd), h.sect⟩

theorem State.Refers.same {g : CardConfig} (h : s.Refers g) (accounts : t.store.accounts = s.store.accounts)
    (doors : t.store.doors = s.store.doors) : t.Refers g :=
  h.mono (by rw [State.numbers, State.numbers, accounts]; exact id)
    (by simp only [State.doorConfig, doors]; exact fun _ _ => id)

theorem MoneyEffect.referring (e : MoneyEffect s t) (h : s.Referring) : t.Referring := by
  refine ⟨e.moneyRun.canonical h.canonical, fun loaded x hx => ?_⟩
  have same : t.loaded = s.loaded := by rw [State.loaded, e.frame]; rfl
  rw [e.cards] at hx
  refine (h.refers (same.symm.trans loaded) x hx).mono (e.numbers h.canonical).mem_iff.mpr ?_
  have doors : t.store.doors = s.store.doors := by rw [e.frame]
  simp only [State.doorConfig, doors]
  exact fun _ _ => id

/-- Cards with the configurations of cards that refer, over the same accounts and doors. -/
theorem State.Referring.of_configs (h : s.Referring) (canonical : t.Canonical)
    (loaded : t.loaded = true → s.loaded = true) (accounts : t.store.accounts = s.store.accounts)
    (doors : t.store.doors = s.store.doors)
    (configs : ∀ e ∈ t.store.cards, ∃ x ∈ s.store.cards, x.2.config = e.2.config) : t.Referring := by
  refine ⟨canonical, fun now e he => ?_⟩
  obtain ⟨x, hx, config⟩ := configs e he
  rw [← config]
  exact (h.refers (loaded now) x hx).same accounts doors

/-- Configurations after a write over a card of the same configuration. -/
theorem configs_put {slot : Nat} {c d : Card} (held : (slot, c) ∈ s.store.cards) (config : d.config = c.config) :
    ∀ e ∈ Table.put s.store.cards slot d, ∃ x ∈ s.store.cards, x.2.config = e.2.config := by
  intro e he
  rcases Table.mem_put he with rfl | old
  · exact ⟨_, held, config.symm⟩
  · exact ⟨e, old, rfl⟩

theorem configs_mapEntries {f : Card → Card} (config : ∀ c, (f c).config = c.config) :
    ∀ e ∈ Table.mapEntries f s.store.cards, ∃ x ∈ s.store.cards, x.2.config = e.2.config := by
  intro e he
  obtain ⟨x, hx, rfl⟩ := List.mem_map.mp he
  exact ⟨x, hx, (config x.2).symm⟩

theorem Card.trimmed_config (n a : Nat) (c : Card) : (Card.trimmed n a c).config = c.config := by
  unfold Card.trimmed
  split <;> rfl

/-- A put of a configuration that refers, once loaded. -/
theorem State.Referring.put (h : s.Referring) {slot : Nat} {d : Card} (refers : s.referenceFailure d.config = none)
    (loaded : s.loaded = true) : ∀ e ∈ Table.put s.store.cards slot d, s.Refers e.2.config := by
  intro e he
  rcases Table.mem_put he with rfl | old
  · exact State.refers_of_referenceFailure refers loaded
  · exact h.refers loaded e old

theorem refers_of_loadCheck (h : s.loadCheck = none) : ∀ e ∈ s.store.cards, s.Refers e.2.config := by
  intro e he
  have none := List.findSome?_eq_none_iff.mp h e he
  rwa [Option.map_eq_none_iff, State.cardFailure_eq_none] at none

/-- A door that DOOR.PUT makes unconfigured is no card's cabin (R18). -/
theorem doorPut_configured {d : Nat} {g : DoorConfig} (free : s.doorInUse d g = false) {e : Nat × Card}
    (he : e ∈ s.store.cards) : ∀ k ∈ e.2.config.cabins, (s.doorConfig k).configured = true →
    ((s.doorPut d g).doorConfig k).configured = true := by
  intro k hk configured
  rw [State.doorConfig, doorPut_store]
  by_cases same : k = d
  · subst same
    rw [Table.get_set_self]
    simp only [State.doorInUse, Bool.or_eq_false_iff, Bool.and_eq_false_iff, Bool.not_eq_false', List.any_eq_false]
      at free
    rcases free.1 with now | unused
    · exact now
    · exact absurd (List.contains_iff_mem.mpr hk) (unused.1 e he)
  · rw [Table.get_set_other _ _ _ same]
    exact configured

theorem State.number_mem_erase {slot n : Nat} {a : Account} (rising : s.store.accounts.rising = true)
    (held : (slot, a) ∈ s.store.accounts) (other : a.number ≠ n) (h : n ∈ s.numbers) :
    n ∈ (Table.erase s.store.accounts slot).map fun e => e.2.number := by
  have perm := (Table.perm_of_find rising (Table.find_of_mem rising held)).map fun e => e.2.number
  rcases List.mem_cons.mp (perm.mem_iff.mp h) with same | rest
  · exact absurd same.symm other
  · exact rest

theorem number_ne_of_cardsNaming {n : Nat} (h : s.cardsNaming n = 0) : ∀ e ∈ s.store.cards, n ≠ e.2.config.account := by
  intro e he same
  rw [State.cardsNaming, List.length_eq_zero_iff, List.filter_eq_nil_iff] at h
  exact h e he (by simpa using same.symm)

theorem StoreEffect.referring (e : StoreEffect s t) (h : s.Referring) : t.Referring := by
  have canonical := e.canonical h.canonical
  have kept (e : Nat × Card) (he : e ∈ s.store.cards) : ∃ x ∈ s.store.cards, x.2.config = e.2.config := ⟨e, he, rfl⟩
  cases e with
  | loadBegin => exact ⟨canonical, fun loaded => by cases loaded⟩
  | enterService _ passed =>
    exact ⟨canonical, fun _ e he => (refers_of_loadCheck passed e he).same rfl rfl⟩
  | secure loaded => exact h.of_configs canonical (fun _ => loaded) rfl rfl kept
  | reopen loaded => exact h.of_configs canonical (fun _ => loaded) rfl rfl kept
  | newCard slot uid issue g p _ _ _ refers =>
    exact ⟨canonical, fun loaded e he =>
      (h.put (d := ⟨uid, issue, g, 0, 0, p, none⟩) refers loaded e he).same rfl rfl⟩
  | changeCard slot c g held refers =>
    exact ⟨canonical, fun loaded e he => (h.put (d := s.reconfigured c g) refers loaded e he).same rfl rfl⟩
  | removeCard slot c =>
    exact h.of_configs canonical id rfl rfl fun e he => kept e (List.mem_of_mem_filter he)
  | card slot c d held same => exact h.of_configs canonical id rfl rfl (configs_put held same.config)
  | rolled => exact h.of_configs canonical id rfl rfl (configs_mapEntries fun _ => rfl)
  | move slot c new lane held =>
    refine movePresence_keeps (P := State.Referring) (fun _ _ => ?_) (fun _ _ e => e.referring) h
    exact h.of_configs (relocate_canonical h.canonical) id rfl rfl (configs_put held rfl)
  | newAccount slot number limit status fresh free =>
    have perm := Table.put_perm_of_find_none h.canonical.accounts
      (Table.find_freeSlot h.canonical.accounts free) ⟨number, limit, status, 0, 0, 0, none⟩
    refine ⟨canonical, fun loaded e he => (h.refers loaded e he).mono (fun named => ?_) fun _ _ => id⟩
    exact (perm.map fun e => e.2.number).mem_iff.mpr (List.mem_cons_of_mem _ named)
  | account slot a b held same =>
    have perm := Table.map_put_perm (f := Account.number) h.canonical.accounts
      (Table.find_of_mem h.canonical.accounts held) same.number
    exact ⟨canonical, fun loaded e he => (h.refers loaded e he).mono perm.mem_iff.mpr fun _ _ => id⟩
  | removeAccount slot a held unnamed =>
    refine ⟨canonical, fun loaded e he => (h.refers loaded e he).mono (fun named => ?_) fun _ _ => id⟩
    exact State.number_mem_erase h.canonical.accounts held (number_ne_of_cardsNaming unnamed e he) named
  | door d g free =>
    have same : (s.doorPut d g).loaded = s.loaded := by rw [State.loaded, doorPut_store]; rfl
    refine ⟨canonical, fun loaded e he => ?_⟩
    rw [same] at loaded
    rw [doorPut_cards] at he
    refine (h.refers loaded e he).mono (fun named => ?_) (doorPut_configured (free loaded) he)
    rw [State.numbers, doorPut_store]
    exact named
  | category n x => exact h.of_configs canonical id rfl rfl kept
  | region n x => exact h.of_configs canonical id rfl rfl kept
  | tier n x =>
    refine h.of_configs canonical id rfl rfl ?_
    simp only [State.tierPut]
    split
    · exact configs_mapEntries (Card.trimmed_config n _)
    · exact kept
  | setting name x => exact h.of_configs canonical id rfl rfl kept

theorem Effect.referring (e : Effect s t) (h : s.Referring) : t.Referring := by
  have canonical := e.canonical h.canonical
  have kept (e : Nat × Card) (he : e ∈ s.store.cards) : ∃ x ∈ s.store.cards, x.2.config = e.2.config := ⟨e, he, rfl⟩
  cases e with
  | clock e => rw [e.frame] at canonical ⊢; exact h.of_configs canonical id rfl rfl kept
  | link e => rw [e.frame] at canonical ⊢; exact h.of_configs canonical id rfl rfl kept
  | lane e => rw [e.frame] at canonical ⊢; exact h.of_configs canonical id rfl rfl kept
  | door e => rw [e.frame] at canonical ⊢; exact h.of_configs canonical id rfl rfl kept
  | store e => exact e.referring h
  | money e => exact e.referring h
  | start e =>
    cases e with
    | cold v => exact ⟨canonical, fun _ _ => nofun⟩
    | wake =>
      refine ⟨canonical, fun loaded e he => ?_⟩
      obtain ⟨x, hx, config⟩ := configs_mapEntries (s := s) (f := Card.awoken) (fun _ => rfl) e he
      rw [← config]
      refine (h.refers loaded x hx).mono (fun named => ?_) fun _ _ => id
      have numbers : s.wakeStart.numbers = s.numbers := by
        simp [State.numbers, State.wakeStart, Table.mapEntries, Account.awoken]
      rwa [numbers]

/-! ## Allowances (R84) -/

theorem State.allowanceLaw_iff (s : State) : s.allowanceLaw = true ↔
    ∀ e ∈ s.store.cards, e.2.allowanceUsed ≤ s.tierAllowance e.2.config.tier := by
  simp only [State.allowanceLaw, List.all_eq_true, decide_eq_true_eq]

/-- A card's allowance used after TIER.PUT: brought down with the allowance of its own tier. -/
theorem tierPut_allowance (n : Nat) (x : Tier) (h : s.allowanceLaw = true) : (s.tierPut n x).allowanceLaw = true := by
  rw [State.allowanceLaw_iff] at h ⊢
  have self : (s.tierPut n x).tier n = x := Table.get_set_self _ _ n x
  have other (m : Nat) (ne : m ≠ n) : (s.tierPut n x).tier m = s.tier m := Table.get_set_other _ _ x ne
  intro e he
  by_cases lowered : x.allowance < (s.tier n).allowance
  · replace he : e ∈ Table.mapEntries (Card.trimmed n x.allowance) s.store.cards := by
      simpa only [State.tierPut, if_pos lowered] using he
    obtain ⟨y, hy, rfl⟩ := List.mem_map.mp he
    have used := h y hy
    by_cases own : y.2.config.tier = n
    · simp only [Card.trimmed, own, if_true, State.tierAllowance, self] at used ⊢
      split at used <;> simp_all
    · simp only [Card.trimmed, own, if_false, State.tierAllowance, other _ own] at used ⊢
      exact used
  · replace he : e ∈ s.store.cards := by simpa only [State.tierPut, if_neg lowered] using he
    have used := h e he
    by_cases own : e.2.config.tier = n
    · simp only [own, State.tierAllowance, self] at used ⊢
      split at used <;> simp_all
      omega
    · simp only [State.tierAllowance, other _ own] at used ⊢
      exact used

theorem StoreEffect.allowance (e : StoreEffect s t) (h : s.allowanceLaw = true) : t.allowanceLaw = true := by
  have law := (State.allowanceLaw_iff s).mp h
  have put {slot : Nat} {d : Card} (hd : d.allowanceUsed ≤ s.tierAllowance d.config.tier) :
      ∀ e ∈ Table.put s.store.cards slot d, e.2.allowanceUsed ≤ s.tierAllowance e.2.config.tier := by
    intro e he
    rcases Table.mem_put he with rfl | old
    · exact hd
    · exact law e old
  cases e with
  | newCard slot uid issue g p => exact (State.allowanceLaw_iff _).mpr (put (Nat.zero_le _))
  | changeCard slot c g held =>
    refine (State.allowanceLaw_iff _).mpr (put ?_)
    show (if _ then _ else _) ≤ s.tierAllowance g.tier
    split
    next same =>
      rw [← same]
      exact law _ held
    next => exact Nat.min_le_right _ _
  | removeCard slot c =>
    exact (State.allowanceLaw_iff _).mpr fun e he => law e (List.mem_of_mem_filter he)
  | card slot c d held same used =>
    refine (State.allowanceLaw_iff _).mpr (put ?_)
    rw [same.config]
    exact used (law _ held)
  | rolled =>
    refine (State.allowanceLaw_iff _).mpr fun e he => ?_
    obtain ⟨x, -, rfl⟩ := List.mem_map.mp he
    exact Nat.zero_le _
  | move slot c new lane held =>
    refine movePresence_keeps (P := fun u => u.allowanceLaw = true) (fun _ _ => ?_) (fun u v e h => ?_) h
    · exact (State.allowanceLaw_iff _).mpr (put (d := { c with presence := new, departure := _ }) (law _ held))
    · rw [e.frame]; exact h
  | door d g =>
    refine (State.allowanceLaw_iff _).mpr ?_
    simp only [State.tierAllowance, State.tier, doorPut_store]
    exact law
  | tier n x => exact tierPut_allowance n x h
  | _ => exact h

theorem Effect.allowance (e : Effect s t) (h : s.allowanceLaw = true) : t.allowanceLaw = true := by
  cases e with
  | clock e => rw [e.frame]; exact h
  | link e => rw [e.frame]; exact h
  | lane e => rw [e.frame]; exact h
  | door e => rw [e.frame]; exact h
  | store e => exact e.allowance h
  | money e => rw [e.frame]; exact h
  | start e =>
    cases e with
    | cold v => rfl
    | wake =>
      rw [State.allowanceLaw_iff] at h ⊢
      intro e he
      obtain ⟨x, hx, rfl⟩ := List.mem_map.mp he
      exact h x hx

end Sys2Proof.Machine
end

section
/-! The presence counts and the ashore list (R128, R129, R130), and the laws of the cards together. -/

namespace Sys2Proof.Machine

variable {s t : State}

/-! ## Counts -/

/-- A card stands under a class and a column. -/
def Card.countsAs (cls : CardClass) (k : Column) (c : Card) : Bool :=
  decide (c.config.cls = cls) && decide (c.presence.column = k)

/-- How many cards stand under a class and a column. -/
def Table.standing (t : Table Card) (cls : CardClass) (k : Column) : Nat := t.countP fun e => e.2.countsAs cls k

/-- 1 for a class and presence that stand under a class and a column, else 0. -/
def standsFor (c : CardClass) (x : Presence) (cls : CardClass) (k : Column) : Nat :=
  if c = cls ∧ x.column = k then 1 else 0

theorem Column.cases_add (n : ColumnCounts) (j k : Column) : (n.add j).of k = n.of k + if j = k then 1 else 0 := by
  cases j <;> cases k <;> rfl

theorem Column.cases_drop (n : ColumnCounts) (j k : Column) : (n.drop j).of k = n.of k - if j = k then 1 else 0 := by
  cases j <;> cases k <;> rfl

theorem PresenceCounts.ofClass_change (p : PresenceCounts) (c d : CardClass) (f : ColumnCounts → ColumnCounts) :
    (p.change c f).ofClass d = if c = d then f (p.ofClass d) else p.ofClass d := by
  cases c <;> cases d <;> rfl

theorem PresenceCounts.of_count (p : PresenceCounts) (c : CardClass) (x : Presence) (cls : CardClass) (k : Column) :
    ((p.count c x).ofClass cls).of k = (p.ofClass cls).of k + standsFor c x cls k := by
  rw [PresenceCounts.count, PresenceCounts.ofClass_change, standsFor]
  split
  next same => simp [Column.cases_add, same]
  next other => simp [other]

theorem PresenceCounts.of_uncount (p : PresenceCounts) (c : CardClass) (x : Presence) (cls : CardClass)
    (k : Column) : ((p.uncount c x).ofClass cls).of k = (p.ofClass cls).of k - standsFor c x cls k := by
  rw [PresenceCounts.uncount, PresenceCounts.ofClass_change, standsFor]
  split
  next same => simp [Column.cases_drop, same]
  next other => simp [other]

theorem ColumnCounts.eq_of (n m : ColumnCounts) (h : ∀ k, n.of k = m.of k) : n = m := by
  obtain ⟨a, b, c, d⟩ := n
  obtain ⟨a', b', c', d'⟩ := m
  have ha : a = a' := h .expected
  have hb : b = b' := h .aboard
  have hc : c = c' := h .ashore
  have hd : d = d' := h .missed
  rw [ha, hb, hc, hd]

theorem PresenceCounts.eq_of {p q : PresenceCounts} (h : ∀ cls k, (p.ofClass cls).of k = (q.ofClass cls).of k) :
    p = q := by
  obtain ⟨a, b, c, d⟩ := p
  obtain ⟨a', b', c', d'⟩ := q
  have ha : a = a' := ColumnCounts.eq_of _ _ (h .guest)
  have hb : b = b' := ColumnCounts.eq_of _ _ (h .child)
  have hc : c = c' := ColumnCounts.eq_of _ _ (h .crew)
  have hd : d = d' := ColumnCounts.eq_of _ _ (h .security)
  rw [ha, hb, hc, hd]

theorem countsAs_standsFor (c : Card) (cls : CardClass) (k : Column) :
    (if c.countsAs cls k = true then 1 else 0) = standsFor c.config.cls c.presence cls k := by
  simp [Card.countsAs, standsFor]

theorem Table.standing_cons (t : Table Card) (e : Nat × Card) (cls : CardClass) (k : Column) :
    Table.standing (e :: t) cls k = t.standing cls k + standsFor e.2.config.cls e.2.presence cls k := by
  rw [Table.standing, List.countP_cons, countsAs_standsFor]
  rfl

/-- The counts taken afresh are the numbers of cards that stand under each class and column. -/
theorem PresenceCounts.of_ofCards (t : Table Card) (cls : CardClass) (k : Column) :
    ((PresenceCounts.ofCards t).ofClass cls).of k = t.standing cls k := by
  have go : ∀ (t : Table Card) (p : PresenceCounts),
      ((t.foldl (fun p e => p.count e.2.config.cls e.2.presence) p).ofClass cls).of k =
        (p.ofClass cls).of k + t.standing cls k := by
    intro t
    induction t with
    | nil => exact fun _ => rfl
    | cons e t ih =>
      intro p
      rw [List.foldl_cons, ih, PresenceCounts.of_count, Table.standing_cons]
      omega
  have zero : ((PresenceCounts.zero).ofClass cls).of k = 0 := by cases cls <;> cases k <;> rfl
  rw [PresenceCounts.ofCards, go, zero, Nat.zero_add]

/-- The sixteen counts are those of a card table. -/
def PresenceCounts.Tally (p : PresenceCounts) (t : Table Card) : Prop :=
  ∀ cls k, (p.ofClass cls).of k = t.standing cls k

theorem State.countLaw_iff (s : State) : s.countLaw = true ↔ s.tracker.counts.Tally s.store.cards := by
  rw [State.countLaw, decide_eq_true_eq]
  constructor
  · intro h cls k
    rw [h, PresenceCounts.of_ofCards]
  · intro h
    exact PresenceCounts.eq_of fun cls k => by rw [h cls k, PresenceCounts.of_ofCards]

namespace PresenceCounts.Tally

variable {p : PresenceCounts} {t : Table Card} {slot : Nat} {c d : Card}

theorem put_fresh (h : p.Tally t) (rising : t.rising = true) (free : t.find slot = none) :
    (p.count d.config.cls d.presence).Tally (Table.put t slot d) := by
  intro cls k
  have perm : (Table.put t slot d).standing cls k = Table.standing ((slot, d) :: t) cls k :=
    (Table.put_perm_of_find_none rising free d).countP_eq _
  rw [PresenceCounts.of_count, h cls k, perm, Table.standing_cons]

theorem erase (h : p.Tally t) (rising : t.rising = true) (found : t.find slot = some c) :
    (p.uncount c.config.cls c.presence).Tally (Table.erase t slot) := by
  intro cls k
  have perm : t.standing cls k = Table.standing ((slot, c) :: Table.erase t slot) cls k :=
    (Table.perm_of_find rising found).countP_eq _
  rw [PresenceCounts.of_uncount, h cls k, perm, Table.standing_cons, Nat.add_sub_cancel]

/-- A card's record is replaced: one card fewer where it stood, one more where it stands. -/
theorem put (h : p.Tally t) (rising : t.rising = true) (found : t.find slot = some c) (d : Card) :
    ((p.uncount c.config.cls c.presence).count d.config.cls d.presence).Tally (Table.put t slot d) := by
  intro cls k
  have perm : (Table.put t slot d).standing cls k = Table.standing ((slot, d) :: Table.erase t slot) cls k :=
    (Table.put_perm rising slot d).countP_eq _
  rw [PresenceCounts.of_count, h.erase rising found cls k, perm, Table.standing_cons]

/-- A card that stays in its class and column leaves the counts. -/
theorem put_same (h : p.Tally t) (rising : t.rising = true) (found : t.find slot = some c)
    (cls : d.config.cls = c.config.cls) (column : d.presence.column = c.presence.column) :
    p.Tally (Table.put t slot d) := by
  intro x k
  have put : (Table.put t slot d).standing x k = Table.standing ((slot, d) :: Table.erase t slot) x k :=
    (Table.put_perm rising slot d).countP_eq _
  have held : t.standing x k = Table.standing ((slot, c) :: Table.erase t slot) x k :=
    (Table.perm_of_find rising found).countP_eq _
  have same : standsFor d.config.cls d.presence x k = standsFor c.config.cls c.presence x k := by
    rw [standsFor, standsFor, cls, column]
  rw [h x k, put, held, Table.standing_cons, Table.standing_cons]
  exact congrArg _ same.symm

theorem mapEntries {f : Card → Card} (h : p.Tally t) (cls : ∀ c, (f c).config.cls = c.config.cls)
    (presence : ∀ c, (f c).presence = c.presence) : p.Tally (Table.mapEntries f t) := by
  intro x k
  rw [h x k, Table.standing, Table.standing, Table.mapEntries, List.countP_map]
  refine List.countP_congr fun e _ => ?_
  simp [Card.countsAs, cls, presence]

end PresenceCounts.Tally

/-! ## The ashore list -/

/-- A slot holds an ASHORE card. -/
def Table.holdsAshore (t : Table Card) (slot : Nat) : Prop := ∃ c, t.find slot = some c ∧ c.presence = .ashore

/-- The list holds every slot of an ASHORE card once, and no other; the ASHORE cards alone hold a departure. -/
structure Table.ListedBy (t : Table Card) (ashore : List Nat) : Prop where
  nodup : ashore.Nodup
  mem : ∀ slot, slot ∈ ashore ↔ t.holdsAshore slot
  departs : ∀ e ∈ t, e.2.departure.isSome = decide (e.2.presence = .ashore)

theorem State.ashoreLaw_iff (s : State) (rising : s.store.cards.rising = true) :
    s.ashoreLaw = true ↔ s.store.cards.ListedBy s.tracker.ashore := by
  simp only [State.ashoreLaw, Bool.and_eq_true, decide_eq_true_eq, List.all_eq_true, Bool.or_eq_true,
    List.contains_iff_mem, Option.any_eq_true, beq_iff_eq]
  constructor
  · rintro ⟨⟨nodup, sound⟩, cards⟩
    refine ⟨nodup, fun slot => ⟨sound slot, ?_⟩, fun e he => (cards e he).2⟩
    rintro ⟨c, found, ashore⟩
    exact (cards _ (Table.mem_of_find found)).1.resolve_left (fun other => other ashore)
  · intro h
    refine ⟨⟨h.nodup, fun slot hs => (h.mem slot).mp hs⟩, fun e he => ⟨?_, h.departs e he⟩⟩
    by_cases ashore : e.2.presence = .ashore
    · exact .inr ((h.mem e.1).mpr ⟨e.2, Table.find_of_mem rising he, ashore⟩)
    · exact .inl ashore

namespace Table.ListedBy

variable {t : Table Card} {ashore : List Nat} {slot : Nat} {c d : Card}

theorem holds_put (t : Table Card) (slot : Nat) (d : Card) (k : Nat) : (Table.put t slot d).holdsAshore k ↔
    k = slot ∧ d.presence = .ashore ∨ k ≠ slot ∧ t.holdsAshore k := by
  by_cases same : k = slot
  · subst same
    simp [Table.holdsAshore, Table.find_put_self]
  · simp [Table.holdsAshore, Table.find_put_other _ _ same, same]

theorem departs_put (h : t.ListedBy ashore) (hd : d.departure.isSome = decide (d.presence = .ashore)) :
    ∀ e ∈ Table.put t slot d, e.2.departure.isSome = decide (e.2.presence = .ashore) := by
  intro e he
  rcases Table.mem_put he with rfl | old
  · exact hd
  · exact h.departs e old

/-- A card written without a change of its presence. -/
theorem put_same (h : t.ListedBy ashore) (found : t.find slot = some c) (presence : d.presence = c.presence)
    (departure : d.departure = c.departure) : (Table.put t slot d).ListedBy ashore := by
  refine ⟨h.nodup, fun k => ?_, h.departs_put ?_⟩
  · rw [holds_put, h.mem, presence]
    by_cases same : k = slot
    · subst same
      simp [Table.holdsAshore, found]
    · simp [same]
  · rw [presence, departure]
    exact h.departs _ (Table.mem_of_find found)

theorem put_fresh (h : t.ListedBy ashore) (free : t.find slot = none) (presence : d.presence ≠ .ashore)
    (departure : d.departure = none) : (Table.put t slot d).ListedBy ashore := by
  refine ⟨h.nodup, fun k => ?_, h.departs_put (by simp [departure, presence])⟩
  rw [holds_put, h.mem]
  by_cases same : k = slot
  · subst same
    simp [Table.holdsAshore, free, presence]
  · simp [same]

/-- A card leaves the list: the slot is taken out, whether it stood there or not. -/
theorem put_aboard (h : t.ListedBy ashore) (presence : d.presence ≠ .ashore) (departure : d.departure = none) :
    (Table.put t slot d).ListedBy (ashore.filter fun x => x != slot) := by
  refine ⟨h.nodup.filter _, fun k => ?_, h.departs_put (by simp [departure, presence])⟩
  rw [List.mem_filter, holds_put, h.mem, bne_iff_ne]
  simp [presence, and_comm]

/-- A card joins the list at its tail. -/
theorem put_ashore (h : t.ListedBy ashore) (absent : slot ∉ ashore) (presence : d.presence = .ashore)
    (departure : d.departure.isSome = true) : (Table.put t slot d).ListedBy (ashore ++ [slot]) := by
  refine ⟨?_, fun k => ?_, h.departs_put (by simp [departure, presence])⟩
  · exact List.nodup_append.mpr ⟨h.nodup, List.nodup_singleton slot, by
      intro a ha b hb
      rw [List.mem_singleton.mp hb]
      exact fun same => absent (same ▸ ha)⟩
  · rw [List.mem_append, List.mem_singleton, holds_put, h.mem]
    by_cases same : k = slot
    · simp [same, presence]
    · simp [same]

theorem erase (h : t.ListedBy ashore) (slot : Nat) :
    (Table.erase t slot).ListedBy (ashore.filter fun x => x != slot) := by
  refine ⟨h.nodup.filter _, fun k => ?_, fun e he => h.departs e (List.mem_of_mem_filter he)⟩
  rw [List.mem_filter, h.mem, bne_iff_ne]
  by_cases same : k = slot
  · subst same
    simp [Table.holdsAshore, Table.find_erase_self]
  · simp [Table.holdsAshore, Table.find_erase_other t same, same]

theorem mapEntries {f : Card → Card} (h : t.ListedBy ashore) (presence : ∀ c, (f c).presence = c.presence)
    (departure : ∀ c, (f c).departure.isSome = c.departure.isSome) : (Table.mapEntries f t).ListedBy ashore := by
  refine ⟨h.nodup, fun k => ?_, fun e he => ?_⟩
  · rw [h.mem, Table.holdsAshore, Table.holdsAshore, Table.find_mapEntries]
    simp [presence]
  · obtain ⟨x, hx, rfl⟩ := List.mem_map.mp he
    rw [presence, departure]
    exact h.departs x hx

end Table.ListedBy

/-! ## Both laws -/

/-- The Presence Tracker agrees with the card table. -/
structure State.Tracked (s : State) : Prop where
  canonical : s.Canonical
  counts : s.tracker.counts.Tally s.store.cards
  list : s.store.cards.ListedBy s.tracker.ashore

theorem relocate_tally {slot : Nat} {c : Card} {new : Presence} {lane : Option Nat} (h : s.Tracked)
    (found : s.store.cards.find slot = some c) :
    (s.relocate slot c new lane).tracker.counts.Tally (s.relocate slot c new lane).store.cards := by
  show PresenceCounts.Tally (if _ then _ else _) _
  split
  next same => exact h.counts.put_same h.canonical.cards found rfl same.symm
  next => exact h.counts.put h.canonical.cards found { c with presence := new, departure := _ }

theorem relocate_list {slot : Nat} {c : Card} {new : Presence} {lane : Option Nat} (h : s.Tracked)
    (found : s.store.cards.find slot = some c) (moves : c.presence ≠ new) :
    (s.relocate slot c new lane).store.cards.ListedBy (s.relocate slot c new lane).tracker.ashore := by
  by_cases leaves : new = .ashore
  · have stays : c.presence ≠ .ashore := leaves ▸ moves
    have absent : slot ∉ s.tracker.ashore := by
      rw [h.list.mem]
      rintro ⟨x, hx, ashore⟩
      rw [found] at hx
      cases hx
      exact stays ashore
    simp only [State.relocate, if_pos leaves, if_neg stays]
    exact h.list.put_ashore absent leaves rfl
  · simp only [State.relocate, if_neg leaves]
    split
    · exact h.list.put_aboard leaves rfl
    next stays =>
      have absent : slot ∉ s.tracker.ashore := by
        rw [h.list.mem]
        rintro ⟨x, hx, ashore⟩
        rw [found] at hx
        cases hx
        exact stays ashore
      have same : s.tracker.ashore.filter (fun x => x != slot) = s.tracker.ashore :=
        List.filter_eq_self.mpr fun x hx => by simpa using fun e : x = slot => absent (e ▸ hx)
      have listed := h.list.put_aboard (slot := slot) (d := { c with presence := new, departure := none }) leaves rfl
      rwa [same] at listed

/-- The ashore list taken afresh lists the ASHORE cards (R5). -/
theorem ashoreAfresh_list (h : s.Tracked) : s.store.cards.ListedBy s.ashoreAfresh := by
  have cards := h.canonical.cards
  have held (slot : Nat) : slot ∈ (s.store.cards.filter fun e => decide (e.2.presence = .ashore)).map Prod.fst ↔
      s.store.cards.holdsAshore slot := by
    simp only [List.mem_map, List.mem_filter, decide_eq_true_eq]
    constructor
    · rintro ⟨⟨k, c⟩, ⟨hc, ashore⟩, rfl⟩
      exact ⟨c, Table.find_of_mem cards hc, ashore⟩
    · rintro ⟨c, found, ashore⟩
      exact ⟨(slot, c), ⟨Table.mem_of_find found, ashore⟩, rfl⟩
  have keys : ((s.store.cards.filter fun e => decide (e.2.presence = .ashore)).map Prod.fst).Nodup := by
    have rising := ((Table.rising_iff _).mp cards).filter fun e => decide (e.2.presence = .ashore)
    exact List.pairwise_map.mpr (rising.imp fun lt => Nat.ne_of_lt lt)
  refine ⟨?_, fun slot => ?_, h.list.departs⟩
  · refine List.nodup_append.mpr ⟨h.list.nodup.filter _, keys.filter _, ?_⟩
    rintro a ha b hb rfl
    have := (List.mem_filter.mp hb).2
    simp only [Bool.not_eq_true', ← Bool.not_eq_true, List.contains_iff_mem] at this
    exact this ha
  · unfold State.ashoreAfresh
    simp only [List.mem_append, List.mem_filter, Bool.not_eq_true', ← Bool.not_eq_true, List.contains_iff_mem, held,
      h.list.mem]
    constructor
    · rintro (⟨ashore, -⟩ | ⟨ashore, -⟩) <;> exact ashore
    · exact fun ashore => .inl ⟨ashore, ashore⟩

theorem Card.trimmed_presence (n a : Nat) (c : Card) : (Card.trimmed n a c).presence = c.presence := by
  unfold Card.trimmed
  split <;> rfl

theorem Card.trimmed_departure (n a : Nat) (c : Card) : (Card.trimmed n a c).departure = c.departure := by
  unfold Card.trimmed
  split <;> rfl

theorem StoreEffect.tracked (e : StoreEffect s t) (h : s.Tracked) : t.Tracked := by
  have canonical := e.canonical h.canonical
  have cards := h.canonical.cards
  cases e with
  | newCard slot uid issue g p initial fresh free =>
    have free := Table.find_freeSlot cards free
    have aboard : p ≠ .ashore := by rcases initial with rfl | rfl <;> exact nofun
    exact ⟨canonical, h.counts.put_fresh (d := ⟨uid, issue, g, 0, 0, p, none⟩) cards free, h.list.put_fresh free aboard rfl⟩
  | changeCard slot c g held =>
    have found := Table.find_of_mem cards held
    refine ⟨canonical, ?_, h.list.put_same found rfl rfl⟩
    show PresenceCounts.Tally (if _ then _ else _) _
    split
    next same => exact h.counts.put_same cards found same.symm rfl
    next => exact h.counts.put cards found (s.reconfigured c g)
  | removeCard slot c held =>
    exact ⟨canonical, h.counts.erase cards (Table.find_of_mem cards held), h.list.erase slot⟩
  | card slot c d held same =>
    have found := Table.find_of_mem cards held
    exact ⟨canonical, h.counts.put_same cards found (by rw [same.config]) (by rw [same.presence]),
      h.list.put_same found same.presence same.departure⟩
  | rolled =>
    exact ⟨canonical, h.counts.mapEntries (fun _ => rfl) fun _ => rfl,
      h.list.mapEntries (fun _ => rfl) fun _ => rfl⟩
  | move slot c new lane held =>
    refine movePresence_keeps (P := State.Tracked) (fun h moves => ?_) (fun u v e h => ?_) h
    · have found := Table.find_of_mem cards held
      exact ⟨relocate_canonical h.canonical, relocate_tally h found, relocate_list h found moves⟩
    · have canonical := e.moneyRun.canonical h.canonical
      rw [e.frame] at canonical ⊢
      exact ⟨canonical, h.counts, h.list⟩
  | door d g =>
    rw [doorPut_frame] at canonical ⊢
    refine ⟨canonical, ?_, ?_⟩
    · rw [doorPut_store]; exact h.counts
    · rw [doorPut_store]; exact h.list
  | tier n x =>
    refine ⟨canonical, ?_, ?_⟩
    · show PresenceCounts.Tally _ (if _ then _ else _)
      split
      · exact h.counts.mapEntries (fun c => by rw [Card.trimmed_config]) (Card.trimmed_presence n _)
      · exact h.counts
    · show Table.ListedBy (if _ then _ else _) _
      split
      · exact h.list.mapEntries (Card.trimmed_presence n _) fun c => by rw [Card.trimmed_departure]
      · exact h.list
  | enterService =>
    exact ⟨canonical, PresenceCounts.of_ofCards s.store.cards, ashoreAfresh_list h⟩
  | _ => exact ⟨canonical, h.counts, h.list⟩

theorem Effect.tracked (e : Effect s t) (h : s.Tracked) : t.Tracked := by
  have canonical := e.canonical h.canonical
  cases e with
  | clock e => rw [e.frame] at canonical ⊢; exact ⟨canonical, h.counts, h.list⟩
  | link e => rw [e.frame] at canonical ⊢; exact ⟨canonical, h.counts, h.list⟩
  | lane e => rw [e.frame] at canonical ⊢; exact ⟨canonical, h.counts, h.list⟩
  | door e => rw [e.frame] at canonical ⊢; exact ⟨canonical, h.counts, h.list⟩
  | store e => exact e.tracked h
  | money e => rw [e.frame] at canonical ⊢; exact ⟨canonical, h.counts, h.list⟩
  | start e =>
    cases e with
    | cold v =>
      exact ⟨canonical, fun cls k => by cases cls <;> cases k <;> rfl,
        ⟨.nil, fun slot => ⟨nofun, fun ⟨_, found, _⟩ => by cases found⟩, fun _ => nofun⟩⟩
    | wake =>
      exact ⟨canonical, h.counts.mapEntries (fun _ => rfl) fun _ => rfl,
        h.list.mapEntries (fun _ => rfl) fun c => by simp [Card.awoken]⟩

/-- Settles O57: each law by what a write to the card or the account table makes of it, over tables in canonical
form. -/
theorem everyStepKeepsTheCardLaws : Obligations.EveryStepKeepsTheCardLaws := by
  unfold Obligations.EveryStepKeepsTheCardLaws
  intro s t h tables
  have canonical := s.tablesLaw_iff.mp tables
  refine ⟨fun keys => ?_, fun references => ?_, step_keeps (fun _ _ => Effect.allowance) h, fun counts ashore => ?_⟩
  · obtain ⟨cards, accounts⟩ := s.keysLaw_iff.mp keys
    have keyed : t.Keyed := step_keeps (fun _ _ => Effect.keyed) h ⟨canonical, cards, accounts⟩
    exact t.keysLaw_iff.mpr ⟨keyed.cards, keyed.accounts⟩
  · have referring : t.Referring :=
      step_keeps (fun _ _ => Effect.referring) h ⟨canonical, s.referenceLaw_iff.mp references⟩
    exact t.referenceLaw_iff.mpr referring.refers
  · have tracked : t.Tracked := step_keeps (fun _ _ => Effect.tracked) h
      ⟨canonical, s.countLaw_iff.mp counts, (s.ashoreLaw_iff canonical.cards).mp ashore⟩
    exact ⟨t.countLaw_iff.mpr tracked.counts, (t.ashoreLaw_iff tracked.canonical.cards).mpr tracked.list⟩

end Sys2Proof.Machine
end

section
/-! The posting queue and the waiting list: numbering, order, and what every step keeps of them (R98, R100). -/

namespace Sys2Proof.Machine

variable {s t : State}

/-! ## What appending and settling leave -/

/-- The Charge Engine after a record is appended (R100, R101). -/
theorem appendPosting_engine (s : State) (p : Posting) : (s.appendPosting p).engine = { s.engine with
    postings := s.engine.postings ++ [{ p with number := s.engine.nextPosting }]
    nextPosting := nextNumber s.engine.nextPosting
    highWaterArmed := s.engine.highWaterArmed &&
      !decide (s.store.settings.highWater ≤ s.engine.postings.length + 1) } := by
  have length : (s.engine.postings ++ [{ p with number := s.engine.nextPosting }]).length =
      s.engine.postings.length + 1 := by simp
  unfold State.appendPosting
  dsimp only
  rw [length]
  split
  next high =>
    rw [Bool.and_eq_true] at high
    rw [State.raise_engine, high.1, high.2]
    rfl
  next low =>
    cases armed : s.engine.highWaterArmed <;> simp_all

/-- The Charge Engine after a tab has left its slot (R96). -/
theorem releaseTab_engine (s : State) (slot : Nat) (x : Tab) : (s.releaseTab slot x).engine = { s.engine with
    tabs := Table.set TabSlot.cold s.engine.tabs slot { s.tabSlot slot with state := .free }
    terminalTabs := Table.set 0 s.engine.terminalTabs x.terminal (s.terminalTabs x.terminal - 1) } := by
  unfold State.releaseTab
  dsimp only
  split <;> rfl

theorem settle_waiting (s : State) (slot : Nat) (x : Tab) (r : CloseReason) :
    (s.settle slot x r).engine.waiting = s.engine.waiting := by
  unfold State.settle
  rw [releaseTab_engine]
  split
  · rfl
  · rw [appendPosting_engine]

theorem tabSlot_congr (h : t.engine.tabs = s.engine.tabs) (k : Nat) : t.tabSlot k = s.tabSlot k := by
  rw [State.tabSlot, State.tabSlot, h]

theorem appendPosting_tabSlot (s : State) (p : Posting) (k : Nat) : (s.appendPosting p).tabSlot k = s.tabSlot k :=
  tabSlot_congr (by rw [appendPosting_engine]) k

@[simp] theorem State.tabSlot_setTabSlot_self (s : State) (k : Nat) (v : TabSlot) : (s.setTabSlot k v).tabSlot k = v :=
  Table.get_set_self _ _ k v

theorem State.tabSlot_setTabSlot_other (s : State) {j k : Nat} (v : TabSlot) (h : j ≠ k) :
    (s.setTabSlot k v).tabSlot j = s.tabSlot j :=
  Table.get_set_other _ _ v h

theorem releaseTab_tabSlot_self (s : State) (slot : Nat) (x : Tab) :
    (s.releaseTab slot x).tabSlot slot = { s.tabSlot slot with state := .free } := by
  rw [State.tabSlot, releaseTab_engine]
  exact Table.get_set_self _ _ _ _

theorem releaseTab_tabSlot_other (s : State) {slot k : Nat} (x : Tab) (h : k ≠ slot) :
    (s.releaseTab slot x).tabSlot k = s.tabSlot k := by
  rw [State.tabSlot, releaseTab_engine]
  exact Table.get_set_other _ _ _ h

theorem settle_tabSlot_self (s : State) (slot : Nat) (x : Tab) (r : CloseReason) :
    (s.settle slot x r).tabSlot slot = { s.tabSlot slot with state := .free } := by
  unfold State.settle
  rw [releaseTab_tabSlot_self]
  split
  · rfl
  · rw [appendPosting_tabSlot]

theorem settle_tabSlot_other (s : State) {slot k : Nat} (x : Tab) (r : CloseReason) (h : k ≠ slot) :
    (s.settle slot x r).tabSlot k = s.tabSlot k := by
  unfold State.settle
  rw [releaseTab_tabSlot_other _ x h]
  split
  · rfl
  · rw [appendPosting_tabSlot]

/-! ## The posting numbers -/

theorem numbered_congr {next : Nat} : ∀ {ps qs : List Posting} {n : Nat},
    qs.map Posting.number = ps.map Posting.number → numbered next n qs = numbered next n ps
  | [], [], _, _ => rfl
  | p :: ps, q :: qs, n, h => by
    obtain ⟨first, rest⟩ := List.cons.inj h
    rw [numbered, numbered, first, numbered_congr rest]

theorem numbered_reference {e : Engine} {n : Nat} (h : numbered e.nextPosting n e.postings = true) :
    e.reference = n := by
  unfold Engine.reference
  cases ps : e.postings with
  | nil => rw [ps, numbered, beq_iff_eq] at h; exact h.symm
  | cons p ps' =>
    rw [ps, numbered, Bool.and_eq_true, beq_iff_eq] at h
    exact h.1

theorem numbered_append {next : Nat} (p : Posting) : ∀ {ps : List Posting} {n : Nat},
    numbered next n ps = true → numbered (nextNumber next) n (ps ++ [{ p with number := next }]) = true
  | [], n, h => by
    rw [numbered, beq_iff_eq] at h
    simp [numbered, h]
  | q :: ps, n, h => by
    rw [numbered, Bool.and_eq_true] at h
    rw [List.cons_append, numbered, Bool.and_eq_true]
    exact ⟨h.1, numbered_append p h.2⟩

theorem numbered_drop {next : Nat} : ∀ (d : Nat) {ps : List Posting} {n : Nat}, numbered next n ps = true →
    ∃ m, numbered next m (ps.drop d) = true
  | 0, _, n, h => ⟨n, h⟩
  | _ + 1, [], n, h => ⟨n, h⟩
  | d + 1, p :: ps, n, h => by
    rw [numbered, Bool.and_eq_true] at h
    exact numbered_drop d h.2

theorem nextNumber_range {n : Nat} (h : n ≤ maxNat32) : 1 ≤ nextNumber n ∧ nextNumber n ≤ maxNat32 := by
  unfold nextNumber maxNat32 at *
  split <;> omega

/-- R100: the posting queue is numbered, its numbers are in range, and DELIVERED records stand first. -/
structure Engine.Posted (e : Engine) : Prop where
  numbers : ∃ n, numbered e.nextPosting n e.postings = true
  range : ∀ n ∈ e.postings.map Posting.number, 1 ≤ n ∧ n ≤ maxNat32
  next : 1 ≤ e.nextPosting ∧ e.nextPosting ≤ maxNat32
  order : deliveredFirst e.postings

theorem State.postingLaw_iff (s : State) : s.postingLaw = true ↔ s.engine.Posted := by
  simp only [State.postingLaw, Bool.and_eq_true, List.all_eq_true, decide_eq_true_eq]
  constructor
  · rintro ⟨⟨⟨⟨numbers, range⟩, low⟩, high⟩, order⟩
    refine ⟨⟨_, numbers⟩, fun n hn => ?_, ⟨low, high⟩, List.all_eq_true.mpr order⟩
    obtain ⟨p, hp, rfl⟩ := List.mem_map.mp hn
    exact range p hp
  · rintro ⟨⟨n, numbers⟩, range, ⟨low, high⟩, order⟩
    rw [numbered_reference numbers]
    exact ⟨⟨⟨⟨numbers, fun p hp => range _ (List.mem_map_of_mem hp)⟩, low⟩, high⟩, List.all_eq_true.mp order⟩

theorem deliveredFirst_append {p : Posting} (pending : p.delivered = false) : ∀ {ps : List Posting},
    deliveredFirst ps → deliveredFirst (ps ++ [p])
  | [], _ => by simp [deliveredFirst, Posting.isPending, pending]
  | q :: ps, h => by
    rw [List.cons_append]
    cases delivered : q.delivered with
    | true =>
      rw [deliveredFirst_cons_delivered delivered] at h ⊢
      exact deliveredFirst_append pending h
    | false =>
      rw [deliveredFirst_cons_pending delivered] at h ⊢
      rw [List.all_append, h]
      simp [Posting.isPending, pending]

theorem deliveredFirst_drop : ∀ (d : Nat) {ps : List Posting}, deliveredFirst ps → deliveredFirst (ps.drop d)
  | 0, _, h => h
  | _ + 1, [], h => h
  | d + 1, p :: ps, h => by
    refine deliveredFirst_drop d ?_
    cases delivered : p.delivered with
    | true => exact (deliveredFirst_cons_delivered delivered).mp h
    | false => exact deliveredFirst_of_pending ((deliveredFirst_cons_pending delivered).mp h)

namespace Engine.Posted

variable {e f : Engine}

/-- Other records under the same numbers, in order. -/
theorem renamed (h : e.Posted) (numbers : f.postings.map Posting.number = e.postings.map Posting.number)
    (next : f.nextPosting = e.nextPosting) (order : deliveredFirst f.postings) : f.Posted where
  numbers := by
    obtain ⟨n, old⟩ := h.numbers
    exact ⟨n, by rw [next, numbered_congr numbers]; exact old⟩
  range := by rw [numbers]; exact h.range
  next := by rw [next]; exact h.next
  order := order

theorem same (h : e.Posted) (postings : f.postings = e.postings) (next : f.nextPosting = e.nextPosting) :
    f.Posted :=
  h.renamed (by rw [postings]) next (by rw [postings]; exact h.order)

theorem append (h : s.engine.Posted) {p : Posting} (pending : p.delivered = false) :
    (s.appendPosting p).engine.Posted := by
  rw [appendPosting_engine]
  obtain ⟨n, old⟩ := h.numbers
  refine ⟨⟨n, numbered_append p old⟩, fun m hm => ?_, nextNumber_range h.next.2,
    deliveredFirst_append (p := { p with number := s.engine.nextPosting }) pending h.order⟩
  rw [List.map_append, List.mem_append] at hm
  rcases hm with hm | hm
  · exact h.range m hm
  · rw [List.map_singleton, List.mem_singleton] at hm
    rw [hm]
    exact h.next

theorem settle (h : s.engine.Posted) (slot : Nat) (x : Tab) (r : CloseReason) :
    (s.settle slot x r).engine.Posted := by
  unfold State.settle
  rw [releaseTab_engine]
  split
  · exact h.same rfl rfl
  · exact (h.append (p := s.settleRecord x r) rfl).same rfl rfl

theorem remove (h : s.engine.Posted) (d : Nat) : (s.removePostings d).engine.Posted where
  numbers := numbered_drop (d + 1) h.numbers.choose_spec
  range := fun n hn => h.range n (by
    rw [show (s.removePostings d).engine.postings = s.engine.postings.drop (d + 1) from rfl, List.map_drop] at hn
    exact List.mem_of_mem_drop hn)
  next := h.next
  order := deliveredFirst_drop (d + 1) h.order

end Engine.Posted

/-! ## The waiting list (R98) -/

/-- A slot holds a CLOSING tab of a total above 0. -/
def TabState.waits : TabState → Prop
  | .closing x _ => x.sums.total ≠ 0
  | _ => False

/-- A slot holds a CLOSING tab. -/
def TabState.closes : TabState → Prop
  | .closing .. => True
  | _ => False

theorem TabState.closes_of_waits {v : TabState} (h : v.waits) : v.closes := by
  cases v <;> first | exact trivial | exact h

/-- The waiting list holds every CLOSING tab once, each with a total above 0, and no other slot. -/
structure State.Listed (s : State) : Prop where
  nodup : s.engine.waiting.Nodup
  waits : ∀ slot ∈ s.engine.waiting, (s.tabSlot slot).state.waits
  closes : ∀ slot, (s.tabSlot slot).state.closes → slot ∈ s.engine.waiting

/-- No tab waits, or the posting queue is full. -/
def State.Full (s : State) : Prop := s.engine.waiting = [] ∨ s.engine.postings.length = postingQueueRoom

theorem State.waitingLaw_iff (canonical : s.Canonical) : s.waitingLaw = true ↔ s.Full ∧ s.Listed := by
  have tabs := canonical.tabs
  rw [Table.canonical, Bool.and_eq_true] at tabs
  simp only [State.waitingLaw, Bool.and_eq_true, Bool.or_eq_true, List.isEmpty_iff, decide_eq_true_eq,
    List.all_eq_true]
  constructor
  · rintro ⟨⟨⟨full, nodup⟩, waits⟩, closes⟩
    refine ⟨full, nodup, fun slot hs => ?_, fun slot hs => ?_⟩
    · have waiting := waits slot hs
      cases state : (s.tabSlot slot).state <;> simp [state] at waiting
      exact waiting
    · cases found : Table.find s.engine.tabs slot with
      | none => simp [State.tabSlot, Table.get, found, TabSlot.cold, TabState.closes] at hs
      | some v =>
        have held := closes _ (Table.mem_of_find found)
        rw [State.tabSlot, Table.get, found, Option.getD_some] at hs
        cases state : v.state <;> rw [state] at hs <;> simp [state] at held <;> first | exact held | exact hs.elim
  · rintro ⟨full, nodup, waits, closes⟩
    refine ⟨⟨⟨full, nodup⟩, fun slot hs => ?_⟩, fun e he => ?_⟩
    · have waiting := waits slot hs
      cases state : (s.tabSlot slot).state <;> rw [state] at waiting
      · exact waiting.elim
      · exact waiting.elim
      · exact decide_eq_true waiting
    · have same : s.tabSlot e.1 = e.2 := by
        rw [State.tabSlot, Table.get, Table.find_of_mem tabs.1 he, Option.getD_some]
      have held := closes e.1
      rw [same] at held
      cases state : e.2.state <;> simp only
      rw [state] at held
      exact List.contains_iff_mem.mpr (held trivial)

namespace State.Listed

/-- A slot outside the list gets a tab that does not wait. -/
theorem set (h : s.Listed) {slot : Nat} (out : ¬ (s.tabSlot slot).state.closes)
    (waiting : t.engine.waiting = s.engine.waiting) (other : ∀ k, k ≠ slot → t.tabSlot k = s.tabSlot k)
    (self : ¬ (t.tabSlot slot).state.closes) : t.Listed where
  nodup := by rw [waiting]; exact h.nodup
  waits := by
    rw [waiting]
    intro k hk
    have ne : k ≠ slot := fun same => out (TabState.closes_of_waits (same ▸ h.waits k hk))
    rw [other k ne]
    exact h.waits k hk
  closes := by
    rw [waiting]
    intro k hk
    have ne : k ≠ slot := fun same => self (same ▸ hk)
    rw [other k ne] at hk
    exact h.closes k hk

theorem same (h : s.Listed) (waiting : t.engine.waiting = s.engine.waiting) (tabs : t.engine.tabs = s.engine.tabs) :
    t.Listed where
  nodup := by rw [waiting]; exact h.nodup
  waits := by simp only [waiting, tabSlot_congr tabs]; exact h.waits
  closes := by simp only [waiting, tabSlot_congr tabs]; exact h.closes

/-- A tab joins the tail of the list. -/
theorem join (h : s.Listed) {slot : Nat} {x : Tab} {r : CloseReason} (out : ¬ (s.tabSlot slot).state.closes)
    (some : x.sums.total ≠ 0) : (s.closeTab slot x r).Listed where
  nodup := by
    show (s.engine.waiting ++ [slot]).Nodup
    refine List.nodup_append.mpr ⟨h.nodup, List.nodup_singleton slot, fun a ha b hb same => ?_⟩
    rw [List.mem_singleton.mp hb] at same
    exact out (TabState.closes_of_waits (same ▸ h.waits a ha))
  waits := by
    intro k hk
    have slots (j : Nat) : (s.closeTab slot x r).tabSlot j =
        (s.setTabSlot slot { s.tabSlot slot with state := .closing x r }).tabSlot j := rfl
    rw [slots]
    by_cases same : k = slot
    · rw [same, State.tabSlot_setTabSlot_self]
      exact some
    · rw [State.tabSlot_setTabSlot_other _ _ same]
      exact h.waits k ((List.mem_append.mp hk).resolve_right fun e => same (List.mem_singleton.mp e))
  closes := by
    intro k hk
    by_cases same : k = slot
    · exact List.mem_append.mpr (.inr (List.mem_singleton.mpr same))
    · have slots : (s.closeTab slot x r).tabSlot k = s.tabSlot k := State.tabSlot_setTabSlot_other _ _ same
      rw [slots] at hk
      exact List.mem_append.mpr (.inl (h.closes k hk))

/-- The head of the list settles and leaves it. -/
theorem serve (h : s.Listed) {slot : Nat} {rest : List Nat} (waiting : s.engine.waiting = slot :: rest) (x : Tab)
    (r : CloseReason) :
    (State.settle { s with engine := { s.engine with waiting := rest } } slot x r).Listed := by
  have nodup := h.nodup
  rw [waiting, List.nodup_cons] at nodup
  have slots (k : Nat) (ne : k ≠ slot) :
      (State.settle { s with engine := { s.engine with waiting := rest } } slot x r).tabSlot k = s.tabSlot k :=
    settle_tabSlot_other _ x r ne
  refine ⟨by rw [settle_waiting]; exact nodup.2, fun k hk => ?_, fun k hk => ?_⟩
  · rw [settle_waiting] at hk
    rw [slots k fun same => nodup.1 (same ▸ hk)]
    exact h.waits k (by rw [waiting]; exact List.mem_cons_of_mem _ hk)
  · have ne : k ≠ slot := by
      rintro rfl
      rw [settle_tabSlot_self] at hk
      exact hk
    rw [slots k ne] at hk
    rw [settle_waiting]
    exact (List.mem_cons.mp (waiting ▸ h.closes k hk)).resolve_left ne

end State.Listed

/-! ## Every effect -/

/-- The posting queue and the waiting list in agreement, over tables in canonical form and queues within their
room. -/
structure State.Billed (s : State) : Prop where
  canonical : s.Canonical
  fits : s.Fits
  posted : s.engine.Posted
  listed : s.Listed
  full : s.Full

/-- Serving the list ends with no tab waiting or with a full posting queue. -/
theorem serve_billed : ∀ (xs : List Nat) (v : Served), v.state.Canonical → v.state.engine.waiting = xs →
    v.state.Fits → v.state.engine.Posted → v.state.Listed →
    (Served.go xs v).state.Billed
  | [], v, canonical, waiting, fits, posted, listed => ⟨canonical, fits, posted, listed, .inl waiting⟩
  | slot :: rest, v, canonical, waiting, fits, posted, listed => by
    have waits := listed.waits slot (by rw [waiting]; exact List.mem_cons_self ..)
    rw [Served.go]
    split
    next x r state =>
      split
      next can =>
        have taken : MoneyRun v.state { v.state with engine := { v.state.engine with waiting := rest } } :=
          .queues v.state.engine.postings rest _ _ id .refl
        have run := taken.trans (settle_moneyRun slot r can)
        refine serve_billed rest ⟨_, v.settled + 1⟩ (run.canonical canonical) (settle_waiting _ slot x r)
          (run.fits fits) ?_ (listed.serve waiting x r)
        exact Engine.Posted.settle (s := { v.state with engine := { v.state.engine with waiting := rest } })
          (posted.same rfl rfl) slot x r
      next cannot =>
        refine ⟨canonical, fits, posted, listed, .inr ?_⟩
        simp only [State.canSettle, State.postRoom, Bool.or_eq_true, decide_eq_true_eq, not_or, Nat.not_lt] at cannot
        exact Nat.le_antisymm fits.postings cannot.2
    next other =>
      cases state : (v.state.tabSlot slot).state with
      | closing x r => exact absurd state (other x r)
      | free => rw [state] at waits; exact waits.elim
      | opened x d => rw [state] at waits; exact waits.elim

theorem waiting_nil_of_postRoom (h : s.Full) (room : s.postRoom = true) : s.engine.waiting = [] := by
  simp only [State.postRoom, decide_eq_true_eq] at room
  exact h.resolve_right (Nat.ne_of_lt room)

/-- What a settled tab leaves: the list as it was, and a queue that is full or a list that is empty. -/
theorem settle_full {x : Tab} (h : s.Full) (slot : Nat) (r : CloseReason) (can : s.canSettle x = true) :
    (s.settle slot x r).Full := by
  unfold State.Full
  rw [settle_waiting]
  by_cases none : x.sums.total = 0
  · have postings : (s.settle slot x r).engine.postings = s.engine.postings := by
      rw [State.settle, if_pos none, releaseTab_engine]
    rw [postings]
    exact h
  · refine .inl (waiting_nil_of_postRoom h ?_)
    simpa [State.canSettle, none] using can

theorem MoneyEffect.billed (e : MoneyEffect s t) (h : s.Billed) : t.Billed := by
  have canonical := e.moneyRun.canonical h.canonical
  have fits := e.moneyRun.fits h.fits
  obtain ⟨held, fitted, posted, listed, full⟩ := h
  cases e with
  | append p loaded room pending =>
    refine ⟨canonical, fits, posted.append pending, listed.same ?_ ?_, .inl ?_⟩
    · rw [appendPosting_engine]
    · rw [appendPosting_engine]
    · rw [appendPosting_engine]
      exact waiting_nil_of_postRoom full room
  | postings ps numbers order =>
    have length : ps.length = s.engine.postings.length := by simpa using congrArg List.length numbers
    exact ⟨canonical, fits, posted.renamed numbers rfl (order posted.order), listed.same rfl rfl,
      full.imp id fun e => length.trans e⟩
  | release d =>
    have removed : MoneyRun s (s.removePostings d) := by
      refine .queues (s.engine.postings.drop (d + 1)) s.engine.waiting _ _ (fun fits => ?_) .refl
      rw [List.length_drop]
      exact (Nat.sub_le ..).trans fits
    exact serve_billed _ ⟨s.removePostings d, 0⟩ (removed.canonical held) rfl (removed.fits fitted)
      (posted.remove d) (listed.same rfl rfl)
  | openTab slot terminal cardSlot accountSlot c a hold _ free =>
    have out : ¬ (s.tabSlot slot).state.closes := by rw [free]; exact id
    refine ⟨canonical, fits, posted.same rfl rfl, listed.set out rfl (fun k ne => ?_) ?_, full⟩
    · exact State.tabSlot_setTabSlot_other s _ ne
    · have slots : ((s.openTab slot terminal cardSlot accountSlot a hold).tabSlot slot).state = .opened _ _ :=
        congrArg TabSlot.state (State.tabSlot_setTabSlot_self s slot _)
      rw [slots]
      exact id
  | grow slot x d a y lines hold opened =>
    have out : ¬ (s.tabSlot slot).state.closes := by rw [opened]; exact id
    refine ⟨canonical, fits, posted.same rfl rfl, listed.set out rfl (fun k ne => ?_) ?_, full⟩
    · exact State.tabSlot_setTabSlot_other s _ ne
    · have slots : ((s.grownTab slot x a y lines hold).tabSlot slot).state = .opened _ _ :=
        congrArg TabSlot.state (State.tabSlot_setTabSlot_self s slot _)
      rw [slots]
      exact id
  | settle slot x d r opened can =>
    have out : ¬ (s.tabSlot slot).state.closes := by rw [opened]; exact id
    refine ⟨canonical, fits, posted.settle slot x r, ?_, settle_full full slot r can⟩
    refine listed.set out (settle_waiting s slot x r) (fun k ne => settle_tabSlot_other s x r ne) ?_
    rw [settle_tabSlot_self]
    exact id
  | close slot x d r opened cannot =>
    have out : ¬ (s.tabSlot slot).state.closes := by rw [opened]; exact id
    simp only [State.canSettle, State.postRoom, Bool.or_eq_false_iff, decide_eq_false_iff_not, Nat.not_lt] at cannot
    exact ⟨canonical, fits, posted.same rfl rfl, listed.join out cannot.1,
      .inr (Nat.le_antisymm fitted.postings cannot.2)⟩

/-- An effect that leaves the Charge Engine. -/
theorem State.Billed.same (h : s.Billed) (canonical : t.Canonical) (fits : t.Fits) (engine : t.engine = s.engine) :
    t.Billed := by
  refine ⟨canonical, fits, ?_, h.listed.same (by rw [engine]) (by rw [engine]), ?_⟩
  · rw [engine]; exact h.posted
  · rw [State.Full, engine]; exact h.full

theorem StoreEffect.billed (e : StoreEffect s t) (h : s.Billed) : t.Billed := by
  have canonical := e.canonical h.canonical
  have fits := e.fits h.fits
  cases e with
  | move slot c new lane =>
    refine movePresence_keeps (P := State.Billed) (fun h _ => ?_) (fun _ _ e => e.billed) h
    exact h.same (relocate_canonical h.canonical) { h.fits with } rfl
  | door d g => exact h.same canonical fits (by rw [doorPut_frame])
  | _ => exact h.same canonical fits rfl

theorem awoken_closes (n : Nat) (x : TabSlot) : (x.awoken n).state.closes ↔ x.state.closes := by
  obtain ⟨generation, state⟩ := x
  cases state <;> exact Iff.rfl

theorem awoken_waits (n : Nat) (x : TabSlot) : (x.awoken n).state.waits ↔ x.state.waits := by
  obtain ⟨generation, state⟩ := x
  cases state <;> exact Iff.rfl

/-- A tab slot after a wake (R108). -/
theorem wakeStart_tabSlot (s : State) (k : Nat) :
    s.wakeStart.tabSlot k = (s.tabSlot k).awoken s.store.settings.tabIdleLimit := by
  show (Table.find (Table.mapEntries _ s.engine.tabs) k).getD TabSlot.cold = _
  rw [Table.find_mapEntries, State.tabSlot, Table.get]
  cases Table.find s.engine.tabs k <;> rfl

theorem StartEffect.billed (e : StartEffect s t) (h : s.Billed) : t.Billed := by
  have canonical := e.canonical h.canonical
  have fits := e.fits h.fits
  cases e with
  | cold v =>
    refine ⟨canonical, fits, ⟨⟨1, rfl⟩, fun _ => nofun, ⟨Nat.le_refl 1, Nat.le_add_left 1 _⟩, rfl⟩,
      ⟨.nil, fun _ => nofun, fun _ => False.elim⟩, .inl rfl⟩
  | wake =>
    have numbers : s.wakeStart.engine.postings.map Posting.number = s.engine.postings.map Posting.number := by
      simp [State.wakeStart, Posting.awoken, Function.comp_def]
    have order : deliveredFirst (s.engine.postings.map Posting.awoken) := by
      have same : (fun p : Posting => p.delivered) ∘ Posting.awoken = fun p => p.delivered := rfl
      rw [deliveredFirst, List.dropWhile_map, List.all_map, same]
      exact h.posted.order
    refine ⟨canonical, fits, h.posted.renamed numbers rfl order, ⟨h.listed.nodup, fun k hk => ?_, fun k hk => ?_⟩,
      h.full.imp id fun full => ?_⟩
    · rw [wakeStart_tabSlot, awoken_waits]
      exact h.listed.waits k hk
    · rw [wakeStart_tabSlot, awoken_closes] at hk
      exact h.listed.closes k hk
    · exact (List.length_map _).trans full

theorem Effect.billed (e : Effect s t) (h : s.Billed) : t.Billed := by
  have canonical := e.canonical h.canonical
  have fits := e.fits h.fits
  cases e with
  | clock e => exact h.same canonical fits (by rw [e.frame])
  | link e => exact h.same canonical fits (by rw [e.frame])
  | lane e => exact h.same canonical fits (by rw [e.frame])
  | door e => exact h.same canonical fits (by rw [e.frame])
  | store e => exact e.billed h
  | money e => exact e.billed h
  | start e => exact e.billed h

/-- Settles O60: the numbering by what appending, renaming and removing make of it, and the waiting list by what a
tab that opens, closes or settles makes of it. -/
theorem everyStepKeepsThePostingLaws : Obligations.EveryStepKeepsThePostingLaws := by
  unfold Obligations.EveryStepKeepsThePostingLaws
  intro s t h tables room posting waiting
  have canonical := s.tablesLaw_iff.mp tables
  obtain ⟨full, listed⟩ := (State.waitingLaw_iff canonical).mp waiting
  have billed : t.Billed := step_keeps (fun _ _ => Effect.billed) h
    ⟨canonical, s.roomLaw_iff.mp room, s.postingLaw_iff.mp posting, listed, full⟩
  exact ⟨t.postingLaw_iff.mpr billed.posted, (State.waitingLaw_iff billed.canonical).mpr ⟨billed.full, billed.listed⟩⟩

end Sys2Proof.Machine
end

section
/-! The tab pool and the balances: what every step keeps of them (R13, R80, R89, R91, R97). -/

namespace Sys2Proof.Machine

variable {s t : State}

/-! ## The tabs of the pool as a list -/

/-- The tabs that a pool holds. -/
def Table.tabsHeld (t : Table TabSlot) : List Tab := t.filterMap fun e => TabState.tab e.2.state

theorem Table.tabsHeld_cons (k : Nat) (v : TabSlot) (t : Table TabSlot) :
    Table.tabsHeld ((k, v) :: t) = v.state.tab.toList ++ t.tabsHeld := by
  unfold Table.tabsHeld
  cases tab : v.state.tab with
  | none => simp only [List.filterMap_cons, tab]; rfl
  | some x => simp only [List.filterMap_cons, tab]; rfl

/-- The tabs held are the one in a slot and those in the others. -/
theorem Table.tabsHeld_get {t : Table TabSlot} (rising : t.rising = true) (k : Nat) :
    t.tabsHeld.Perm ((Table.get TabSlot.cold t k).state.tab.toList ++ (Table.erase t k).tabsHeld) := by
  unfold Table.get
  cases found : t.find k with
  | none => rw [Table.erase_of_find_none found]; exact .refl _
  | some v =>
    have perm := (Table.perm_of_find rising found).filterMap fun e : Nat × TabSlot => TabState.tab e.2.state
    have cons := Table.tabsHeld_cons k v (Table.erase t k)
    exact perm.trans (.of_eq cons)

theorem Table.tabsHeld_set {t : Table TabSlot} (rising : t.rising = true) (k : Nat) (v : TabSlot) :
    (Table.set TabSlot.cold t k v).tabsHeld.Perm (v.state.tab.toList ++ (Table.erase t k).tabsHeld) := by
  unfold Table.set
  split
  next cold => rw [cold]; exact .refl _
  next =>
    have perm := (Table.put_perm rising k v).filterMap fun e : Nat × TabSlot => TabState.tab e.2.state
    exact perm.trans (.of_eq (Table.tabsHeld_cons k v (Table.erase t k)))

/-- The tabs outside one slot. -/
def State.otherTabs (s : State) (slot : Nat) : List Tab := (Table.erase s.engine.tabs slot).tabsHeld

theorem State.Canonical.tabsRising (h : s.Canonical) : s.engine.tabs.rising = true := by
  have tabs := h.tabs
  rw [Table.canonical, Bool.and_eq_true] at tabs
  exact tabs.1

theorem State.tabsHeld_split (h : s.Canonical) (slot : Nat) :
    s.engine.tabsHeld.Perm ((s.tabSlot slot).state.tab.toList ++ s.otherTabs slot) :=
  Table.tabsHeld_get h.tabsRising slot

theorem State.tabsHeld_setTabSlot (h : s.Canonical) (slot : Nat) (v : TabSlot) :
    (s.setTabSlot slot v).engine.tabsHeld.Perm (v.state.tab.toList ++ s.otherTabs slot) :=
  Table.tabsHeld_set h.tabsRising slot v

/-! ## What tabs hold of an account and a terminal -/

/-- The holds of the tabs that name an account slot. -/
def heldFor (xs : List Tab) (slot : Nat) : Nat := ((xs.filter fun x => x.accountSlot == slot).map Tab.hold).sum

/-- How many tabs name an account slot. -/
def namedBy (xs : List Tab) (slot : Nat) : Nat := (xs.filter fun x => x.accountSlot == slot).length

/-- How many tabs a terminal has. -/
def openAt (xs : List Tab) (terminal : Nat) : Nat := (xs.filter fun x => x.terminal == terminal).length

theorem heldFor_cons (x : Tab) (xs : List Tab) (k : Nat) :
    heldFor (x :: xs) k = (if x.accountSlot = k then x.hold else 0) + heldFor xs k := by
  unfold heldFor
  by_cases same : x.accountSlot = k <;> simp [same]

theorem namedBy_cons (x : Tab) (xs : List Tab) (k : Nat) :
    namedBy (x :: xs) k = (if x.accountSlot = k then 1 else 0) + namedBy xs k := by
  unfold namedBy
  by_cases same : x.accountSlot = k <;> simp [same, Nat.add_comm]

theorem openAt_cons (x : Tab) (xs : List Tab) (n : Nat) :
    openAt (x :: xs) n = (if x.terminal = n then 1 else 0) + openAt xs n := by
  unfold openAt
  by_cases same : x.terminal = n <;> simp [same, Nat.add_comm]

theorem heldFor_perm {xs ys : List Tab} (h : xs.Perm ys) (k : Nat) : heldFor xs k = heldFor ys k :=
  ((h.filter _).map _).sum_nat

theorem namedBy_perm {xs ys : List Tab} (h : xs.Perm ys) (k : Nat) : namedBy xs k = namedBy ys k :=
  (h.filter _).length_eq

theorem openAt_perm {xs ys : List Tab} (h : xs.Perm ys) (n : Nat) : openAt xs n = openAt ys n :=
  (h.filter _).length_eq

theorem heldFor_of_unnamed {xs : List Tab} {k : Nat} (h : ∀ x ∈ xs, x.accountSlot ≠ k) :
    heldFor xs k = 0 ∧ namedBy xs k = 0 := by
  have none : xs.filter (fun x => x.accountSlot == k) = [] :=
    List.filter_eq_nil_iff.mpr fun x hx => by simpa using h x hx
  simp [heldFor, namedBy, none]

theorem unnamed_of_namedBy {xs : List Tab} {k : Nat} (h : namedBy xs k = 0) : ∀ x ∈ xs, x.accountSlot ≠ k := by
  intro x hx same
  exact List.filter_eq_nil_iff.mp (List.length_eq_zero_iff.mp h) x hx (by simpa using same)

/-! ## The pool (R89) -/

/-- Accounts, terminals and tables stand for these tabs. -/
structure State.Pooled (s : State) (xs : List Tab) : Prop where
  accounts : ∀ k a, s.store.accounts.find k = some a →
    a.held = heldFor xs k ∧ a.openTabs = namedBy xs k ∧ namedBy xs k ≤ 2
  terminals : ∀ n < 64, s.terminalTabs n = openAt xs n ∧ openAt xs n ≤ 8
  covers : ∀ x ∈ xs, x.sums.total ≤ x.hold
  cards : ∀ x ∈ xs, (s.store.cards.find x.cardSlot).isSome = true
  named : ∀ x ∈ xs, (s.store.accounts.find x.accountSlot).isSome = true

theorem State.poolLaw_iff (rising : s.store.accounts.rising = true) :
    s.poolLaw = true ↔ s.Pooled s.engine.tabsHeld := by
  simp only [State.poolLaw, Bool.and_eq_true, List.all_eq_true, decide_eq_true_eq, List.mem_range]
  constructor
  · rintro ⟨⟨accounts, terminals⟩, tabs⟩
    exact ⟨fun k a found => by
        obtain ⟨⟨held, count⟩, two⟩ := accounts _ (Table.mem_of_find found)
        exact ⟨held, count, two⟩,
      terminals, fun x hx => (tabs x hx).1.1, fun x hx => (tabs x hx).1.2, fun x hx => (tabs x hx).2⟩
  · intro h
    refine ⟨⟨fun e he => ?_, h.terminals⟩, fun x hx => ⟨⟨h.covers x hx, h.cards x hx⟩, h.named x hx⟩⟩
    obtain ⟨held, count, two⟩ := h.accounts e.1 e.2 (Table.find_of_mem rising he)
    exact ⟨⟨held, count⟩, two⟩

namespace State.Pooled

variable {xs ys : List Tab} {x y : Tab} {a b : Account}

theorem perm (h : s.Pooled xs) (p : xs.Perm ys) : s.Pooled ys where
  accounts k a found := by rw [← heldFor_perm p, ← namedBy_perm p]; exact h.accounts k a found
  terminals n hn := by rw [← openAt_perm p]; exact h.terminals n hn
  covers z hz := h.covers z (p.mem_iff.mpr hz)
  cards z hz := h.cards z (p.mem_iff.mpr hz)
  named z hz := h.named z (p.mem_iff.mpr hz)

/-- Other tables that stand for the same tabs. -/
theorem same (h : s.Pooled xs) (accounts : t.store.accounts = s.store.accounts)
    (terminals : t.engine.terminalTabs = s.engine.terminalTabs)
    (cards : ∀ x ∈ xs, (t.store.cards.find x.cardSlot).isSome = true) : t.Pooled xs where
  accounts := by rw [accounts]; exact h.accounts
  terminals := by simp only [State.terminalTabs, terminals]; exact h.terminals
  covers := h.covers
  cards := cards
  named := by rw [accounts]; exact h.named

/-- An account is written whose held amount and open tab count stay. -/
theorem account (h : s.Pooled xs) {k : Nat} (found : s.store.accounts.find k = some a) (held : b.held = a.held)
    (openTabs : b.openTabs = a.openTabs) (accounts : t.store.accounts = Table.put s.store.accounts k b)
    (terminals : t.engine.terminalTabs = s.engine.terminalTabs) (cards : t.store.cards = s.store.cards) :
    t.Pooled xs where
  accounts j c hc := by
    rw [accounts] at hc
    by_cases same : j = k
    · subst same
      rw [Table.find_put_self] at hc
      cases hc
      rw [held, openTabs]
      exact h.accounts j a found
    · rw [Table.find_put_other _ _ same] at hc
      exact h.accounts j c hc
  terminals := by simp only [State.terminalTabs, terminals]; exact h.terminals
  covers := h.covers
  cards := by rw [cards]; exact h.cards
  named z hz := by
    rw [accounts]
    by_cases same : z.accountSlot = k
    · rw [same, Table.find_put_self]; rfl
    · rw [Table.find_put_other _ _ same]; exact h.named z hz

/-- A tab joins the pool: its account and its terminal count it. -/
theorem cons (h : s.Pooled xs) (found : s.store.accounts.find x.accountSlot = some a) (held : b.held = a.held + x.hold)
    (openTabs : b.openTabs = a.openTabs + 1) (two : a.openTabs < 2) (eight : s.terminalTabs x.terminal < 8)
    (range : x.terminal < 64) (covers : x.sums.total ≤ x.hold)
    (card : (s.store.cards.find x.cardSlot).isSome = true)
    (accounts : t.store.accounts = Table.put s.store.accounts x.accountSlot b)
    (self : t.terminalTabs x.terminal = s.terminalTabs x.terminal + 1)
    (others : ∀ n, n ≠ x.terminal → t.terminalTabs n = s.terminalTabs n) (cards : t.store.cards = s.store.cards) :
    t.Pooled (x :: xs) where
  accounts j c hc := by
    rw [accounts] at hc
    rw [heldFor_cons, namedBy_cons]
    by_cases same : j = x.accountSlot
    · rw [same, Table.find_put_self] at hc
      cases hc
      obtain ⟨sum, count, -⟩ := h.accounts _ a found
      rw [same, if_pos rfl, if_pos rfl, ← sum, ← count]
      omega
    · rw [Table.find_put_other _ _ same] at hc
      rw [if_neg (Ne.symm same), if_neg (Ne.symm same), Nat.zero_add, Nat.zero_add]
      exact h.accounts j c hc
  terminals n hn := by
    obtain ⟨count, -⟩ := h.terminals n hn
    rw [openAt_cons]
    by_cases same : n = x.terminal
    · subst same
      rw [if_pos rfl, self]
      omega
    · rw [if_neg (Ne.symm same), others n same, Nat.zero_add]
      exact h.terminals n hn
  covers z hz := by
    rcases List.mem_cons.mp hz with rfl | hz
    · exact covers
    · exact h.covers z hz
  cards z hz := by
    rw [cards]
    rcases List.mem_cons.mp hz with rfl | hz
    · exact card
    · exact h.cards z hz
  named z hz := by
    rw [accounts]
    by_cases same : z.accountSlot = x.accountSlot
    · rw [same, Table.find_put_self]; rfl
    · rw [Table.find_put_other _ _ same]
      rcases List.mem_cons.mp hz with rfl | hz
      · exact absurd rfl same
      · exact h.named z hz

/-- A tab leaves the pool: its account and its terminal count it no more. -/
theorem uncons (h : s.Pooled (x :: xs)) (found : s.store.accounts.find x.accountSlot = some a)
    (held : b.held = a.held - x.hold) (openTabs : b.openTabs = a.openTabs - 1)
    (accounts : t.store.accounts = Table.put s.store.accounts x.accountSlot b)
    (self : t.terminalTabs x.terminal = s.terminalTabs x.terminal - 1)
    (others : ∀ n, n ≠ x.terminal → t.terminalTabs n = s.terminalTabs n) (cards : t.store.cards = s.store.cards) :
    t.Pooled xs where
  accounts j c hc := by
    rw [accounts] at hc
    by_cases same : j = x.accountSlot
    · rw [same, Table.find_put_self] at hc
      cases hc
      have old := h.accounts _ a found
      rw [heldFor_cons, namedBy_cons, if_pos rfl, if_pos rfl] at old
      rw [same]
      omega
    · rw [Table.find_put_other _ _ same] at hc
      have old := h.accounts j c hc
      rwa [heldFor_cons, namedBy_cons, if_neg (Ne.symm same), if_neg (Ne.symm same), Nat.zero_add, Nat.zero_add]
        at old
  terminals n hn := by
    have old := h.terminals n hn
    rw [openAt_cons] at old
    by_cases same : n = x.terminal
    · subst same
      rw [if_pos rfl] at old
      rw [self]
      omega
    · rw [if_neg (Ne.symm same), Nat.zero_add] at old
      rw [others n same]
      exact old
  covers z hz := h.covers z (List.mem_cons_of_mem _ hz)
  cards z hz := by rw [cards]; exact h.cards z (List.mem_cons_of_mem _ hz)
  named z hz := by
    rw [accounts]
    by_cases same : z.accountSlot = x.accountSlot
    · rw [same, Table.find_put_self]; rfl
    · rw [Table.find_put_other _ _ same]; exact h.named z (List.mem_cons_of_mem _ hz)

/-- A tab grows: its hold and its account's held amount grow alike. -/
theorem grow (h : s.Pooled (x :: xs)) (found : s.store.accounts.find x.accountSlot = some a)
    (accountSlot : y.accountSlot = x.accountSlot) (cardSlot : y.cardSlot = x.cardSlot)
    (terminal : y.terminal = x.terminal) (grows : x.hold ≤ y.hold) (held : b.held = a.held + (y.hold - x.hold))
    (openTabs : b.openTabs = a.openTabs) (covers : y.sums.total ≤ y.hold)
    (accounts : t.store.accounts = Table.put s.store.accounts x.accountSlot b)
    (terminals : t.engine.terminalTabs = s.engine.terminalTabs) (cards : t.store.cards = s.store.cards) :
    t.Pooled (y :: xs) where
  accounts j c hc := by
    rw [accounts] at hc
    rw [heldFor_cons, namedBy_cons, accountSlot]
    by_cases same : j = x.accountSlot
    · rw [same, Table.find_put_self] at hc
      cases hc
      have old := h.accounts _ a found
      rw [heldFor_cons, namedBy_cons, if_pos rfl, if_pos rfl] at old
      rw [same, if_pos rfl, if_pos rfl]
      omega
    · rw [Table.find_put_other _ _ same] at hc
      have old := h.accounts j c hc
      rw [heldFor_cons, namedBy_cons, if_neg (Ne.symm same)] at old
      rw [if_neg (Ne.symm same)]
      exact old
  terminals n hn := by
    have old := h.terminals n hn
    rw [openAt_cons] at old ⊢
    rw [State.terminalTabs, terminals, terminal]
    exact old
  covers z hz := by
    rcases List.mem_cons.mp hz with rfl | hz
    · exact covers
    · exact h.covers z (List.mem_cons_of_mem _ hz)
  cards z hz := by
    rw [cards]
    rcases List.mem_cons.mp hz with rfl | hz
    · rw [cardSlot]; exact h.cards x (List.mem_cons_self ..)
    · exact h.cards z (List.mem_cons_of_mem _ hz)
  named z hz := by
    rw [accounts]
    by_cases same : z.accountSlot = x.accountSlot
    · rw [same, Table.find_put_self]; rfl
    · rw [Table.find_put_other _ _ same]
      rcases List.mem_cons.mp hz with rfl | hz
      · exact absurd accountSlot same
      · exact h.named z (List.mem_cons_of_mem _ hz)

end State.Pooled

/-! ## Balances (R13, R14, R80) -/

/-- Every account's limit and balance in their range. -/
def State.Lawful (s : State) : Prop := ∀ e ∈ s.store.accounts, e.2.Lawful

theorem State.balanceLaw_iff (s : State) : s.balanceLaw = true ↔ s.Lawful := by
  simp only [State.balanceLaw, State.Lawful, Account.Lawful, List.all_eq_true, Bool.and_eq_true, decide_eq_true_eq,
    and_assoc]

theorem Account.Lawful.hold {a b : Account} (h : a.Lawful) {n : Nat} (available : n ≤ a.available)
    (limit : b.limit = a.limit) (balance : b.balance = a.balance) (held : b.held = a.held + n) : b.Lawful := by
  obtain ⟨top, low, high⟩ := h
  simp only [Account.available] at available
  rw [Account.Lawful, limit, balance, held]
  omega

theorem Account.Lawful.settled {a : Account} (h : a.Lawful) {x : Tab} (covers : x.sums.total ≤ x.hold)
    (held : x.hold ≤ a.held) : (a.settled x).Lawful := by
  obtain ⟨top, low, high⟩ := h
  simp only [Account.Lawful, Account.settled]
  omega

theorem State.Lawful.put (h : s.Lawful) {k : Nat} {b : Account} (lawful : b.Lawful)
    (accounts : t.store.accounts = Table.put s.store.accounts k b) : t.Lawful := by
  intro e he
  rw [accounts] at he
  rcases Table.mem_put he with rfl | old
  · exact lawful
  · exact h e old

theorem State.Lawful.same (h : s.Lawful) (accounts : t.store.accounts = s.store.accounts) : t.Lawful := by
  rw [State.Lawful, accounts]
  exact h

/-! ## The money effects -/

/-- The pool and the balances in agreement, over tables in canonical form. -/
structure State.Balanced (s : State) : Prop where
  canonical : s.Canonical
  pooled : s.Pooled s.engine.tabsHeld
  lawful : s.Lawful

theorem State.Balanced.split (h : s.Balanced) {slot : Nat} {x : Tab} (tab : (s.tabSlot slot).state.tab = some x) :
    s.Pooled (x :: s.otherTabs slot) := by
  have perm := State.tabsHeld_split h.canonical slot
  rw [tab] at perm
  exact h.pooled.perm perm

/-- The same accounts, terminals, tabs and cards. -/
theorem State.Balanced.same (h : s.Balanced) (canonical : t.Canonical)
    (accounts : t.store.accounts = s.store.accounts) (terminals : t.engine.terminalTabs = s.engine.terminalTabs)
    (tabs : t.engine.tabs = s.engine.tabs)
    (cards : ∀ x ∈ s.engine.tabsHeld, (t.store.cards.find x.cardSlot).isSome = true) : t.Balanced := by
  refine ⟨canonical, ?_, h.lawful.same accounts⟩
  rw [Engine.tabsHeld, tabs]
  exact h.pooled.same accounts terminals cards

theorem appendPosting_balanced (h : s.Balanced) (p : Posting) (canonical : (s.appendPosting p).Canonical) :
    (s.appendPosting p).Balanced :=
  h.same canonical (by rw [appendPosting_store]) (by rw [appendPosting_engine]) (by rw [appendPosting_engine])
    (by rw [appendPosting_store]; exact h.pooled.cards)

theorem releaseTab_store {a : Account} (slot : Nat) (x : Tab)
    (found : s.store.accounts.find x.accountSlot = some a) : (s.releaseTab slot x).store =
      { s.store with accounts := Table.put s.store.accounts x.accountSlot (a.settled x) } := by
  unfold State.releaseTab
  dsimp only
  rw [found]
  rfl

theorem releaseTab_balanced (h : s.Balanced) {slot : Nat} {x : Tab} (tab : (s.tabSlot slot).state.tab = some x) :
    (s.releaseTab slot x).Balanced := by
  have split := h.split tab
  have first : x ∈ x :: s.otherTabs slot := List.mem_cons_self ..
  obtain ⟨a, found⟩ := Option.isSome_iff_exists.mp (split.named x first)
  have store := releaseTab_store slot x found
  have accounts : (s.releaseTab slot x).store.accounts = Table.put s.store.accounts x.accountSlot (a.settled x) := by
    rw [store]
  have terminals (n : Nat) : (s.releaseTab slot x).terminalTabs n =
      Table.get 0 (Table.set 0 s.engine.terminalTabs x.terminal (s.terminalTabs x.terminal - 1)) n := by
    rw [State.terminalTabs, releaseTab_engine]
  refine ⟨(releaseTab_moneyRun s slot x).canonical h.canonical, ?_, ?_⟩
  · have pool : (s.releaseTab slot x).Pooled (s.otherTabs slot) := by
      refine split.uncons found rfl rfl accounts ?_ (fun n ne => ?_) (by rw [store])
      · rw [terminals, Table.get_set_self]
      · rw [terminals, Table.get_set_other _ _ _ ne]; rfl
    have tabs : (s.releaseTab slot x).engine.tabsHeld.Perm (s.otherTabs slot) := by
      rw [releaseTab_engine]
      exact State.tabsHeld_setTabSlot h.canonical slot { s.tabSlot slot with state := .free }
    exact pool.perm tabs.symm
  · have held := (split.accounts _ a found).1
    rw [heldFor_cons, if_pos rfl] at held
    have within : x.hold ≤ a.held := by omega
    have lawful := (h.lawful _ (Table.mem_of_find found)).settled (split.covers x first) within
    exact h.lawful.put lawful accounts

theorem settle_balanced (h : s.Balanced) {slot : Nat} {x : Tab} (r : CloseReason)
    (tab : (s.tabSlot slot).state.tab = some x) (can : s.canSettle x = true) : (s.settle slot x r).Balanced := by
  unfold State.settle
  split
  · exact releaseTab_balanced h tab
  next some =>
    have room : s.postRoom = true := by simpa [State.canSettle, some] using can
    have appended := appendPosting_balanced h (s.settleRecord x r)
      ((appendPosting_moneyRun _ room).canonical h.canonical)
    refine releaseTab_balanced appended ?_
    rw [appendPosting_tabSlot]
    exact tab

theorem serve_balanced : ∀ (xs : List Nat) (v : Served), v.state.Balanced → (Served.go xs v).state.Balanced
  | [], _, h => h
  | slot :: rest, v, h => by
    rw [Served.go]
    split
    next x r state =>
      split
      next can =>
        have taken : MoneyRun v.state { v.state with engine := { v.state.engine with waiting := rest } } :=
          .queues v.state.engine.postings rest _ _ id .refl
        have shorter : State.Balanced { v.state with engine := { v.state.engine with waiting := rest } } :=
          h.same (taken.canonical h.canonical) rfl rfl rfl h.pooled.cards
        have tab : (v.state.tabSlot slot).state.tab = some x := by rw [state]; rfl
        exact serve_balanced rest ⟨_, v.settled + 1⟩ (settle_balanced shorter r tab can)
      next => exact h
    next => exact h

theorem MoneyEffect.balanced (e : MoneyEffect s t) (h : s.Balanced) : t.Balanced := by
  have canonical := e.moneyRun.canonical h.canonical
  cases e with
  | append p => exact appendPosting_balanced h p canonical
  | postings ps => exact h.same canonical rfl rfl rfl h.pooled.cards
  | release d =>
    have removed : MoneyRun s (s.removePostings d) := by
      refine .queues (s.engine.postings.drop (d + 1)) s.engine.waiting _ _ (fun fits => ?_) .refl
      rw [List.length_drop]
      exact (Nat.sub_le ..).trans fits
    exact serve_balanced _ ⟨s.removePostings d, 0⟩
      (h.same (removed.canonical h.canonical) rfl rfl rfl h.pooled.cards)
  | openTab slot terminal cardSlot accountSlot c a hold _ free range card _ account two eight available =>
    have found := Table.find_of_mem h.canonical.accounts account
    have others : s.engine.tabsHeld.Perm (s.otherTabs slot) := by
      have perm := State.tabsHeld_split h.canonical slot
      rwa [free] at perm
    have tabs := State.tabsHeld_setTabSlot h.canonical slot ⟨((s.tabSlot slot).generation + 1) % 256,
      .opened ⟨terminal, cardSlot, accountSlot, hold, Sums.zero, 0, s.clock.runSeconds⟩ s.idleDeadline⟩
    have lawful := (h.lawful _ account).hold (b := a.openTab hold) available rfl rfl rfl
    refine ⟨canonical, ?_, h.lawful.put lawful rfl⟩
    refine (State.Pooled.cons (t := s.openTab slot terminal cardSlot accountSlot a hold) (b := a.openTab hold) (h.pooled.perm others)
      found rfl rfl two eight range (Nat.zero_le _) ?_ rfl ?_ (fun n ne => ?_) rfl).perm tabs.symm
    · rw [Table.find_of_mem h.canonical.cards card]; rfl
    · exact Table.get_set_self 0 s.engine.terminalTabs terminal (s.terminalTabs terminal + 1)
    · exact Table.get_set_other 0 s.engine.terminalTabs (s.terminalTabs terminal + 1) ne
  | grow slot x d a y lines hold opened account grows covers available =>
    have found := Table.find_of_mem h.canonical.accounts account
    have tab : (s.tabSlot slot).state.tab = some x := by rw [opened]; rfl
    have tabs := State.tabsHeld_setTabSlot h.canonical slot { s.tabSlot slot with
      state := .opened (x.added y lines hold s.clock.runSeconds) s.idleDeadline }
    have lawful := (h.lawful _ account).hold (b := { a with held := a.held + (hold - x.hold) }) available rfl rfl rfl
    refine ⟨canonical, ?_, h.lawful.put lawful rfl⟩
    have grown := State.Pooled.grow (t := s.grownTab slot x a y lines hold)
      (y := x.added y lines hold s.clock.runSeconds) (b := { a with held := a.held + (hold - x.hold) })
      (h.split tab) found rfl rfl rfl grows rfl rfl covers rfl rfl rfl
    exact grown.perm tabs.symm
  | settle slot x d r opened can =>
    exact settle_balanced h r (by rw [opened]; rfl) can
  | close slot x d r opened =>
    have tab : (s.tabSlot slot).state.tab = some x := by rw [opened]; rfl
    have tabs := State.tabsHeld_setTabSlot h.canonical slot { s.tabSlot slot with state := .closing x r }
    have split := h.split tab
    exact ⟨canonical, (split.same (t := s.closeTab slot x r) rfl rfl split.cards).perm tabs.symm, h.lawful.same rfl⟩

/-! ## The store and the starts -/

theorem find_put_isSome {α : Type} {t : Table α} {j k : Nat} (v : α) (h : (t.find k).isSome = true) :
    ((Table.put t j v).find k).isSome = true := by
  by_cases same : k = j
  · rw [same, Table.find_put_self]; rfl
  · rw [Table.find_put_other _ _ same]; exact h

theorem find_mapEntries_isSome {α : Type} {t : Table α} {k : Nat} (f : α → α) (h : (t.find k).isSome = true) :
    ((Table.mapEntries f t).find k).isSome = true := by
  rw [Table.find_mapEntries, Option.isSome_map]
  exact h

/-- A card without a tab is named by none. -/
theorem unnamed_of_cardHasTab {slot : Nat} (h : s.engine.cardHasTab slot = false) :
    ∀ x ∈ s.engine.tabsHeld, x.cardSlot ≠ slot := by
  intro x hx same
  obtain ⟨e, he, tab⟩ := List.mem_filterMap.mp hx
  have none := List.any_eq_false.mp h e he
  rw [tab] at none
  exact none (by simpa using same)

theorem newAccount_pooled {slot number limit : Nat} {status : AccountStatus} (h : s.Pooled s.engine.tabsHeld)
    (free : s.store.accounts.find slot = none) :
    (s.setAccount slot ⟨number, limit, status, 0, 0, 0, none⟩).Pooled s.engine.tabsHeld where
  accounts k a found := by
    by_cases same : k = slot
    · subst same
      replace found : (Table.put s.store.accounts k _).find k = some a := found
      rw [Table.find_put_self] at found
      cases found
      obtain ⟨sum, count⟩ := heldFor_of_unnamed (xs := s.engine.tabsHeld) (k := k) fun x hx same => by
        have named := h.named x hx
        rw [same, free] at named
        cases named
      rw [sum, count]
      exact ⟨rfl, rfl, Nat.zero_le 2⟩
    · replace found : (Table.put s.store.accounts slot _).find k = some a := found
      rw [Table.find_put_other _ _ same] at found
      exact h.accounts k a found
  terminals := h.terminals
  covers := h.covers
  cards := h.cards
  named x hx := find_put_isSome _ (h.named x hx)

theorem removeAccount_pooled {slot : Nat} {a : Account} (h : s.Pooled s.engine.tabsHeld)
    (found : s.store.accounts.find slot = some a) (none : a.openTabs = 0) : State.Pooled { s with
      store := { s.store with accounts := Table.erase s.store.accounts slot } } s.engine.tabsHeld where
  accounts k b hb := by
    by_cases same : k = slot
    · subst same
      rw [Table.find_erase_self] at hb
      cases hb
    · rw [Table.find_erase_other _ same] at hb
      exact h.accounts k b hb
  terminals := h.terminals
  covers := h.covers
  cards := h.cards
  named x hx := by
    have count := (h.accounts slot a found).2.1
    have other := unnamed_of_namedBy (count.symm.trans none) x hx
    rw [Table.find_erase_other _ other]
    exact h.named x hx

theorem StoreEffect.balanced (e : StoreEffect s t) (h : s.Balanced) : t.Balanced := by
  have canonical := e.canonical h.canonical
  have put (slot : Nat) (d : Card) (x : Tab) (hx : x ∈ s.engine.tabsHeld) :
      ((Table.put s.store.cards slot d).find x.cardSlot).isSome = true := find_put_isSome d (h.pooled.cards x hx)
  have mapped (f : Card → Card) (x : Tab) (hx : x ∈ s.engine.tabsHeld) :
      ((Table.mapEntries f s.store.cards).find x.cardSlot).isSome = true :=
    find_mapEntries_isSome f (h.pooled.cards x hx)
  cases e with
  | newCard slot => exact h.same canonical rfl rfl rfl (put slot _)
  | changeCard slot c g => exact h.same canonical rfl rfl rfl (put slot _)
  | card slot c d => exact h.same canonical rfl rfl rfl (put slot d)
  | rolled => exact h.same canonical rfl rfl rfl (mapped _)
  | removeCard slot c held tabs =>
    refine h.same canonical rfl rfl rfl fun x hx => ?_
    show ((Table.erase s.store.cards slot).find x.cardSlot).isSome = true
    rw [Table.find_erase_other _ (unnamed_of_cardHasTab tabs x hx)]
    exact h.pooled.cards x hx
  | move slot c new lane =>
    refine movePresence_keeps (P := State.Balanced) (fun h _ => ?_) (fun _ _ e => e.balanced) h
    exact h.same (relocate_canonical h.canonical) rfl rfl rfl (put slot _)
  | newAccount slot number limit status _ free range =>
    have lawful : (⟨number, limit, status, 0, 0, 0, none⟩ : Account).Lawful := by
      simp only [Account.Lawful]
      omega
    exact ⟨canonical, newAccount_pooled h.pooled (Table.find_freeSlot h.canonical.accounts free),
      h.lawful.put lawful rfl⟩
  | account slot a b held same =>
    exact ⟨canonical, h.pooled.account (Table.find_of_mem h.canonical.accounts held) same.held same.openTabs rfl rfl
      rfl, h.lawful.put (same.lawful (h.lawful _ held)) rfl⟩
  | removeAccount slot a held unnamed tabs =>
    exact ⟨canonical, removeAccount_pooled h.pooled (Table.find_of_mem h.canonical.accounts held) tabs,
      fun e he => h.lawful e (List.mem_of_mem_filter he)⟩
  | door d g =>
    refine h.same canonical ?_ ?_ ?_ ?_
    · rw [doorPut_store]
    · rw [doorPut_frame]
    · rw [doorPut_frame]
    · rw [doorPut_store]; exact h.pooled.cards
  | tier n x =>
    refine h.same canonical rfl rfl rfl fun y hy => ?_
    show ((if _ then _ else _ : Table Card).find y.cardSlot).isSome = true
    split
    · exact mapped _ y hy
    · exact h.pooled.cards y hy
  | _ => exact h.same canonical rfl rfl rfl h.pooled.cards

/-- A tab without its last activity: what the pool counts of it. -/
def Tab.stake (x : Tab) : Tab := { x with lastActivity := 0 }

theorem stakes_awoken (n : Nat) (t : Table TabSlot) :
    (Table.mapEntries (TabSlot.awoken n) t).tabsHeld.map Tab.stake = t.tabsHeld.map Tab.stake := by
  induction t with
  | nil => rfl
  | cons e t ih =>
    obtain ⟨k, v⟩ := e
    have head : (v.awoken n).state.tab.toList.map Tab.stake = v.state.tab.toList.map Tab.stake := by
      obtain ⟨generation, state⟩ := v
      cases state <;> rfl
    have cons : Table.mapEntries (TabSlot.awoken n) ((k, v) :: t) =
        (k, v.awoken n) :: Table.mapEntries (TabSlot.awoken n) t := rfl
    rw [cons, Table.tabsHeld_cons, Table.tabsHeld_cons, List.map_append, List.map_append, head, ih]

theorem heldFor_stakes (xs : List Tab) (k : Nat) : heldFor (xs.map Tab.stake) k = heldFor xs k := by
  induction xs with
  | nil => rfl
  | cons x xs ih => rw [List.map_cons, heldFor_cons, heldFor_cons, ih]; rfl

theorem namedBy_stakes (xs : List Tab) (k : Nat) : namedBy (xs.map Tab.stake) k = namedBy xs k := by
  induction xs with
  | nil => rfl
  | cons x xs ih => rw [List.map_cons, namedBy_cons, namedBy_cons, ih]; rfl

theorem openAt_stakes (xs : List Tab) (n : Nat) : openAt (xs.map Tab.stake) n = openAt xs n := by
  induction xs with
  | nil => rfl
  | cons x xs ih => rw [List.map_cons, openAt_cons, openAt_cons, ih]; rfl

theorem State.pooled_stakes (s : State) (xs : List Tab) : s.Pooled (xs.map Tab.stake) ↔ s.Pooled xs := by
  constructor
  · intro h
    refine ⟨fun k a found => ?_, fun n hn => ?_, fun x hx => h.covers x.stake (List.mem_map_of_mem hx),
      fun x hx => h.cards x.stake (List.mem_map_of_mem hx), fun x hx => h.named x.stake (List.mem_map_of_mem hx)⟩
    · rw [← heldFor_stakes, ← namedBy_stakes]; exact h.accounts k a found
    · rw [← openAt_stakes]; exact h.terminals n hn
  · intro h
    refine ⟨fun k a found => ?_, fun n hn => ?_, ?_, ?_, ?_⟩
    · rw [heldFor_stakes, namedBy_stakes]; exact h.accounts k a found
    · rw [openAt_stakes]; exact h.terminals n hn
    · simpa [Tab.stake] using h.covers
    · simpa [Tab.stake] using h.cards
    · simpa [Tab.stake] using h.named

theorem wakeStart_pooled (h : s.Pooled s.engine.tabsHeld) : s.wakeStart.Pooled s.wakeStart.engine.tabsHeld := by
  have stakes : s.wakeStart.engine.tabsHeld.map Tab.stake = s.engine.tabsHeld.map Tab.stake :=
    stakes_awoken _ s.engine.tabs
  rw [← State.pooled_stakes, stakes, State.pooled_stakes]
  refine ⟨fun k a found => ?_, h.terminals, h.covers, fun x hx => find_mapEntries_isSome _ (h.cards x hx),
    fun x hx => find_mapEntries_isSome _ (h.named x hx)⟩
  replace found : (Table.mapEntries Account.awoken s.store.accounts).find k = some a := found
  rw [Table.find_mapEntries] at found
  obtain ⟨b, hb, rfl⟩ := Option.map_eq_some_iff.mp found
  exact h.accounts k b hb

theorem Effect.balanced (e : Effect s t) (h : s.Balanced) : t.Balanced := by
  have canonical := e.canonical h.canonical
  cases e with
  | clock e => rw [e.frame] at canonical ⊢; exact h.same canonical rfl rfl rfl h.pooled.cards
  | link e => rw [e.frame] at canonical ⊢; exact h.same canonical rfl rfl rfl h.pooled.cards
  | lane e => rw [e.frame] at canonical ⊢; exact h.same canonical rfl rfl rfl h.pooled.cards
  | door e => rw [e.frame] at canonical ⊢; exact h.same canonical rfl rfl rfl h.pooled.cards
  | store e => exact e.balanced h
  | money e => exact e.balanced h
  | start e =>
    cases e with
    | cold v =>
      refine ⟨canonical, ⟨fun _ _ => nofun, fun n hn => ⟨rfl, Nat.zero_le 8⟩, fun _ => nofun, fun _ => nofun,
        fun _ => nofun⟩, fun _ => nofun⟩
    | wake =>
      refine ⟨canonical, wakeStart_pooled h.pooled, fun e he => ?_⟩
      obtain ⟨x, hx, rfl⟩ := List.mem_map.mp he
      exact h.lawful x hx

end Sys2Proof.Machine
end

section
/-! OPEN tabs and the cards they name (R97), and the money laws together. -/

namespace Sys2Proof.Machine

variable {s t : State}

/-- A card stands aboard in a slot of the card table. -/
def Table.holdsAboard (t : Table Card) (slot : Nat) : Prop := ∃ c, t.find slot = some c ∧ c.presence.aboardShip = true

/-- Every OPEN tab outside a list of tab slots names a card aboard; the tabs in the list name one card slot. -/
structure State.AboardBut (s : State) (cardSlot : Nat) (slots : List Nat) : Prop where
  canonical : s.Canonical
  tabs : ∀ k x d, (s.tabSlot k).state = .opened x d →
    s.store.cards.holdsAboard x.cardSlot ∨ x.cardSlot = cardSlot ∧ k ∈ slots

/-- Every OPEN tab names a card aboard (R97). -/
structure State.AllAboard (s : State) : Prop where
  canonical : s.Canonical
  tabs : ∀ k x d, (s.tabSlot k).state = .opened x d → s.store.cards.holdsAboard x.cardSlot

theorem State.mem_tabs_of_opened {k d : Nat} {x : Tab} (h : (s.tabSlot k).state = .opened x d) :
    (k, s.tabSlot k) ∈ s.engine.tabs := by
  rw [State.tabSlot, Table.get] at h ⊢
  cases found : s.engine.tabs.find k with
  | none => rw [found] at h; cases h
  | some v => exact Table.mem_of_find found

theorem State.tabSlot_of_mem (h : s.Canonical) {k : Nat} {v : TabSlot} (hv : (k, v) ∈ s.engine.tabs) :
    s.tabSlot k = v := by
  rw [State.tabSlot, Table.get, Table.find_of_mem h.tabsRising hv, Option.getD_some]

theorem State.aboardLaw_iff (h : s.Canonical) : s.aboardLaw = true ↔ s.AllAboard := by
  simp only [State.aboardLaw, List.all_eq_true]
  constructor
  · refine fun law => ⟨h, fun k x d opened => ?_⟩
    have held := law _ (State.mem_tabs_of_opened opened)
    rw [opened] at held
    exact Option.any_eq_true _ _ |>.mp held
  · intro law e he
    split
    next x d opened =>
      have held := law.tabs e.1 x d (by rw [State.tabSlot_of_mem h he]; exact opened)
      exact Option.any_eq_true _ _ |>.mpr held
    next => rfl

namespace State.AllAboard

/-- Tabs that are OPEN only where they were, over cards that stay aboard. -/
theorem mono (h : s.AllAboard) (canonical : t.Canonical)
    (cards : ∀ slot, s.store.cards.holdsAboard slot → t.store.cards.holdsAboard slot)
    (tabs : ∀ k x d, (t.tabSlot k).state = .opened x d → ∃ y e, (s.tabSlot k).state = .opened y e ∧
      y.cardSlot = x.cardSlot) : t.AllAboard := by
  refine ⟨canonical, fun k x d opened => ?_⟩
  obtain ⟨y, e, before, same⟩ := tabs k x d opened
  exact same ▸ cards _ (h.tabs k y e before)

theorem same (h : s.AllAboard) (canonical : t.Canonical)
    (cards : ∀ slot, s.store.cards.holdsAboard slot → t.store.cards.holdsAboard slot)
    (tabs : t.engine.tabs = s.engine.tabs) : t.AllAboard :=
  h.mono canonical cards fun k x d opened => ⟨x, d, by rw [← tabSlot_congr tabs]; exact opened, rfl⟩

end State.AllAboard

/-! ## The money effects -/

/-- The tabs that settling leaves open were open before. -/
theorem opened_of_settle {slot k d : Nat} {x y : Tab} {r : CloseReason}
    (h : ((s.settle slot x r).tabSlot k).state = .opened y d) : k ≠ slot ∧ (s.tabSlot k).state = .opened y d := by
  by_cases same : k = slot
  · rw [same, settle_tabSlot_self] at h
    cases h
  · rw [settle_tabSlot_other s x r same] at h
    exact ⟨same, h⟩

theorem opened_of_serve : ∀ (xs : List Nat) (v : Served) {k d : Nat} {y : Tab},
    ((Served.go xs v).state.tabSlot k).state = .opened y d → (v.state.tabSlot k).state = .opened y d
  | [], _, _, _, _, h => h
  | slot :: rest, v, k, d, y, h => by
    rw [Served.go] at h
    split at h
    · split at h
      · exact (opened_of_settle (s := { v.state with engine := { v.state.engine with waiting := rest } })
          (opened_of_serve rest _ h)).2
      · exact h
    · exact h

theorem opened_of_close {slot k d : Nat} {x y : Tab} {r : CloseReason}
    (h : ((s.closeTab slot x r).tabSlot k).state = .opened y d) : k ≠ slot ∧ (s.tabSlot k).state = .opened y d := by
  by_cases same : k = slot
  · have self : (s.closeTab slot x r).tabSlot slot = { s.tabSlot slot with state := .closing x r } :=
      State.tabSlot_setTabSlot_self s slot _
    rw [same, self] at h
    cases h
  · have other : (s.closeTab slot x r).tabSlot k = s.tabSlot k := State.tabSlot_setTabSlot_other s _ same
    rw [other] at h
    exact ⟨same, h⟩

theorem MoneyEffect.allAboard (e : MoneyEffect s t) (h : s.AllAboard) : t.AllAboard := by
  have canonical := e.moneyRun.canonical h.canonical
  have cards (slot : Nat) (held : s.store.cards.holdsAboard slot) : t.store.cards.holdsAboard slot := by
    rwa [e.cards]
  cases e with
  | append p => exact h.same canonical cards (by rw [appendPosting_engine])
  | postings ps => exact h.same canonical cards rfl
  | release d =>
    exact h.mono canonical cards fun k x d' opened => ⟨x, d', opened_of_serve _ _ opened, rfl⟩
  | openTab slot terminal cardSlot accountSlot c a hold _ _ _ card aboard =>
    refine ⟨canonical, fun k x d opened => ?_⟩
    by_cases same : k = slot
    · have self := State.tabSlot_setTabSlot_self s slot ⟨((s.tabSlot slot).generation + 1) % 256,
        .opened ⟨terminal, cardSlot, accountSlot, hold, Sums.zero, 0, s.clock.runSeconds⟩ s.idleDeadline⟩
      replace opened : ((s.setTabSlot slot _).tabSlot k).state = .opened x d := opened
      rw [same, self] at opened
      cases opened
      exact ⟨c, Table.find_of_mem h.canonical.cards card, aboard⟩
    · have other : (s.openTab slot terminal cardSlot accountSlot a hold).tabSlot k = s.tabSlot k :=
        State.tabSlot_setTabSlot_other s _ same
      rw [other] at opened
      exact h.tabs k x d opened
  | grow slot y e a z lines hold before =>
    refine h.mono canonical cards fun k x d opened => ?_
    by_cases same : k = slot
    · have self := State.tabSlot_setTabSlot_self s slot { s.tabSlot slot with
        state := .opened (y.added z lines hold s.clock.runSeconds) s.idleDeadline }
      replace opened : ((s.setTabSlot slot _).tabSlot k).state = .opened x d := opened
      rw [same, self] at opened
      cases opened
      exact ⟨y, e, same ▸ before, rfl⟩
    · have other : (s.grownTab slot y a z lines hold).tabSlot k = s.tabSlot k :=
        State.tabSlot_setTabSlot_other s _ same
      rw [other] at opened
      exact ⟨x, d, opened, rfl⟩
  | settle slot y e r => exact h.mono canonical cards fun k x d opened => ⟨x, d, (opened_of_settle opened).2, rfl⟩
  | close slot y e r => exact h.mono canonical cards fun k x d opened => ⟨x, d, (opened_of_close opened).2, rfl⟩

/-! ## A card leaves the ship (R97) -/

/-- One OPEN tab of the departing card settles or closes: it is open no more. -/
theorem AboardBut.tab {cardSlot slot : Nat} {slots : List Nat} {d : Departed}
    (h : d.state.AboardBut cardSlot (slot :: slots)) : (d.tab slot).state.AboardBut cardSlot slots := by
  unfold Departed.tab
  split
  next x e opened =>
    have forced : (d.state.forceSettle slot x .departed).AboardBut cardSlot slots := by
      have effect := forceSettle_effect .departed opened
      refine ⟨effect.moneyRun.canonical h.canonical, fun k y f after => ?_⟩
      have before : k ≠ slot ∧ (d.state.tabSlot k).state = .opened y f := by
        unfold State.forceSettle at after
        split at after
        · exact opened_of_settle after
        · exact opened_of_close (r := .departed) after
      rw [effect.cards]
      refine (h.tabs k y f before.2).imp_right fun ⟨same, mem⟩ => ⟨same, ?_⟩
      exact (List.mem_cons.mp mem).resolve_left before.1
    split <;> exact forced
  next shut =>
    refine ⟨h.canonical, fun k y f opened => (h.tabs k y f opened).imp_right fun ⟨same, mem⟩ => ⟨same, ?_⟩⟩
    refine (List.mem_cons.mp mem).resolve_left fun here => ?_
    exact shut y f (here ▸ opened)

theorem AboardBut.tabs_fold {cardSlot : Nat} : ∀ (slots : List Nat) (d : Departed),
    d.state.AboardBut cardSlot slots → (slots.foldl Departed.tab d).state.AboardBut cardSlot []
  | [], _, h => h
  | _ :: slots, _, h => AboardBut.tabs_fold slots _ (AboardBut.tab h)

theorem mem_openTabsOf {k d cardSlot : Nat} {x : Tab} (opened : (s.tabSlot k).state = .opened x d)
    (names : x.cardSlot = cardSlot) : k ∈ s.openTabsOf cardSlot := by
  unfold State.openTabsOf
  refine List.mem_map.mpr ⟨(k, s.tabSlot k), List.mem_filter.mpr ⟨State.mem_tabs_of_opened opened, ?_⟩, rfl⟩
  simp [opened, names]

theorem holdsAboard_put {t : Table Card} {slot : Nat} {c d : Card} (found : t.find slot = some c)
    (presence : d.presence = c.presence) (k : Nat) (h : t.holdsAboard k) : (Table.put t slot d).holdsAboard k := by
  obtain ⟨x, hx, aboard⟩ := h
  by_cases same : k = slot
  · rw [same, found] at hx
    cases hx
    exact ⟨d, by rw [same, Table.find_put_self], presence ▸ aboard⟩
  · exact ⟨x, by rw [Table.find_put_other _ _ same]; exact hx, aboard⟩

theorem holdsAboard_put_other {t : Table Card} {slot k : Nat} (d : Card) (other : k ≠ slot) (h : t.holdsAboard k) :
    (Table.put t slot d).holdsAboard k := by
  obtain ⟨x, hx, aboard⟩ := h
  exact ⟨x, by rw [Table.find_put_other _ _ other]; exact hx, aboard⟩

theorem holdsAboard_mapEntries {t : Table Card} {f : Card → Card} (presence : ∀ c, (f c).presence = c.presence)
    (k : Nat) (h : t.holdsAboard k) : (Table.mapEntries f t).holdsAboard k := by
  obtain ⟨x, hx, aboard⟩ := h
  exact ⟨f x, by rw [Table.find_mapEntries, hx]; rfl, by rw [presence]; exact aboard⟩

/-- A presence move keeps every OPEN tab's card aboard: a card that leaves takes its tabs with it. -/
theorem movePresence_allAboard {slot : Nat} {c : Card} {new : Presence} {lane : Option Nat} (h : s.AllAboard)
    (held : (slot, c) ∈ s.store.cards) : (s.movePresence slot c new lane).state.AllAboard := by
  have found := Table.find_of_mem h.canonical.cards held
  have moved := relocate_canonical (slot := slot) (c := c) (new := new) (lane := lane) h.canonical
  unfold State.movePresence
  split
  · exact h
  next moves =>
    dsimp only
    split
    next leaves =>
      have but : (s.relocate slot c new lane).AboardBut slot ((s.relocate slot c new lane).openTabsOf slot) := by
        refine ⟨moved, fun k x d opened => ?_⟩
        by_cases names : x.cardSlot = slot
        · exact .inr ⟨names, mem_openTabsOf opened names⟩
        · exact .inl (holdsAboard_put_other _ names (h.tabs k x d opened))
      have settled := AboardBut.tabs_fold _ ⟨_, 0, 0⟩ but
      exact ⟨settled.canonical, fun k x d opened => (settled.tabs k x d opened).resolve_right fun e => nomatch e.2⟩
    next stays =>
      refine ⟨moved, fun k x d opened => ?_⟩
      have before := h.tabs k x d opened
      by_cases names : x.cardSlot = slot
      · obtain ⟨y, hy, aboard⟩ := before
        rw [names, found] at hy
        cases hy
        refine ⟨_, by rw [names]; exact Table.find_put_self _ _ _, ?_⟩
        simpa [aboard] using stays
      · exact holdsAboard_put_other _ names before

theorem StoreEffect.allAboard (e : StoreEffect s t) (h : s.AllAboard) : t.AllAboard := by
  have canonical := e.canonical h.canonical
  have found {slot : Nat} {c : Card} (held : (slot, c) ∈ s.store.cards) := Table.find_of_mem h.canonical.cards held
  cases e with
  | newCard slot uid issue g p _ _ free =>
    refine h.same canonical (fun k held => holdsAboard_put_other _ ?_ held) rfl
    rintro rfl
    obtain ⟨x, hx, -⟩ := held
    rw [Table.find_freeSlot h.canonical.cards free] at hx
    cases hx
  | changeCard slot c g held => exact h.same canonical (holdsAboard_put (found held) rfl) rfl
  | card slot c d held same => exact h.same canonical (holdsAboard_put (found held) same.presence) rfl
  | rolled => exact h.same canonical (holdsAboard_mapEntries fun _ => rfl) rfl
  | move slot c new lane held => exact movePresence_allAboard h held
  | removeCard slot c held tabs =>
    refine ⟨canonical, fun k x d opened => ?_⟩
    obtain ⟨y, hy, aboard⟩ := h.tabs k x d opened
    have inPool : x ∈ s.engine.tabsHeld :=
      List.mem_filterMap.mpr ⟨_, State.mem_tabs_of_opened opened, by
        show (s.tabSlot k).state.tab = _
        rw [show (s.tabSlot k).state = .opened x d from opened]; rfl⟩
    refine ⟨y, ?_, aboard⟩
    show (Table.erase s.store.cards slot).find x.cardSlot = _
    rw [Table.find_erase_other _ (unnamed_of_cardHasTab tabs x inPool)]
    exact hy
  | door d g => exact h.same canonical (by rw [doorPut_cards]; exact fun _ => id) (by rw [doorPut_frame])
  | tier n x =>
    refine h.same canonical (fun k held => ?_) rfl
    show Table.holdsAboard (if _ then _ else _) k
    split
    · exact holdsAboard_mapEntries (Card.trimmed_presence n _) k held
    · exact held
  | _ => exact h.same canonical (fun _ => id) rfl

theorem Effect.allAboard (e : Effect s t) (h : s.AllAboard) : t.AllAboard := by
  have canonical := e.canonical h.canonical
  cases e with
  | clock e => rw [e.frame] at canonical ⊢; exact h.same canonical (fun _ => id) rfl
  | link e => rw [e.frame] at canonical ⊢; exact h.same canonical (fun _ => id) rfl
  | lane e => rw [e.frame] at canonical ⊢; exact h.same canonical (fun _ => id) rfl
  | door e => rw [e.frame] at canonical ⊢; exact h.same canonical (fun _ => id) rfl
  | store e => exact e.allAboard h
  | money e => exact e.allAboard h
  | start e =>
    cases e with
    | cold v => exact ⟨canonical, fun k x d opened => by cases opened⟩
    | wake =>
      refine h.mono canonical (holdsAboard_mapEntries fun _ => rfl) fun k x d opened => ?_
      rw [wakeStart_tabSlot, TabSlot.awoken] at opened
      cases state : (s.tabSlot k).state with
      | free => rw [state] at opened; dsimp only at opened; rw [state] at opened; cases opened
      | closing y r => rw [state] at opened; dsimp only at opened; rw [state] at opened; cases opened
      | opened y e =>
        rw [state] at opened
        cases opened
        exact ⟨y, e, rfl, rfl⟩

/-- Settles O59: the pool and the balances by what a tab that opens, grows or settles makes of them, and the cards
aboard by the departure settlement. -/
theorem everyStepKeepsTheMoneyLaws : Obligations.EveryStepKeepsTheMoneyLaws := by
  unfold Obligations.EveryStepKeepsTheMoneyLaws
  intro s t h tables pool aboard balance
  have canonical := s.tablesLaw_iff.mp tables
  have balanced : t.Balanced := step_keeps (fun _ _ => Effect.balanced) h
    ⟨canonical, (State.poolLaw_iff canonical.accounts).mp pool, s.balanceLaw_iff.mp balance⟩
  have all : t.AllAboard := step_keeps (fun _ _ => Effect.allAboard) h ((State.aboardLaw_iff canonical).mp aboard)
  exact ⟨(State.poolLaw_iff balanced.canonical.accounts).mpr balanced.pooled,
    (State.aboardLaw_iff balanced.canonical).mpr all, t.balanceLaw_iff.mpr balanced.lawful⟩

end Sys2Proof.Machine
end

section
/-! Strike queues and owed relatches: what every step keeps of them (R47, R58). -/

namespace Sys2Proof.Machine

variable {s t : State}

/-! ## Reads after writes at the doors -/

@[simp] theorem State.bus_setBus_self (s : State) (b : Nat) (v : Bus) : (s.setBus b v).bus b = v :=
  Table.get_set_self _ _ b v

theorem State.bus_setBus_other (s : State) {a b : Nat} (v : Bus) (h : a ≠ b) : (s.setBus b v).bus a = s.bus a :=
  Table.get_set_other _ _ v h

@[simp] theorem State.channel_setBus (s : State) (b : Nat) (v : Bus) (d : Nat) :
    (s.setBus b v).channel d = s.channel d := rfl

@[simp] theorem State.bus_setChannel (s : State) (d : Nat) (c : Channel) (b : Nat) :
    (s.setChannel d c).bus b = s.bus b := rfl

@[simp] theorem State.doorConfig_setBus (s : State) (b : Nat) (v : Bus) (d : Nat) :
    (s.setBus b v).doorConfig d = s.doorConfig d := rfl

@[simp] theorem State.doorConfig_setChannel (s : State) (k : Nat) (c : Channel) (d : Nat) :
    (s.setChannel k c).doorConfig d = s.doorConfig d := rfl

@[simp] theorem State.orderRoom_setChannel (s : State) (d : Nat) (c : Channel) :
    (s.setChannel d c).orderRoom = s.orderRoom := rfl

@[simp] theorem State.orderRoom_setBus (s : State) (b : Nat) (v : Bus) : (s.setBus b v).orderRoom = s.orderRoom := rfl

@[simp] theorem State.channel_placeOrder (s : State) (k : OrderKind) (d x : Nat) :
    (s.placeOrder k d).channel x = s.channel x := rfl

@[simp] theorem State.bus_placeOrder (s : State) (k : OrderKind) (d b : Nat) :
    (s.placeOrder k d).bus b = s.bus b := rfl

@[simp] theorem State.doorConfig_placeOrder (s : State) (k : OrderKind) (d x : Nat) :
    (s.placeOrder k d).doorConfig x = s.doorConfig x := rfl

/-- What a strike release writes, in one step (R50, R59). -/
theorem release_eq {b d : Nat} {rest : List Nat} (queue : (s.bus b).queue = d :: rest) :
    s.release b = State.setChannel
      { s.setBus b ⟨rest, appendRelease (s.bus b).history s.clock.ms⟩ with
        scheduler := {
          buses := (s.setBus b ⟨rest, appendRelease (s.bus b).history s.clock.ms⟩).scheduler.buses
          orders := s.scheduler.orders ++ [⟨.strike, d, s.clock.runSeconds⟩]
          latestBus := b } } d
      { s.channel d with
        state := .released (some (s.clock.ms + s.store.settings.relatchTime * 1000)) .awaitingFetch } := by
  unfold State.release
  rw [queue]
  rfl

theorem callRelatch_room {d : Nat} (v : ChannelState) (room : s.orderRoom = true) :
    s.callRelatch d v = (s.placeOrder .relatch d).setChannel d
      { s.channel d with state := .relatching .awaitingFetch, relatchOwed := false } := if_pos room

theorem callRelatch_full {d : Nat} (v : ChannelState) (full : s.orderRoom = false) :
    s.callRelatch d v = s.setChannel d { s.channel d with state := v, relatchOwed := true } :=
  if_neg (by simp [full])

/-! ## The two laws, door by door -/

/-- R58: a PENDING door stands once in the queue of its bus, and every door in a queue is PENDING on that bus. -/
structure State.Standing (s : State) : Prop where
  stands : ∀ d, (s.channel d).state = .pending →
    (s.doorConfig d).configured = true ∧ d ∈ (s.bus (s.doorConfig d).bus).queue
  nodup : ∀ b, (s.bus b).queue.Nodup
  pends : ∀ b, ∀ d ∈ (s.bus b).queue, (s.channel d).state = .pending ∧ (s.doorConfig d).bus = b

/-- R47: a relatch is owed at a state that owes, while the order queue is full or the door is one of those
still to be served. -/
def State.OwedBut (s : State) (doors : List Nat) : Prop :=
  ∀ d, (s.channel d).relatchOwed = true → (s.channel d).state.owes = true ∧ (s.orderRoom = false ∨ d ∈ doors)

theorem State.channel_mem {d : Nat} (h : s.channel d ≠ Channel.start) : (d, s.channel d) ∈ s.doorUnit.channels := by
  rw [State.channel, Table.get] at h ⊢
  cases found : s.doorUnit.channels.find d with
  | none => rw [found] at h; exact absurd rfl h
  | some c => exact Table.mem_of_find found

theorem State.bus_mem {b : Nat} (h : s.bus b ≠ Bus.start) : (b, s.bus b) ∈ s.scheduler.buses := by
  rw [State.bus, Table.get] at h ⊢
  cases found : s.scheduler.buses.find b with
  | none => rw [found] at h; exact absurd rfl h
  | some c => exact Table.mem_of_find found

theorem State.channel_of_mem (h : s.Canonical) {e : Nat × Channel} (he : e ∈ s.doorUnit.channels) :
    s.channel e.1 = e.2 := by
  have channels := h.channels
  rw [Table.canonical, Bool.and_eq_true] at channels
  rw [State.channel, Table.get, Table.find_of_mem channels.1 he, Option.getD_some]

theorem State.bus_of_mem (h : s.Canonical) {e : Nat × Bus} (he : e ∈ s.scheduler.buses) : s.bus e.1 = e.2 := by
  have buses := h.buses
  rw [Table.canonical, Bool.and_eq_true] at buses
  rw [State.bus, Table.get, Table.find_of_mem buses.1 he, Option.getD_some]

theorem State.pendingLaw_iff (h : s.Canonical) : s.pendingLaw = true ↔ s.Standing := by
  simp only [State.pendingLaw, Bool.and_eq_true, List.all_eq_true, Bool.or_eq_true, decide_eq_true_eq, beq_iff_eq,
    List.contains_iff_mem]
  constructor
  · rintro ⟨channels, buses⟩
    refine ⟨fun d pending => ?_, fun b => ?_, fun b d hd => ?_⟩
    · have held := State.channel_mem (s := s) (d := d) (by rintro e; rw [e] at pending; cases pending)
      exact (channels _ held).resolve_left fun other => other pending
    · by_cases start : s.bus b = Bus.start
      · rw [start]; exact .nil
      · exact (buses _ (State.bus_mem start)).1
    · have held := State.bus_mem (s := s) (b := b) (by rintro e; rw [e] at hd; cases hd)
      exact (buses _ held).2 d hd
  · intro law
    refine ⟨fun e he => ?_, fun e he => ?_⟩
    · have same := State.channel_of_mem h he
      by_cases pending : e.2.state = .pending
      · exact .inr (law.stands e.1 (by rw [same]; exact pending))
      · exact .inl pending
    · have same := State.bus_of_mem h he
      exact ⟨same ▸ law.nodup e.1, fun d hd => law.pends e.1 d (by rw [same]; exact hd)⟩

theorem State.orderRoom_eq_false (h : s.Fits) : s.orderRoom = false ↔ s.scheduler.orders.length = orderQueueRoom := by
  rw [State.orderRoom, decide_eq_false_iff_not, Nat.not_lt]
  exact ⟨fun le => Nat.le_antisymm h.orders le, fun e => Nat.le_of_eq e.symm⟩

theorem State.owedLaw_iff (h : s.Canonical) (fits : s.Fits) : s.owedLaw = true ↔ s.OwedBut [] := by
  simp only [State.owedLaw, List.all_eq_true, Bool.or_eq_true, Bool.not_eq_true', Bool.and_eq_true,
    decide_eq_true_eq]
  constructor
  · intro law d owed
    have held := State.channel_mem (s := s) (d := d) (by rintro e; rw [e] at owed; cases owed)
    obtain ⟨full, owes⟩ := (law _ held).resolve_left fun other => by rw [other] at owed; cases owed
    exact ⟨owes, .inl ((State.orderRoom_eq_false fits).mpr full)⟩
  · intro law e he
    have same := State.channel_of_mem h he
    rcases Bool.eq_false_or_eq_true e.2.relatchOwed with owed | free
    · obtain ⟨owes, full | none⟩ := law e.1 (by rw [same]; exact owed)
      · exact .inr ⟨(State.orderRoom_eq_false fits).mp full, same ▸ owes⟩
      · cases none
    · exact .inl free

/-! ## Strike queues -/

namespace State.Standing

/-- The same queues, PENDING doors and configurations. -/
theorem same (h : s.Standing) (channel : ∀ d, (t.channel d).state = .pending ↔ (s.channel d).state = .pending)
    (bus : ∀ b, (t.bus b).queue = (s.bus b).queue) (config : ∀ d, t.doorConfig d = s.doorConfig d) : t.Standing where
  stands d pending := by
    rw [config, bus]
    exact h.stands d ((channel d).mp pending)
  nodup b := by rw [bus]; exact h.nodup b
  pends b d hd := by
    rw [bus] at hd
    rw [channel, config]
    exact h.pends b d hd

theorem setChannel (h : s.Standing) {d : Nat} {c : Channel}
    (pending : c.state = .pending ↔ (s.channel d).state = .pending) : (s.setChannel d c).Standing := by
  refine h.same (fun k => ?_) (fun _ => rfl) fun _ => rfl
  by_cases same : k = d
  · rw [same, State.channel_setChannel_self]; exact pending
  · rw [State.channel_setChannel_other _ _ same]

theorem orders (h : s.Standing) (os : List Order) (latest : Nat) :
    State.Standing { s with scheduler := { s.scheduler with orders := os, latestBus := latest } } :=
  h.same (fun _ => Iff.rfl) (fun _ => rfl) fun _ => rfl

/-- One door leaves the queue of its bus, and its channel is PENDING no more. -/
theorem leave (h : s.Standing) {b d : Nat} {v : Bus} {c : Channel} (bus : (s.doorConfig d).bus = b)
    (queue : ∀ k, k ∈ v.queue ↔ k ∈ (s.bus b).queue ∧ k ≠ d) (nodup : v.queue.Nodup) (clear : c.state ≠ .pending) :
    ((s.setBus b v).setChannel d c).Standing where
  stands k pending := by
    have other : k ≠ d := by
      rintro rfl
      rw [State.channel_setChannel_self] at pending
      exact clear pending
    rw [State.channel_setChannel_other _ _ other] at pending
    obtain ⟨configured, mem⟩ := h.stands k pending
    refine ⟨configured, ?_⟩
    show k ∈ ((s.setBus b v).bus (s.doorConfig k).bus).queue
    by_cases same : (s.doorConfig k).bus = b
    · rw [same, State.bus_setBus_self]
      exact (queue k).mpr ⟨same ▸ mem, other⟩
    · rw [State.bus_setBus_other _ _ same]
      exact mem
  nodup a := by
    show ((s.setBus b v).bus a).queue.Nodup
    by_cases same : a = b
    · rw [same, State.bus_setBus_self]; exact nodup
    · rw [State.bus_setBus_other _ _ same]; exact h.nodup a
  pends a k hk := by
    replace hk : k ∈ ((s.setBus b v).bus a).queue := hk
    have old : k ∈ (s.bus a).queue ∧ k ≠ d := by
      by_cases same : a = b
      · rw [same, State.bus_setBus_self] at hk
        rw [same]
        exact (queue k).mp hk
      · rw [State.bus_setBus_other _ _ same] at hk
        refine ⟨hk, fun e => same ?_⟩
        rw [← (h.pends a k hk).2, e, bus]
    rw [State.channel_setChannel_other _ _ old.2]
    exact h.pends a k old.1

/-- One door joins the queue of its bus and becomes PENDING. -/
theorem join (h : s.Standing) {d : Nat} (configured : (s.doorConfig d).configured = true)
    (idle : (s.channel d).state ≠ .pending) : (s.requested d).Standing := by
  have out (b : Nat) : d ∉ (s.bus b).queue := fun mem => idle (h.pends b d mem).1
  have channel (k : Nat) (other : k ≠ d) : (s.requested d).channel k = s.channel k :=
    State.channel_setChannel_other _ _ other
  have self : ((s.requested d).channel d).state = .pending := congrArg Channel.state (State.channel_setChannel_self ..)
  have own : ((s.requested d).bus (s.doorConfig d).bus).queue = (s.bus (s.doorConfig d).bus).queue ++ [d] :=
    congrArg Bus.queue (State.bus_setBus_self ..)
  have bus (b : Nat) (other : b ≠ (s.doorConfig d).bus) : (s.requested d).bus b = s.bus b :=
    State.bus_setBus_other s _ other
  refine ⟨fun k pending => ?_, fun b => ?_, fun b k hk => ?_⟩
  · show (s.doorConfig k).configured = true ∧ k ∈ ((s.requested d).bus (s.doorConfig k).bus).queue
    by_cases same : k = d
    · rw [same, own]
      exact ⟨configured, List.mem_append.mpr (.inr (List.mem_singleton.mpr rfl))⟩
    · rw [channel k same] at pending
      obtain ⟨on, mem⟩ := h.stands k pending
      refine ⟨on, ?_⟩
      by_cases here : (s.doorConfig k).bus = (s.doorConfig d).bus
      · rw [here] at mem ⊢
        rw [own]
        exact List.mem_append.mpr (.inl mem)
      · rw [bus _ here]
        exact mem
  · by_cases here : b = (s.doorConfig d).bus
    · rw [here, own]
      refine List.nodup_append.mpr ⟨h.nodup _, List.nodup_singleton d, fun a ha k hk same => ?_⟩
      rw [List.mem_singleton.mp hk] at same
      exact out _ (same ▸ ha)
    · rw [bus b here]; exact h.nodup b
  · show ((s.requested d).channel k).state = .pending ∧ (s.doorConfig k).bus = b
    have old (mem : k ∈ (s.bus b).queue) : ((s.requested d).channel k).state = .pending ∧ (s.doorConfig k).bus = b := by
      rw [channel k fun same => out b (same ▸ mem)]
      exact h.pends b k mem
    by_cases here : b = (s.doorConfig d).bus
    · subst here
      rw [own] at hk
      rcases List.mem_append.mp hk with mem | last
      · exact old mem
      · rw [List.mem_singleton.mp last]
        exact ⟨self, rfl⟩
    · rw [bus b here] at hk
      exact old hk

theorem release (h : s.Standing) (b : Nat) : (s.release b).Standing := by
  cases queue : (s.bus b).queue with
  | nil =>
    have none : s.release b = s := by unfold State.release; rw [queue]
    rw [none]; exact h
  | cons d rest =>
    have nodup := h.nodup b
    rw [queue, List.nodup_cons] at nodup
    have own := (h.pends b d (by rw [queue]; exact List.mem_cons_self ..)).2
    rw [release_eq queue]
    refine (h.leave (v := ⟨rest, appendRelease (s.bus b).history s.clock.ms⟩) (c := { s.channel d with
      state := .released (some (s.clock.ms + s.store.settings.relatchTime * 1000)) .awaitingFetch })
      own (fun k => ?_) nodup.2 nofun).orders (s.scheduler.orders ++ [⟨.strike, d, s.clock.runSeconds⟩]) b
    rw [queue, List.mem_cons]
    exact ⟨fun mem => ⟨.inr mem, fun same => nodup.1 (same ▸ mem)⟩, fun ⟨mem, ne⟩ => mem.resolve_left ne⟩

end State.Standing

theorem State.Idle.standing (h : s.Idle) : s.Standing := by
  have channel (d : Nat) : s.channel d = Channel.start := by rw [State.channel, h.channels]; rfl
  refine ⟨fun d pending => ?_, fun b => ?_, fun b d hd => ?_⟩
  · rw [channel] at pending; cases pending
  · rw [h.queue]; exact .nil
  · rw [h.queue] at hd; cases hd

theorem State.Idle.owed (h : s.Idle) : s.OwedBut [] := by
  intro d owed
  rw [State.channel, h.channels] at owed
  cases owed

/-! ## Owed relatches -/

/-- With room in the order queue and no door left to serve, none owes. -/
theorem State.OwedBut.none (h : s.OwedBut []) (room : s.orderRoom = true) (d : Nat) :
    (s.channel d).relatchOwed = false := by
  rcases Bool.eq_false_or_eq_true (s.channel d).relatchOwed with owed | free
  · rcases (h d owed).2 with full | mem
    · rw [room] at full; cases full
    · cases mem
  · exact free

theorem State.OwedBut.of_none (h : ∀ d, (s.channel d).relatchOwed = false) : s.OwedBut [] := by
  intro d owed
  rw [h d] at owed
  cases owed

theorem State.OwedBut.setChannel (h : s.OwedBut []) {d : Nat} {c : Channel} (may : s.MayHold d c) :
    (s.setChannel d c).OwedBut [] := by
  intro k owed
  by_cases same : k = d
  · subst same
    rw [State.channel_setChannel_self] at owed ⊢
    rcases may.owed owed with ⟨old, owes⟩ | ⟨full, owes⟩
    · exact ⟨owes (h k old).1, (h k old).2⟩
    · exact ⟨owes, .inl full⟩
  · rw [State.channel_setChannel_other _ _ same] at owed ⊢
    exact h k owed

/-- A door that owes nothing is written. -/
theorem State.OwedBut.clear {doors : List Nat} (h : s.OwedBut doors) {d : Nat} {c : Channel}
    (owed : c.relatchOwed = false) : (s.setChannel d c).OwedBut doors := by
  intro k hk
  by_cases same : k = d
  · rw [same, State.channel_setChannel_self, owed] at hk
    cases hk
  · rw [State.channel_setChannel_other _ _ same] at hk ⊢
    exact h k hk

theorem State.OwedBut.release {b : Nat} (h : s.OwedBut []) (may : s.mayRelease b = true) :
    (s.release b).OwedBut [] := by
  have free := h.none (orderRoom_of_mayRelease may)
  cases queue : (s.bus b).queue with
  | nil => simp [State.mayRelease, queue] at may
  | cons d rest =>
    rw [release_eq queue]
    refine .of_none fun k => ?_
    by_cases same : k = d
    · rw [same, State.channel_setChannel_self]; exact free d
    · rw [State.channel_setChannel_other _ _ same]; exact free k

/-- The doors as both laws have them. -/
structure State.InAgreement (s : State) : Prop where
  standing : s.Standing
  owed : s.OwedBut []

theorem rotateFor_agreement (fuel : Nat) : ∀ {s : State}, s.InAgreement → (s.rotateFor fuel).InAgreement := by
  induction fuel with
  | zero => exact id
  | succ n ih =>
    intro s h
    simp only [State.rotateFor]
    split
    next b found => exact ih ⟨h.standing.release b, h.owed.release (List.find?_some found)⟩
    next => exact h

/-- One owed relatch is served (R60). -/
theorem serveOwed_owed {d : Nat} {doors : List Nat} (h : s.OwedBut (d :: doors)) : (s.serveOwed d).OwedBut doors := by
  unfold State.serveOwed
  split
  next serves =>
    rw [Bool.and_eq_true] at serves
    rw [callRelatch_room _ serves.1]
    intro k owed
    by_cases same : k = d
    · rw [same, State.channel_setChannel_self] at owed; cases owed
    · rw [State.channel_setChannel_other _ _ same] at owed ⊢
      obtain ⟨owes, full | mem⟩ := h k owed
      · rw [serves.1] at full; cases full
      · exact ⟨owes, .inr ((List.mem_cons.mp mem).resolve_left same)⟩
  next rests =>
    intro k owed
    obtain ⟨owes, full | mem⟩ := h k owed
    · exact ⟨owes, .inl full⟩
    · rcases List.mem_cons.mp mem with rfl | mem
      · refine ⟨owes, .inl ?_⟩
        simpa [owed] using rests
      · exact ⟨owes, .inr mem⟩

theorem serveOwed_standing {d : Nat} {doors : List Nat} (h : s.Standing) (owed : s.OwedBut doors) :
    (s.serveOwed d).Standing := by
  unfold State.serveOwed
  split
  next serves =>
    rw [Bool.and_eq_true] at serves
    have idle : (s.channel d).state ≠ .pending := by
      intro pending
      have owes := (owed d serves.2).1
      rw [pending] at owes
      cases owes
    rw [callRelatch_room _ serves.1]
    exact (h.orders _ s.scheduler.latestBus).setChannel ⟨nofun, fun pending => absurd pending idle⟩
  next => exact h

theorem serveOwed_fold : ∀ (doors : List Nat) {s : State}, s.Standing → s.OwedBut doors →
    (doors.foldl State.serveOwed s).InAgreement
  | [], _, standing, owed => ⟨standing, owed⟩
  | _ :: doors, _, standing, owed => serveOwed_fold doors (serveOwed_standing standing owed) (serveOwed_owed owed)

theorem mem_owingDoors {d : Nat} (h : (s.channel d).relatchOwed = true) : d ∈ s.owingDoors := by
  have held := State.channel_mem (s := s) (d := d) (by rintro e; rw [e] at h; cases h)
  exact List.mem_map.mpr ⟨_, List.mem_filter.mpr ⟨held, h⟩, rfl⟩

/-- The order queue has gained room: both laws stand again (R47, R60). -/
theorem refill_agreement (standing : s.Standing)
    (owes : ∀ d, (s.channel d).relatchOwed = true → (s.channel d).state.owes = true) : s.refill.InAgreement :=
  rotateFor_agreement _ (serveOwed_fold _ standing fun d owed => ⟨owes d owed, .inr (mem_owingDoors owed)⟩)

/-! ## Deliveries (R62) -/

/-- Every channel is PENDING, and owes and is in a state that owes, just as before. -/
structure SameDuties (s t : State) : Prop where
  pending : ∀ d, (t.channel d).state = .pending ↔ (s.channel d).state = .pending
  owed : ∀ d, (t.channel d).relatchOwed = (s.channel d).relatchOwed
  owes : ∀ d, (t.channel d).state.owes = (s.channel d).state.owes

theorem SameDuties.trans {u : State} (h1 : SameDuties s t) (h2 : SameDuties t u) : SameDuties s u :=
  ⟨fun d => (h2.pending d).trans (h1.pending d), fun d => (h2.owed d).trans (h1.owed d),
    fun d => (h2.owes d).trans (h1.owes d)⟩

theorem setChannelState_sameDuties {d : Nat} {v : ChannelState}
    (pending : v = .pending ↔ (s.channel d).state = .pending) (owes : v.owes = (s.channel d).state.owes) :
    SameDuties s (s.setChannelState d v) := by
  have self : (s.setChannelState d v).channel d = { s.channel d with state := v } := State.channel_setChannel_self ..
  have other (k : Nat) (ne : k ≠ d) : (s.setChannelState d v).channel k = s.channel k :=
    State.channel_setChannel_other _ _ ne
  refine ⟨fun k => ?_, fun k => ?_, fun k => ?_⟩
  all_goals by_cases same : k = d
  · rw [same, self]; exact pending
  · rw [other k same]
  · rw [same, self]
  · rw [other k same]
  · rw [same, self]; exact owes
  · rw [other k same]

theorem deliver_sameDuties (s : State) (o : Order) : SameDuties s (s.deliver o) := by
  unfold State.deliver
  split
  next timer _ was =>
    refine setChannelState_sameDuties (by simp [was]) ?_
    rw [was]
    cases timer <;> rfl
  next _ was => exact setChannelState_sameDuties (by simp [was]) (by rw [was]; rfl)
  next => exact ⟨fun _ => Iff.rfl, fun _ => rfl, fun _ => rfl⟩

theorem deliver_fold : ∀ (os : List Order) (s : State), SameDuties s (os.foldl State.deliver s) ∧
    ∀ b, (os.foldl State.deliver s).bus b = s.bus b
  | [], _ => ⟨⟨fun _ => Iff.rfl, fun _ => rfl, fun _ => rfl⟩, fun _ => rfl⟩
  | o :: os, s => by
    have bus (b : Nat) : (s.deliver o).bus b = s.bus b := by unfold State.deliver; split <;> rfl
    obtain ⟨duties, buses⟩ := deliver_fold os (s.deliver o)
    exact ⟨(deliver_sameDuties s o).trans duties, fun b => (buses b).trans (bus b)⟩

theorem fetchOrders_doorsOnly (s : State) : DoorsOnly s s.fetchOrders :=
  DoorsOnly.trans (t := { s with scheduler := { s.scheduler with orders := s.scheduler.orders.drop 8 } }) rfl
    (foldl_doorsOnly deliver_doorsOnly _ _)

theorem fetch_agreement (h : s.InAgreement) : s.fetchOrders.refill.InAgreement := by
  obtain ⟨duties, bus⟩ := deliver_fold (s.scheduler.orders.take 8)
    { s with scheduler := { s.scheduler with orders := s.scheduler.orders.drop 8 } }
  have config (d : Nat) : s.fetchOrders.doorConfig d = s.doorConfig d := by
    rw [State.doorConfig, fetchOrders_doorsOnly s]
    rfl
  refine refill_agreement (h.standing.same duties.pending (fun b => congrArg Bus.queue (bus b)) config) fun d owed => ?_
  have before : (s.channel d).relatchOwed = true := (duties.owed d).symm.trans owed
  exact (duties.owes d).trans (h.owed d before).1

/-! ## Cancelled requests (R57) -/

theorem emptyBuses_get : ∀ (es : List (Nat × Bus)) (t : Table Bus), Table.rising es = true → ∀ b,
    Table.get Bus.start (es.foldl (fun t e => Table.set Bus.start t e.1 e.2.emptied) t) b =
      match Table.find es b with
      | some v => v.emptied
      | none => Table.get Bus.start t b
  | [], _, _, _ => rfl
  | (k, v) :: es, t, rising, b => by
    rw [List.foldl_cons, emptyBuses_get es _ (Table.rising_tail rising), Table.find]
    by_cases here : k = b
    · subst here
      have none : Table.find es k = none := Table.find_eq_none fun e he => by
        have : k < e.1 := Table.rising_head_lt rising e he
        omega
      rw [if_pos rfl, none]
      exact Table.get_set_self ..
    · rw [if_neg here]
      cases Table.find es b with
      | some w => rfl
      | none => exact Table.get_set_other _ _ _ (Ne.symm here)

/-- The PENDING doors, in ascending door id. -/
def State.pendingDoors (s : State) : List Nat :=
  (s.doorUnit.channels.filter fun e => decide (e.2.state = .pending)).map Prod.fst

theorem mem_pendingDoors {d : Nat} (h : s.Canonical) : d ∈ s.pendingDoors ↔ (s.channel d).state = .pending := by
  unfold State.pendingDoors
  simp only [List.mem_map, List.mem_filter, decide_eq_true_eq]
  constructor
  · rintro ⟨e, ⟨he, pending⟩, rfl⟩
    rw [State.channel_of_mem h he]
    exact pending
  · intro pending
    exact ⟨_, ⟨State.channel_mem (by rintro e; rw [e] at pending; cases pending), pending⟩, rfl⟩

/-- The state with every strike queue emptied (R57). -/
def State.queuesEmptied (s : State) : State :=
  s.withBuses (s.scheduler.buses.foldl (fun t e => Table.set Bus.start t e.1 e.2.emptied) s.scheduler.buses)

theorem cancelRequests_eq (s : State) : s.cancelRequests =
    s.pendingDoors.foldl (fun x d => x.setChannel d (x.channel d).cancelled) s.queuesEmptied := rfl

theorem Channel.cancelled_cancelled (c : Channel) : c.cancelled.cancelled = c.cancelled := rfl

theorem cancel_fold : ∀ (ds : List Nat) (s : State) (k : Nat),
    (ds.foldl (fun x d => x.setChannel d (x.channel d).cancelled) s).channel k =
      (if k ∈ ds then (s.channel k).cancelled else s.channel k) ∧
    ∀ b, (ds.foldl (fun x d => x.setChannel d (x.channel d).cancelled) s).bus b = s.bus b
  | [], _, _ => ⟨rfl, fun _ => rfl⟩
  | d :: ds, s, k => by
    obtain ⟨channel, bus⟩ := cancel_fold ds (s.setChannel d (s.channel d).cancelled) k
    refine ⟨channel.trans ?_, bus⟩
    by_cases same : k = d
    · rw [same, State.channel_setChannel_self, Channel.cancelled_cancelled, if_pos (List.mem_cons_self ..)]
      split <;> rfl
    · rw [State.channel_setChannel_other _ _ same]
      simp [same]

/-- Each PENDING door becomes SECURED or UNKNOWN, and every other channel stays (R57). -/
theorem cancelRequests_channel (h : s.Canonical) (d : Nat) : s.cancelRequests.channel d =
    if (s.channel d).state = .pending then (s.channel d).cancelled else s.channel d := by
  rw [cancelRequests_eq, (cancel_fold _ _ d).1]
  simp only [mem_pendingDoors h]
  rfl

theorem State.Canonical.busesRising (h : s.Canonical) : s.scheduler.buses.rising = true := by
  have buses := h.buses
  rw [Table.canonical, Bool.and_eq_true] at buses
  exact buses.1

/-- Every strike queue is empty, and the release histories stay (R57). -/
theorem cancelRequests_bus (h : s.Canonical) (b : Nat) : s.cancelRequests.bus b = (s.bus b).emptied := by
  rw [cancelRequests_eq, (cancel_fold _ _ 0).2]
  show Table.get Bus.start (s.scheduler.buses.foldl _ s.scheduler.buses) b = _
  rw [emptyBuses_get _ _ h.busesRising, State.bus, Table.get]
  cases Table.find s.scheduler.buses b <;> rfl

theorem cancelled_ne_pending (c : Channel) : c.cancelled.state ≠ .pending := by
  unfold Channel.cancelled
  dsimp only
  split <;> exact nofun

theorem cancel_agreement (canonical : s.Canonical) (h : s.InAgreement) : s.cancelRequests.InAgreement := by
  refine ⟨⟨fun d pending => ?_, fun b => ?_, fun b d hd => ?_⟩, fun d owed => ?_⟩
  · rw [cancelRequests_channel canonical] at pending
    split at pending
    · exact absurd pending (cancelled_ne_pending _)
    next other => exact absurd pending other
  · rw [cancelRequests_bus canonical]; exact .nil
  · rw [cancelRequests_bus canonical] at hd; cases hd
  · have room : s.cancelRequests.orderRoom = s.orderRoom := by
      have orders : ∀ (ds : List Nat) (x : State),
          (ds.foldl (fun x d => x.setChannel d (x.channel d).cancelled) x).orderRoom = x.orderRoom := by
        intro ds
        induction ds with
        | nil => exact fun _ => rfl
        | cons d ds ih => exact fun x => ih _
      exact orders _ s.queuesEmptied
    rw [room]
    rw [cancelRequests_channel canonical] at owed ⊢
    split at owed
    next pending =>
      have owes := (h.owed d owed).1
      rw [pending] at owes
      cases owes
    next other =>
      rw [if_neg other]
      exact h.owed d owed

/-! ## Every effect -/

theorem DoorEffect.agreement (e : DoorEffect s t) (canonical : s.Canonical) (h : s.InAgreement) :
    t.InAgreement := by
  cases e with
  | reader d r => exact ⟨h.standing.same (fun _ => Iff.rfl) (fun _ => rfl) fun _ => rfl, h.owed⟩
  | audit p n => exact ⟨h.standing.same (fun _ => Iff.rfl) (fun _ => rfl) fun _ => rfl, h.owed⟩
  | channel d c _ may => exact ⟨h.standing.setChannel may.pending, h.owed.setChannel may⟩
  | order k d _ room =>
    exact ⟨h.standing.orders _ s.scheduler.latestBus, .of_none (h.owed.none room)⟩
  | release b may => exact ⟨h.standing.release b, h.owed.release may⟩
  | request d _ configured idle => exact ⟨h.standing.join configured idle, State.OwedBut.clear h.owed rfl⟩
  | withdraw d _ pending =>
    refine ⟨h.standing.leave rfl (fun k => ?_) ((h.standing.nodup _).filter _) nofun, ?_⟩
    · simp [List.mem_filter]
    · exact State.OwedBut.clear (s := s.withdraw d) h.owed rfl
  | cancel => exact cancel_agreement canonical h
  | fetch => exact fetch_agreement h

/-- The door laws, over tables in canonical form and a part that holds nothing before it is loaded. -/
structure State.Doors (s : State) : Prop where
  canonical : s.Canonical
  unloaded : s.unloadedLaw = true
  agreement : s.InAgreement

/-- The same channels, scheduler and door configurations. -/
theorem State.InAgreement.same (h : s.InAgreement) (channels : t.doorUnit.channels = s.doorUnit.channels)
    (scheduler : t.scheduler = s.scheduler) (doors : t.store.doors = s.store.doors) : t.InAgreement := by
  have channel (d : Nat) : t.channel d = s.channel d := by rw [State.channel, channels]; rfl
  have bus (b : Nat) : t.bus b = s.bus b := by rw [State.bus, scheduler]; rfl
  have config (d : Nat) : t.doorConfig d = s.doorConfig d := by rw [State.doorConfig, doors]; rfl
  refine ⟨h.standing.same (fun d => by rw [channel]) (fun b => by rw [bus]) config, fun d owed => ?_⟩
  rw [channel] at owed ⊢
  rw [State.orderRoom, scheduler]
  exact h.owed d owed

/-- DOOR.PUT of a door that is not in use (R18): a door made configured or unconfigured starts afresh. -/
theorem handDoor_agreement {d : Nat} {g : DoorConfig} (free : s.doorInUse d g = false) (h : s.InAgreement) :
    ((s.setDoorConfig d g).handDoor d (s.doorConfig d).configured g.configured).InAgreement := by
  have self : (s.setDoorConfig d g).doorConfig d = g := Table.get_set_self ..
  have other (k : Nat) (ne : k ≠ d) : (s.setDoorConfig d g).doorConfig k = s.doorConfig k :=
    Table.get_set_other _ _ _ ne
  have use : (s.channel d).state = .pending → g.configured = true ∧ (s.doorConfig d).bus = g.bus := by
    intro pending
    simpa [State.doorInUse, pending] using free
  have put : (s.setDoorConfig d g).InAgreement := by
    refine ⟨⟨fun k pending => ?_, h.standing.nodup, fun b k hk => ?_⟩, h.owed⟩
    · have stands := h.standing.stands k pending
      by_cases same : k = d
      · subst same
        obtain ⟨on, bus⟩ := use pending
        rw [self, ← bus]
        exact ⟨on, stands.2⟩
      · rw [other k same]
        exact stands
    · obtain ⟨pending, bus⟩ := h.standing.pends b k hk
      refine ⟨pending, ?_⟩
      by_cases same : k = d
      · subst same
        rw [self, ← (use pending).2, bus]
      · rw [other k same, bus]
  have afresh (idle : (s.channel d).state ≠ .pending) :
      ((s.setDoorConfig d g).setChannel d Channel.start).InAgreement :=
    ⟨put.standing.setChannel ⟨nofun, fun pending => absurd pending idle⟩, State.OwedBut.clear put.owed rfl⟩
  unfold State.handDoor
  split
  next was now =>
    exact afresh fun pending => by
      have configured := (h.standing.stands d pending).1
      rw [was] at configured
      cases configured
  next was now =>
    have fresh := afresh fun pending => by
      have configured := (use pending).1
      rw [now] at configured
      cases configured
    exact fresh.same rfl rfl rfl
  next => exact put

theorem StoreEffect.agreement (e : StoreEffect s t) (unloaded : s.unloadedLaw = true) (h : s.InAgreement) :
    t.InAgreement := by
  cases e with
  | enterService loading =>
    have idle : s.Idle := ((State.unloadedLaw_iff s).mp unloaded).resolve_left (by simp [State.loaded, loading])
    exact ⟨⟨fun _ => nofun, fun b => h.standing.nodup b, fun b d hd => by
      replace hd : d ∈ (s.bus b).queue := hd
      rw [idle.queue] at hd
      cases hd⟩, fun _ => nofun⟩
  | move slot c new lane =>
    refine movePresence_keeps (P := State.InAgreement) (fun h _ => h.same rfl rfl rfl) (fun u v e h => ?_) h
    rw [e.frame]
    exact h.same rfl rfl rfl
  | door d g free =>
    unfold State.doorPut
    split
    next loaded => exact handDoor_agreement (free loaded) h
    next notLoaded =>
      have idle : s.Idle := ((State.unloadedLaw_iff s).mp unloaded).resolve_left notLoaded
      have same : (s.setDoorConfig d g).Idle := { idle with }
      exact ⟨same.standing, same.owed⟩
  | _ => exact h.same rfl rfl rfl

theorem Effect.doors (e : Effect s t) (h : s.Doors) : t.Doors := by
  refine ⟨e.canonical h.canonical, e.unloadedLaw h.unloaded, ?_⟩
  have agreement := h.agreement
  cases e with
  | clock e => rw [e.frame]; exact agreement.same rfl rfl rfl
  | link e => rw [e.frame]; exact agreement.same rfl rfl rfl
  | lane e => rw [e.frame]; exact agreement.same rfl rfl rfl
  | door e => exact e.agreement h.canonical agreement
  | store e => exact e.agreement h.unloaded agreement
  | money e => rw [e.frame]; exact agreement.same rfl rfl rfl
  | start e =>
    cases e <;> exact ⟨⟨fun _ => nofun, fun _ => .nil, fun _ _ => nofun⟩, fun _ => nofun⟩

/-- Settles O58: the strike queues by a door that joins or leaves one, and the relatches owed by what fills and
empties the order queue. -/
theorem everyStepKeepsTheDoorLaws : Obligations.EveryStepKeepsTheDoorLaws := by
  unfold Obligations.EveryStepKeepsTheDoorLaws
  intro s t h tables room unloaded pending owed
  have canonical := s.tablesLaw_iff.mp tables
  have fits := s.roomLaw_iff.mp room
  have doors : t.Doors := step_keeps (fun _ _ => Effect.doors) h
    ⟨canonical, unloaded, (State.pendingLaw_iff canonical).mp pending, (State.owedLaw_iff canonical fits).mp owed⟩
  have fitted : t.Fits := step_keeps (fun _ _ => Effect.fits) h fits
  exact ⟨(State.pendingLaw_iff doors.canonical).mpr doors.agreement.standing,
    (State.owedLaw_iff doors.canonical fitted).mpr doors.agreement.owed⟩

end Sys2Proof.Machine
end

section
/-! The machine: its step, its clock and its cold start. -/

namespace Sys2Proof.Machine

/-! ## The clock (R145) -/

/-- The clock as it takes the time to a later millisecond, by what run-seconds do. -/
theorem Clock.advanceTo_later {c : Clock} {ms seconds : Nat} {shipTime : Option Nat} (later : c.ms < ms)
    (hs : min (c.runSeconds + (ms / 1000 - c.ms / 1000)) (max c.runSeconds maxNat32) = seconds)
    (ht : (c.shipTime.map fun x => shipTimeAfter x (seconds - c.runSeconds)) = shipTime) :
    c.advanceTo ms = { c with ms := ms, runSeconds := seconds, shipTime := shipTime } := by
  subst hs ht
  exact if_neg (Nat.not_le.mpr later)

/-- A ship time in its range, one second later. -/
theorem shipTimeAfter_one {x : Nat} (h : x < 86400) : shipTimeAfter x 1 = if x = 86399 then 0 else x + 1 := by
  unfold shipTimeAfter
  split <;> omega

theorem shipTimeAfter_zero {x : Nat} (h : x < 86400) : shipTimeAfter x 0 = x := Nat.mod_eq_of_lt h

section
variable {c : Clock} {ms : Nat} (lawful : c.runSeconds = min (c.ms / 1000) maxNat32)
  (shipTime : ∀ x, c.shipTime = some x → x < 86400)
include lawful shipTime

/-- A second ends: run-seconds rise by 1, and with it the ship time. -/
theorem Clock.advanceTo_rise (later : c.ms < ms) (second : ms / 1000 = c.ms / 1000 + 1)
    (unsaturated : c.runSeconds < maxNat32) :
    c.advanceTo ms = { c with
      ms := ms
      runSeconds := c.runSeconds + 1
      shipTime := c.shipTime.map fun x => if x = 86399 then 0 else x + 1 } := by
  refine Clock.advanceTo_later later (by omega) (Option.map_congr fun x hx => ?_)
  rw [Nat.add_sub_cancel_left, shipTimeAfter_one (shipTime x hx)]

/-- No second ends, or run-seconds are saturated: the millisecond timer alone goes on. -/
theorem Clock.advanceTo_stays (later : c.ms < ms)
    (same : ms / 1000 = c.ms / 1000 ∨ c.runSeconds = maxNat32) :
    c.advanceTo ms = { c with ms := ms } := by
  refine Clock.advanceTo_later later (by omega) ?_
  rw [Option.map_congr (g := id) fun x hx => by rw [Nat.sub_self, shipTimeAfter_zero (shipTime x hx)]; rfl,
    Option.map_id_fun, id_eq]

end

theorem happens_refused {event : State → Option State} {s : State} (h : s.takesEvents = false) :
    happens event s = .next s := by
  rw [happens, h]
  rfl

theorem happens_taken {event : State → Option State} {s t : State} (h : s.takesEvents = true)
    (taken : event s = some t) : happens event s = .next t := by
  rw [happens, h, taken]
  rfl

theorem step_idle {s : State} (h : s.pending = []) : step s = .next s.idle := by
  unfold step
  rw [h]

/-- Settles O2: the clock's own advance, by whether a second ends and run-seconds are saturated. -/
theorem timePassesWithRisesAndIdleSteps : Obligations.TimePassesWithRisesAndIdleSteps := by
  unfold Obligations.TimePassesWithRisesAndIdleSteps
  intro s
  have idle (takes : s.takesEvents = true) (empty : s.pending = []) :
      step s = .next { s with clock := s.clock.advanceTo (s.clock.ms + 1) } := by
    rw [step_idle empty, State.idle, if_pos takes]
    rfl
  have rise (takes : s.takesEvents = true) : exec .runSecondsRise s =
      .next { s with clock := s.clock.advanceTo ((s.clock.ms / 1000 + 1) * 1000) } :=
    happens_taken takes rfl
  refine ⟨fun takes law => ?_, idle, happens_refused, fun refused empty => ?_⟩
  · obtain ⟨lawful, shipTime⟩ := s.clockLaw_iff.mp law
    refine ⟨fun unsaturated => ?_, fun saturated => ?_, fun empty stays => ?_, fun empty second unsaturated => ?_⟩
    · rw [rise takes, Clock.advanceTo_rise lawful shipTime (by omega) (by omega) unsaturated]
    · rw [rise takes, Clock.advanceTo_stays lawful shipTime (by omega) (.inr saturated)]
    · rw [idle takes empty, Clock.advanceTo_stays lawful shipTime (by omega)
        (stays.imp (fun h => by omega) id)]
    · rw [idle takes empty, Clock.advanceTo_rise lawful shipTime (by omega) (by omega) unsaturated]
  · rw [step_idle empty, State.idle, if_neg (Bool.eq_false_iff.mp refused)]

/-! ## The step and the reset -/

/-- Settles O1. -/
theorem stepRunsTheFrontCommand : Obligations.StepRunsTheFrontCommand := by
  unfold Obligations.StepRunsTheFrontCommand
  exact fun _ _ _ => rfl

/-- Every lane starts with its levels high and its gate off (R109). -/
theorem reset_lane (n : Nat) : Four.get State.reset.lanes n = Lane.start false false false none := by
  unfold Four.get
  split <;> rfl

/-- Settles O3: each register's value is read off the reset state. -/
theorem resetHoldsTheColdStart : Obligations.ResetHoldsTheColdStart := by
  unfold Obligations.ResetHoldsTheColdStart
  refine ⟨?_, rfl, ?_, ?_, reset_lane, rfl, rfl, rfl, rfl, rfl, rfl, rfl, ?_⟩
  · exact ⟨rfl, rfl, rfl, rfl, fun _ => rfl, fun _ => rfl, fun _ => rfl, fun _ => rfl, rfl⟩
  · exact ⟨fun _ => rfl, fun _ => rfl, rfl, rfl, rfl, rfl⟩
  · exact ⟨fun _ => rfl, rfl, rfl, fun _ => rfl, rfl, rfl, fun _ => rfl⟩
  · decide

end Sys2Proof.Machine
end

section
/-! The requests as the link serves them: what each runs, and when nothing runs. -/

namespace Sys2Proof.Machine

/-! ## What each request runs -/

/-- What the link runs for each request of the catalogue, and for the two kinds of frame that it answers
itself. -/
def requestRun : Instr → Option (State → State × Answer)
  | .badFrame _ _ => some answerFrame
  | .unknownCode _ _ => some answerUnknown
  | .summary _ q => some (judged .always q blockSummary)
  | .noticeFetch _ q => some (judged .always q blockNoticeFetch)
  | .orderFetch _ q => some (judged .always q blockOrderFetch)
  | .loadBegin _ q => some (judged .whenUnloaded q blockLoadBegin)
  | .loadEnd _ q _ => some (judged .whenLoading q blockLoadEnd)
  | .cardPut _ q => some (judged .fromLoading q blockCardPut)
  | .cardRead _ q => some (judged .always q blockCardRead)
  | .cardReissue _ q => some (judged .fromLoading q blockCardReissue)
  | .cardRetire _ q => some (judged .fromLoading q blockCardRetire)
  | .accountPut _ q => some (judged .fromLoading q blockAccountPut)
  | .accountRead _ q => some (judged .always q blockAccountRead)
  | .accountCredit _ q => some (judged .fromLoading q blockAccountCredit)
  | .accountRetire _ q => some (judged .fromLoading q blockAccountRetire)
  | .doorPut _ q => some (judged .fromLoading q blockDoorPut)
  | .doorRead _ q => some (judged .always q blockDoorRead)
  | .categoryPut _ q => some (judged .always q blockCategoryPut)
  | .regionPut _ q => some (judged .always q blockRegionPut)
  | .tierPut _ q _ => some (judged .always q blockTierPut)
  | .settingPut _ q => some (judged .always q blockSettingPut)
  | .settingRead _ q => some (judged .always q blockSettingRead)
  | .doorCard _ q => some (judged .whenLoaded q blockDoorCard)
  | .doorReport _ q => some (judged .whenLoaded q blockDoorReport)
  | .charge _ q => some (judged .whenLoaded q blockCharge)
  | .void _ q => some (judged .whenLoaded q blockVoid)
  | .tabOpen _ q => some (judged .whenLoaded q blockTabOpen)
  | .tabAdd _ q => some (judged .whenLoaded q blockTabAdd)
  | .tabClose _ q => some (judged .whenLoaded q blockTabClose)
  | .tabRead _ q => some (judged .always q blockTabRead)
  | .postFetch _ q => some (judged .always q blockPostFetch)
  | .postRelease _ q => some (judged .always q blockPostRelease)
  | .postRewind _ q => some (judged .always q blockPostRewind)
  | .laneOpen _ q => some (judged .whenLoaded q blockLaneOpen)
  | .laneClose _ q => some (judged .whenLoaded q blockLaneClose)
  | .laneRead _ q => some (judged .always q blockLaneRead)
  | .gangwayCard _ q => some (judged .whenLoaded q blockGangwayCard)
  | .presenceSet _ q => some (judged .whenLoaded q blockPresenceSet)
  | .allaboardQuery _ q => some (judged .whenLoaded q blockAllAboard)
  | .timeSet _ q => some (judged .always q blockTimeSet)
  | .dayRoll _ q _ => some (judged .whenLoaded q blockDayRoll)
  | .portArrive _ q => some (judged .whenLoaded q blockPortArrive)
  | .sail _ q _ => some (judged .whenLoaded q blockSail)
  | .modeSetSecure _ _ => some (judged .whenLoaded (.fit ()) blockSecure)
  | .modeSetService _ q => some (judged .whenLoaded q blockModeCode)
  | .retain _ q => some (judged .always q blockRetain)
  | .restartWarm _ q => some (judged .always q blockRestartCode)
  | .restartCold _ => some (judged .always (.fit ()) blockRestartCold)
  | _ => none

/-- Whether the command says that its execution takes time (log 3). -/
def requestSpan : Instr → Span
  | .loadEnd _ _ span => span
  | .tierPut _ _ span => span
  | .dayRoll _ _ span => span
  | .sail _ _ span => span
  | .modeSetSecure _ span => span
  | _ => .whole

variable {c : Instr} {run : State → State × Answer}

/-- `exec` serves each request with what the table gives. -/
theorem exec_request (h : requestRun c = some run) (s : State) : exec c s = serveFor (requestSpan c) c run s := by
  cases c <;> cases h <;> rfl

/-- A command that is as its frame spells it is executed whole. -/
theorem span_of_asFramed (h : c.asFramed = c) : requestSpan c = .whole := by
  cases c with
  | loadEnd _ _ span => injection h with _ _ e; exact e.symm
  | tierPut _ _ span => injection h with _ _ e; exact e.symm
  | dayRoll _ _ span => injection h with _ _ e; exact e.symm
  | sail _ _ span => injection h with _ _ e; exact e.symm
  | modeSetSecure _ span => injection h with _ e; exact e.symm
  | _ => rfl

theorem exec_framed (h : requestRun c = some run) (framed : c.asFramed = c) (s : State) :
    exec c s = serve c run s := by
  rw [exec_request h, span_of_asFramed framed]
  rfl

/-- A request of the catalogue is judged by its length and by its row of the gate's table. -/
theorem requestRun_judged {k : Byte} (h : c.code = some k) :
    ∃ (α : Type) (gate : Gate) (q : Body α) (block : α → State → State × Answer),
      requestRun c = some (judged gate q block) ∧ c.gate = some gate ∧ c.misfits = q.isMisfit := by
  cases c <;> cases h <;> exact ⟨_, _, _, _, rfl, rfl, rfl⟩

theorem judged_misfit {α : Type} {q : Body α} (h : q.isMisfit = true) (gate : Gate)
    (block : α → State → State × Answer) (s : State) : judged gate q block s = (s, .refused .length) := by
  cases q with
  | fit x => cases h
  | misfit n => rfl

theorem judged_refused {α : Type} {q : Body α} (h : q.isMisfit = false) {gate : Gate} {s : State} {st : Status}
    (hg : gate.refusal s.store.opState = some st) (block : α → State → State × Answer) :
    judged gate q block s = (s, .refused st) := by
  cases q with
  | fit x => simp only [judged, hg]
  | misfit n => cases h

theorem replyCode_of_code {k : Byte} (h : c.code = some k) : replyCode c = k + 0x80#8 := by
  simp only [replyCode, h]

/-- Settles O7: the link's judgement, in the state that the frame's arrival leaves. -/
theorem lengthAndOperatingStateAreJudgedFirst : Obligations.LengthAndOperatingStateAreJudgedFirst := by
  unfold Obligations.LengthAndOperatingStateAreJudgedFirst
  intro c k s ready framed code
  obtain ⟨α, gate, q, block, runs, gateOf, misfits⟩ := requestRun_judged code
  refine ⟨fun misfit => ?_, fun g st fits gate' refused => ?_⟩
  · rw [exec_framed runs framed, ← replyCode_of_code code]
    exact serve_replied ready (judged_misfit (misfits ▸ misfit) gate block _) rfl rfl rfl
  · rw [exec_framed runs framed, ← replyCode_of_code code]
    cases gateOf.symm.trans gate'
    have refused' : gate.refusal (s.entering c.asFramed).store.opState = some st := refused
    exact serve_replied (t := s) ready (judged_refused (misfits ▸ fits) refused' block) rfl rfl rfl

/-- Settles O11: neither frame is judged or handed to a block. -/
theorem badFramesAndUnknownCodesAreAnswered : Obligations.BadFramesAndUnknownCodesAreAnswered := by
  unfold Obligations.BadFramesAndUnknownCodesAreAnswered
  intro s m code tag ready
  exact ⟨serve_replied (c := .badFrame m tag) (run := answerFrame) ready rfl rfl rfl rfl,
    serve_replied (c := .unknownCode code tag) (run := answerUnknown) ready rfl rfl rfl rfl⟩

/-! ## When nothing runs -/

/-- A request that is not in execution waits for nothing while no frame is taken (R165, R166). -/
theorem turn_of_refused {s : State} (h : s.takesFrames = false) (other : s.link.executing ≠ some c.asFramed) :
    s.turn c = .waits s := by
  simp only [State.turn, if_neg other, h, Bool.false_eq_true, if_false, ite_self]

theorem exec_of_waits {s t : State} (h : requestRun c = some run) (waits : s.turn c = .waits t) :
    exec c s = .next t := by
  rw [exec_request h]
  cases requestSpan c with
  | whole => simp only [serveFor, serve, waits]
  | takesTime => simp only [serveFor, waits]

theorem exec_frameReceived (began : Reception) (sdi : List Byte) (s : State) :
    exec (.frameReceived began sdi) s = .next (s.receive began sdi) := rfl

theorem transfer_of_link {s : State} {t : Transfer} (h : s.link.transfer = some t) : s.transfer = t := by
  rw [State.transfer, h]
  rfl

theorem receive_none {sdi : List Byte} (h : receiveFrame sdi = none) (s : State) (began : Reception) :
    s.receive began sdi = s := by
  simp only [State.receive, h]

section
variable {s : State} {sdi : List Byte} {f : Frame} {t : Transfer} (frame : receiveFrame sdi = some f)
  (under : s.link.transfer = some t)
include frame under

/-- Only the first frame of a transfer counts (R153). -/
theorem receive_second (framed : t.framed = true) (began : Reception) : s.receive began sdi = s := by
  simp only [State.receive, frame, transfer_of_link under, framed, if_true]

theorem receive_discarded {began : Reception} (first : t.framed = false)
    (out : s.takesFrames = false ∨ began = .beforeWake) : s.receive began sdi = s.discardFrame := by
  have refused : (s.takesFrames && decide (began = .inOperation)) = false := by
    rcases out with out | rfl
    · rw [out]; rfl
    · exact Bool.and_false _
  simp only [State.receive, frame, transfer_of_link under, first, refused, if_false, Bool.false_eq_true]

theorem receive_accepted (first : t.framed = false) (takes : s.takesFrames = true) :
    s.receive .inOperation sdi = s.acceptFrame f := by
  simp only [State.receive, frame, transfer_of_link under, first, takes, decide_true, Bool.and_self, if_true,
    if_false, Bool.false_eq_true]

end

theorem discardFrame_eq {s : State} {t : Transfer} (h : s.link.transfer = some t) :
    s.discardFrame = s.setLink { s.link with transfer := some { t with framed := true } } := by
  rw [State.discardFrame, transfer_of_link h]

theorem discardFrame_framed {s : State} {t : Transfer} (h : s.link.transfer = some t) (framed : t.framed = true) :
    s.discardFrame = s := by
  have same : some { t with framed := true } = s.link.transfer := by rw [h, ← framed]
  rw [discardFrame_eq h, same]
  rfl

/-- Settles O8. -/
theorem noFrameIsTakenOutsideOperation : Obligations.NoFrameIsTakenOutsideOperation := by
  unfold Obligations.NoFrameIsTakenOutsideOperation
  intro s began sdi refused
  refine ⟨fun none => ?_, fun t under some => ?_, fun c k code other => ?_⟩
  · rw [exec_frameReceived, receive_none none]
  · obtain ⟨f, frame⟩ := Option.isSome_iff_exists.mp some
    rw [exec_frameReceived, ← discardFrame_eq under]
    cases first : t.framed with
    | false => rw [receive_discarded frame under first (.inl refused)]
    | true => rw [receive_second frame under first, discardFrame_framed under first]
  · obtain ⟨α, gate, q, block, runs, -⟩ := requestRun_judged code
    exact exec_of_waits runs (turn_of_refused refused other)

/-! ## Frames and the reply queue (R155) -/

theorem offer_free {l : Link} (replied : l.places.all Place.isReply = true) (room : l.places.length < replyPlaces)
    (c : Instr) : l.offer c = { l with places := l.places ++ [.executing c], buffer := some c } := by
  rw [Link.offer, if_pos room]
  exact Link.beginNext_of_waiting (waits := []) rfl replied rfl

theorem offer_waits {l : Link} {k : Instr} (executing : l.executing = some k)
    (room : l.places.length < replyPlaces) (c : Instr) :
    l.offer c = { l with places := l.places ++ [.waiting c] } := by
  rw [Link.offer, if_pos room]
  refine Link.beginNext_of_executing (c := k) ?_
  have h : l.places.findSome? Place.executing? = some k := executing
  rw [Link.executing, List.findSome?_append, h]
  rfl

theorem offer_buffered {l : Link} (full : l.places.length = replyPlaces) (empty : l.buffer = none) (c : Instr) :
    l.offer c = { l with buffer := some c } := by
  rw [Link.offer, if_neg (Nat.not_lt.mpr full.ge), empty]
  rfl

theorem offer_discarded {l : Link} {k : Instr} (full : l.places.length = replyPlaces) (held : l.buffer = some k)
    (c : Instr) : l.offer c = l := by
  rw [Link.offer, if_neg (Nat.not_lt.mpr full.ge), held]
  rfl

theorem acceptFrame_eq {s : State} {f : Frame} {t : Transfer} {l : Link} (h : s.link.transfer = some t)
    (offered : s.link.offer f.request = l) :
    s.acceptFrame f = s.setLink { l with transfer := some { t with framed := true } } := by
  rw [State.acceptFrame, transfer_of_link h, offered]

/-- Settles O9: by the room of the reply queue and what is in it. -/
theorem framesGoByTheReplyQueue : Obligations.FramesGoByTheReplyQueue := by
  unfold Obligations.FramesGoByTheReplyQueue
  intro s sdi f t takes frame under first
  have accepted : exec (.frameReceived .inOperation sdi) s = .next (s.acceptFrame f) := by
    rw [exec_frameReceived, receive_accepted frame under first takes]
  refine ⟨fun replied room => ?_, fun c executing room => ?_, fun full empty => ?_, fun c full held => ?_, ?_,
    fun began u none => ?_, fun began u => ?_⟩
  · rw [accepted, acceptFrame_eq under (offer_free replied room _)]
  · rw [accepted, acceptFrame_eq under (offer_waits executing room _)]
  · rw [accepted, acceptFrame_eq under (offer_buffered full empty _)]
  · rw [accepted, acceptFrame_eq under (offer_discarded full held _)]
  · rw [exec_frameReceived, receive_discarded frame under first (.inr rfl), discardFrame_eq under]
  · rw [exec_frameReceived, receive_none none]
  · rw [exec_frameReceived]
    cases frame' : receiveFrame u with
    | none => rw [receive_none frame']
    | some g => rw [receive_second frame' rfl rfl]

/-! ## Transfers (R153, R157) -/

theorem exec_transferStart (s : State) : exec .transferStart s = .next s.beginTransfer := rfl

theorem exec_transferEnd (n : Nat) (s : State) : exec (.transferEnd n) s = .next (s.endTransfer n) := rfl

theorem beginTransfer_new {s : State} (h : s.link.transfer = none) :
    s.beginTransfer = s.setLink { s.link with transfer := some s.newTransfer } := by
  rw [State.beginTransfer, State.transfer, h]
  rfl

theorem headReply_none {l : Link} (h : ∀ r rest, l.places ≠ .reply r :: rest) : l.headReply = none := by
  unfold Link.headReply
  split
  next r rest e => exact absurd e (h r rest)
  next => rfl

theorem headReply_cons {l : Link} {r : Reply} {rest : List Place} (h : l.places = .reply r :: rest) :
    l.headReply = some r := by
  simp only [Link.headReply, h]

/-- Nothing is sent outside operation or without a reply at the head. -/
theorem newTransfer_idle {s : State} (h : s.takesFrames = false ∨ ∀ r rest, s.link.places ≠ .reply r :: rest) :
    s.newTransfer = ⟨none, false⟩ := by
  unfold State.newTransfer
  rcases h with refused | noReply
  · rw [if_neg (Bool.eq_false_iff.mp refused)]
  · rw [headReply_none noReply, ite_self]

theorem newTransfer_head {s : State} {r : Reply} {rest : List Place} (takes : s.takesFrames = true)
    (h : s.link.places = .reply r :: rest) : s.newTransfer = ⟨some r, false⟩ := by
  rw [State.newTransfer, if_pos takes, headReply_cons h]

section
variable {s : State} {t : Transfer} {n : Nat} (under : s.link.transfer = some t)
include under

/-- A transfer that has not clocked out the head reply in full takes nothing (R157). -/
theorem endTransfer_unread (unread : t.readsOut n s.link.headReply = false) :
    s.endTransfer n = s.setLink { s.link with transfer := none } := by
  rw [State.endTransfer, transfer_of_link under, unread]
  rfl

theorem endTransfer_read (read : t.readsOut n s.link.headReply = true) :
    s.endTransfer n = s.setLink (Link.readHead { s.link with transfer := none }) := by
  rw [State.endTransfer, transfer_of_link under, read]
  rfl

end

theorem readsOut_false {r : Reply} {b : Bool} {n : Nat} {s : State}
    (h : n < r.bytes.length ∨ ∀ rest, s.link.places ≠ .reply r :: rest) :
    Transfer.readsOut ⟨some r, b⟩ n s.link.headReply = false := by
  simp only [Transfer.readsOut, Bool.and_eq_false_iff, decide_eq_false_iff_not]
  refine h.imp Nat.not_le.mpr fun other head => ?_
  obtain ⟨rest, e⟩ := Link.headReply_eq head
  exact other rest e

theorem readsOut_true {r : Reply} {b : Bool} {n : Nat} {rest : List Place} {s : State} (long : r.bytes.length ≤ n)
    (head : s.link.places = .reply r :: rest) : Transfer.readsOut ⟨some r, b⟩ n s.link.headReply = true := by
  simp only [Transfer.readsOut, long, headReply_cons head, decide_true, Bool.and_self]

/-- The head reply is read while a request is in execution or nothing waits in the buffer. -/
theorem readHead_frees {l : Link} {r : Reply} {rest : List Place} (head : l.places = .reply r :: rest)
    (h : l.buffer = none ∨ ∃ c, l.executing = some c) : l.readHead = { l with places := rest } := by
  unfold Link.readHead
  rw [head]
  split
  next k executing held =>
    rcases h with empty | ⟨c, busy⟩
    · cases empty.symm.trans held
    · cases busy.symm.trans executing
  next => rfl

/-- The head reply is read and a frame that waits in the buffer takes the freed place. -/
theorem readHead_takes {l : Link} {r : Reply} {rest : List Place} {c : Instr}
    (head : l.places = .reply r :: rest) (replied : rest.all Place.isReply = true) (held : l.buffer = some c) :
    l.readHead = { l with places := rest ++ [.executing c], buffer := some c } := by
  have none : l.executing = none := by
    have all : l.places.all Place.isReply = true := by rw [head]; exact replied
    exact executing_of_replies all
  unfold Link.readHead
  simp only [none, held, head, List.tail_cons]
  exact Link.beginNext_of_waiting (waits := []) rfl replied rfl

/-- The bytes on SDO, one by one: the reply's, then idle ones. -/
theorem sdo_sending {s : State} {r : Reply} {b : Bool} (under : s.link.transfer = some ⟨some r, b⟩) (n : Nat) :
    s.sdo n = r.bytes.take n ++ List.replicate (n - r.bytes.length) idleByte := by
  simp only [State.sdo, under]
  rfl

/-- Settles O10. -/
theorem transfersReadTheHeadReply : Obligations.TransfersReadTheHeadReply := by
  unfold Obligations.TransfersReadTheHeadReply
  intro s n
  refine ⟨fun idle fresh => ?_, fun t under => ?_, fun b under => ⟨?_, ?_⟩, fun r b under => ⟨?_, fun i hi => ?_, fun unread => ?_⟩,
    fun r rest head => ⟨fun takes fresh => ?_, fun b under long => ⟨fun stays => ?_, fun c replied held => ?_⟩⟩⟩
  · rw [exec_transferStart, beginTransfer_new fresh, newTransfer_idle idle]
  · rw [exec_transferStart, State.beginTransfer, transfer_of_link under, ← under]
    rfl
  · rw [exec_transferEnd, endTransfer_unread under rfl]
  · simp only [State.sdo, under]
    exact congrArg (· ++ _) List.take_nil
  · rw [sdo_sending under, List.length_append, List.length_take, List.length_replicate]
    omega
  · rw [sdo_sending under, List.getElem?_append, List.length_take]
    split
    next inside => rw [List.getElem?_take_of_lt hi, List.getD_eq_getElem?_getD, List.getElem?_eq_getElem (by omega)]; rfl
    next outside =>
      rw [List.getElem?_replicate, if_pos (by omega), List.getD_eq_default _ _ (by omega)]
      rfl
  · rw [exec_transferEnd, endTransfer_unread under (readsOut_false unread)]
  · rw [exec_transferStart, beginTransfer_new fresh, newTransfer_head takes head]
  · rw [exec_transferEnd, endTransfer_read under (readsOut_true long head),
      readHead_frees (l := { s.link with transfer := none }) head stays]
  · rw [exec_transferEnd, endTransfer_read under (readsOut_true long head),
      readHead_takes (l := { s.link with transfer := none }) head replied held]

end Sys2Proof.Machine
end

section
/-! SUPPORT. A request's block does not look at the reply queue, the request buffer or the Retention Unit: what it
does is the same whatever these hold. The owning blocks commute with a change of the three. -/

namespace Sys2Proof.Machine

/-- What the blocks do not look at: the reply queue, the request buffer and the Retention Unit. -/
structure LinkHead where
  places : List Place
  buffer : Option Instr
  retention : Retention

/-- The state with other ones of these. -/
def State.under (s : State) (h : LinkHead) : State :=
  { s with retention := h.retention, link := { s.link with places := h.places, buffer := h.buffer } }

/-- Those that a state has. -/
def State.head (s : State) : LinkHead := ⟨s.link.places, s.link.buffer, s.retention⟩

section
variable (s : State) (h : LinkHead)

@[simp] theorem under_head : s.under s.head = s := rfl
@[simp] theorem head_under : (s.under h).head = h := rfl
@[simp] theorem under_under (g : LinkHead) : (s.under g).under h = s.under h := rfl

/-! ## What reads the same -/

@[simp] theorem under_store : (s.under h).store = s.store := rfl
@[simp] theorem under_tracker : (s.under h).tracker = s.tracker := rfl
@[simp] theorem under_engine : (s.under h).engine = s.engine := rfl
@[simp] theorem under_doorUnit : (s.under h).doorUnit = s.doorUnit := rfl
@[simp] theorem under_scheduler : (s.under h).scheduler = s.scheduler := rfl
@[simp] theorem under_readers : (s.under h).readers = s.readers := rfl
@[simp] theorem under_lanes : (s.under h).lanes = s.lanes := rfl
@[simp] theorem under_clock : (s.under h).clock = s.clock := rfl
@[simp] theorem under_freeCount : (s.under h).freeCount = s.freeCount := rfl
@[simp] theorem under_pending : (s.under h).pending = s.pending := rfl
@[simp] theorem under_notices : (s.under h).link.notices = s.link.notices := rfl
@[simp] theorem under_lost : (s.under h).link.lost = s.link.lost := rfl
@[simp] theorem under_channel (d : Nat) : (s.under h).channel d = s.channel d := rfl
@[simp] theorem under_bus (b : Nat) : (s.under h).bus b = s.bus b := rfl
@[simp] theorem under_doorConfig (d : Nat) : (s.under h).doorConfig d = s.doorConfig d := rfl
@[simp] theorem under_reader (d : Nat) : (s.under h).reader d = s.reader d := rfl
@[simp] theorem under_tabSlot (k : Nat) : (s.under h).tabSlot k = s.tabSlot k := rfl
@[simp] theorem under_terminalTabs (n : Nat) : (s.under h).terminalTabs n = s.terminalTabs n := rfl
@[simp] theorem under_cardByUid (uid : Nat) : (s.under h).cardByUid uid = s.cardByUid uid := rfl
@[simp] theorem under_accountByNumber (n : Nat) : (s.under h).accountByNumber n = s.accountByNumber n := rfl
@[simp] theorem under_category (n : Nat) : (s.under h).category n = s.category n := rfl
@[simp] theorem under_taxRate : (s.under h).taxRate = s.taxRate := rfl
@[simp] theorem under_tier (n : Nat) : (s.under h).tier n = s.tier n := rfl
@[simp] theorem under_tierAllowance (n : Nat) : (s.under h).tierAllowance n = s.tierAllowance n := rfl
@[simp] theorem under_tierCovers (n c : Nat) : (s.under h).tierCovers n c = s.tierCovers n c := rfl
@[simp] theorem under_workingAllowance (c : Card) : (s.under h).workingAllowance c = s.workingAllowance c := rfl
@[simp] theorem under_lane (n : Nat) : (s.under h).lane n = s.lane n := rfl
@[simp] theorem under_orderRoom : (s.under h).orderRoom = s.orderRoom := rfl
@[simp] theorem under_postRoom : (s.under h).postRoom = s.postRoom := rfl
@[simp] theorem under_countedReleases (b : Nat) : (s.under h).countedReleases b = s.countedReleases b := rfl
@[simp] theorem under_mayRelease (b : Nat) : (s.under h).mayRelease b = s.mayRelease b := rfl
@[simp] theorem under_loaded : (s.under h).loaded = s.loaded := rfl
@[simp] theorem under_present (uid issue : Nat) : (s.under h).present uid issue = s.present uid issue := rfl
@[simp] theorem under_settleRecord (x : Tab) (r : CloseReason) : (s.under h).settleRecord x r = s.settleRecord x r := rfl
@[simp] theorem under_canSettle (x : Tab) : (s.under h).canSettle x = s.canSettle x := rfl
@[simp] theorem under_openTabsOf (k : Nat) : (s.under h).openTabsOf k = s.openTabsOf k := rfl
@[simp] theorem under_owingDoors : (s.under h).owingDoors = s.owingDoors := rfl
@[simp] theorem under_releasedDoors : (s.under h).releasedDoors = s.releasedDoors := rfl
@[simp] theorem under_standingRequests : (s.under h).standingRequests = s.standingRequests := rfl
@[simp] theorem under_effectiveLanes : (s.under h).effectiveLanes = s.effectiveLanes := rfl
@[simp] theorem under_cardView (k : Nat) (c : Card) : (s.under h).cardView k c = s.cardView k c := rfl
@[simp] theorem under_adultDepartureAge (n : Nat) : (s.under h).adultDepartureAge n = s.adultDepartureAge n := rfl
@[simp] theorem under_needsEscort (c : Card) : (s.under h).needsEscort c = s.needsEscort c := rfl
@[simp] theorem under_classRefusal (c : Card) (d : Nat) : (s.under h).classRefusal c d = s.classRefusal c d := rfl
@[simp] theorem under_doorRefusal (c : Card) (d : Nat) : (s.under h).doorRefusal c d = s.doorRefusal c d := rfl
@[simp] theorem under_refusalsWith (l : List Nat) : (s.under h).refusalsWith l = s.refusalsWith l := rfl
@[simp] theorem under_freeTab : (s.under h).freeTab = s.freeTab := rfl
@[simp] theorem under_idleDeadline : (s.under h).idleDeadline = s.idleDeadline := rfl
@[simp] theorem under_holdInForce (n : Nat) : (s.under h).holdInForce n = s.holdInForce n := rfl
@[simp] theorem under_ownTab (k g t : Nat) : (s.under h).ownTab k g t = s.ownTab k g t := rfl
@[simp] theorem under_ashoreOf (c : CardClass) : (s.under h).ashoreOf c = s.ashoreOf c := rfl
@[simp] theorem under_alcoholLine (ls : List Line) : (s.under h).alcoholLine ls = s.alcoholLine ls := rfl
@[simp] theorem under_loadCheck : (s.under h).loadCheck = s.loadCheck := rfl
@[simp] theorem under_referenceFailure (g : CardConfig) : (s.under h).referenceFailure g = s.referenceFailure g := rfl
@[simp] theorem under_cardsNaming (n : Nat) : (s.under h).cardsNaming n = s.cardsNaming n := rfl
@[simp] theorem under_doorInUse (d : Nat) (g : DoorConfig) : (s.under h).doorInUse d g = s.doorInUse d g := rfl
@[simp] theorem under_readerBlocked (d : Nat) : (s.under h).readerBlocked d = s.readerBlocked d := rfl
@[simp] theorem under_voidRefusal (p : Posting) (n : Nat) : (s.under h).voidRefusal p n = s.voidRefusal p n := rfl
@[simp] theorem under_laneView (n : Nat) : (s.under h).laneView n = s.laneView n := rfl
@[simp] theorem under_summary : (s.under h).summary = s.summary := rfl
@[simp] theorem under_chargeRecord (q : ChargeReq) (c : Card) (x : Sums) :
    (s.under h).chargeRecord q c x = s.chargeRecord q c x := rfl
@[simp] theorem under_tabView (x : Tab) (d : Option Nat) (r : Option CloseReason) (p : Option Nat) :
    (s.under h).tabView x d r p = s.tabView x d r p := rfl
@[simp] theorem under_cardAnswer (k : Nat) (c : Card) : (s.under h).cardAnswer k c = s.cardAnswer k c := rfl
@[simp] theorem under_reconfigured (c : Card) (g : CardConfig) : (s.under h).reconfigured c g = s.reconfigured c g := rfl

theorem linesSums_under (c : Card) (ls : List Line) : ∀ a, (s.under h).linesSums c a ls = s.linesSums c a ls := by
  induction ls with
  | nil => exact fun _ => rfl
  | cons l ls ih => exact fun a => congrArg (_ :: ·) (ih _)

/-! ## Single writes -/

@[simp] theorem setCard_under (k : Nat) (c : Card) : (s.under h).setCard k c = (s.setCard k c).under h := rfl
@[simp] theorem setAccount_under (k : Nat) (a : Account) : (s.under h).setAccount k a = (s.setAccount k a).under h := rfl
@[simp] theorem setSettings_under (v : Settings) : (s.under h).setSettings v = (s.setSettings v).under h := rfl
@[simp] theorem setChannel_under (d : Nat) (c : Channel) : (s.under h).setChannel d c = (s.setChannel d c).under h := rfl
@[simp] theorem setChannelState_under (d : Nat) (v : ChannelState) :
    (s.under h).setChannelState d v = (s.setChannelState d v).under h := rfl
@[simp] theorem setReader_under (d : Nat) (r : Reader) : (s.under h).setReader d r = (s.setReader d r).under h := rfl
@[simp] theorem setBus_under (b : Nat) (v : Bus) : (s.under h).setBus b v = (s.setBus b v).under h := rfl
@[simp] theorem placeOrder_under (k : OrderKind) (d : Nat) : (s.under h).placeOrder k d = (s.placeOrder k d).under h := rfl
@[simp] theorem setLane_under (n : Nat) (l : Lane) : (s.under h).setLane n l = (s.setLane n l).under h := rfl
@[simp] theorem setTabSlot_under (k : Nat) (v : TabSlot) : (s.under h).setTabSlot k v = (s.setTabSlot k v).under h := rfl
@[simp] theorem setTerminalTabs_under (k n : Nat) : (s.under h).setTerminalTabs k n = (s.setTerminalTabs k n).under h := rfl
@[simp] theorem setDoorConfig_under (d : Nat) (g : DoorConfig) :
    (s.under h).setDoorConfig d g = (s.setDoorConfig d g).under h := rfl
@[simp] theorem setMode_under (o : OpState) (m : Mode) : (s.under h).setMode o m = (s.setMode o m).under h := rfl
@[simp] theorem newCard_under (k u i : Nat) (g : CardConfig) (p : Presence) :
    (s.under h).newCard k u i g p = (s.newCard k u i g p).under h := rfl
@[simp] theorem changeCard_under (k : Nat) (c : Card) (g : CardConfig) :
    (s.under h).changeCard k c g = (s.changeCard k c g).under h := rfl
@[simp] theorem removeCard_under (k : Nat) (c : Card) : (s.under h).removeCard k c = (s.removeCard k c).under h := rfl
@[simp] theorem relocate_under (k : Nat) (c : Card) (p : Presence) (n : Option Nat) :
    (s.under h).relocate k c p n = (s.relocate k c p n).under h := rfl
@[simp] theorem enterService_under : (s.under h).enterService = (s.enterService).under h := rfl
@[simp] theorem auditSchedule_under : (s.under h).auditSchedule = (s.auditSchedule).under h := rfl
@[simp] theorem gateEffective_under (n : Nat) : (s.under h).gateEffective n = (s.gateEffective n).under h := rfl
@[simp] theorem withdraw_under (d : Nat) : (s.under h).withdraw d = (s.withdraw d).under h := rfl
@[simp] theorem openDoor_under (d : Nat) : (s.under h).openDoor d = (s.openDoor d).under h := rfl
@[simp] theorem secureDoor_under (d : Nat) : (s.under h).secureDoor d = (s.secureDoor d).under h := rfl
@[simp] theorem setPostings_under (ps : List Posting) : (s.under h).setPostings ps = (s.setPostings ps).under h := rfl
@[simp] theorem removePostings_under (d : Nat) : (s.under h).removePostings d = (s.removePostings d).under h := rfl
@[simp] theorem openTab_under (k t c n : Nat) (a : Account) (m : Nat) :
    (s.under h).openTab k t c n a m = (s.openTab k t c n a m).under h := rfl
@[simp] theorem acceptAdd_under (q : TabAddReq) (t : Tab) (c : Card) (a : Account) (x : Sums) (m : Nat) :
    (s.under h).acceptAdd q t c a x m = (s.acceptAdd q t c a x m).under h := rfl
@[simp] theorem markVoided_under (n : Nat) : (s.under h).markVoided n = (s.markVoided n).under h := rfl

end

end Sys2Proof.Machine
end

section
/-! SUPPORT. The operations that branch do so alike under another reply queue, request buffer and Retention Unit. -/

namespace Sys2Proof.Machine

/-! ## Results with a state in them -/

/-- A block's result with the state's reply queue, buffer and Retention Unit replaced. -/
def underBoth {α : Type} (r : State × α) (h : LinkHead) : State × α := (r.1.under h, r.2)
def GrantResult.under (g : GrantResult) (h : LinkHead) : GrantResult := { g with state := g.state.under h }
def Lockdown.under (l : Lockdown) (h : LinkHead) : Lockdown := { l with state := l.state.under h }
def Departed.under (d : Departed) (h : LinkHead) : Departed := { d with state := d.state.under h }
def Served.under (v : Served) (h : LinkHead) : Served := { v with state := v.state.under h }

@[simp] theorem underBoth_mk {α : Type} (s : State) (a : α) (h : LinkHead) : underBoth (s, a) h = (s.under h, a) := rfl

section
variable (c : Prop) [Decidable c] (h : LinkHead)

@[simp] theorem under_ite (x y : State) : (if c then x else y).under h = if c then x.under h else y.under h :=
  apply_ite (State.under · h) c x y
@[simp] theorem underBoth_ite {α : Type} (x y : State × α) :
    underBoth (if c then x else y) h = if c then underBoth x h else underBoth y h :=
  apply_ite (underBoth · h) c x y
@[simp] theorem grantUnder_ite (x y : GrantResult) :
    (if c then x else y).under h = if c then x.under h else y.under h := apply_ite (GrantResult.under · h) c x y
@[simp] theorem departedUnder_ite (x y : Departed) :
    (if c then x else y).under h = if c then x.under h else y.under h := apply_ite (Departed.under · h) c x y
@[simp] theorem servedUnder_ite (x y : Served) :
    (if c then x else y).under h = if c then x.under h else y.under h := apply_ite (Served.under · h) c x y

end

section
variable (s : State) (h : LinkHead)

/-! ## Notices and doors -/

@[simp] theorem raise_under (b : NoticeBody) : (s.under h).raise b = (s.raise b).under h := by
  simp only [State.raise, under_notices, under_clock, under_ite]
  rfl

@[simp] theorem callRelatch_under (d : Nat) (v : ChannelState) :
    (s.under h).callRelatch d v = (s.callRelatch d v).under h := by
  simp only [State.callRelatch, under_orderRoom, under_ite]
  rfl

@[simp] theorem release_under (b : Nat) : (s.under h).release b = (s.release b).under h := by
  cases e : (s.bus b).queue <;>
    simp only [State.release, under_bus, e]
  rfl

theorem considerFor_under (fuel b : Nat) :
    ∀ s : State, (s.under h).considerFor fuel b = (s.considerFor fuel b).under h := by
  induction fuel with
  | zero => exact fun _ => rfl
  | succ n ih =>
    intro s
    simp only [State.considerFor, under_mayRelease, release_under, ih, under_ite]

@[simp] theorem consider_under (b : Nat) : (s.under h).consider b = (s.consider b).under h :=
  considerFor_under h _ b s

theorem rotateFor_under (fuel : Nat) :
    ∀ s : State, State.rotateFor fuel (s.under h) = (State.rotateFor fuel s).under h := by
  induction fuel with
  | zero => exact fun _ => rfl
  | succ n ih =>
    intro s
    have same : (s.under h).mayRelease = s.mayRelease := rfl
    cases e : (rotation s.scheduler.latestBus).find? s.mayRelease <;>
      simp only [State.rotateFor, same, under_scheduler, release_under, ih, e]

@[simp] theorem considerAll_under : (s.under h).considerAll = s.considerAll.under h := rotateFor_under h _ s

/-- A fold of steps that commute with the change commutes with it. -/
theorem foldl_under {α : Type} {f : State → α → State} (hf : ∀ s x, f (s.under h) x = (f s x).under h)
    (xs : List α) : ∀ s : State, xs.foldl f (s.under h) = (xs.foldl f s).under h := by
  induction xs with
  | nil => exact fun _ => rfl
  | cons x xs ih =>
    intro s
    rw [List.foldl_cons, List.foldl_cons, hf, ih]

@[simp] theorem serveOwed_under (d : Nat) : (s.under h).serveOwed d = (s.serveOwed d).under h := by
  simp only [State.serveOwed, under_orderRoom, under_channel, callRelatch_under, under_ite]

@[simp] theorem refill_under : (s.under h).refill = s.refill.under h := by
  rw [State.refill, under_owingDoors, foldl_under h fun s d => serveOwed_under s h d, considerAll_under]
  rfl

@[simp] theorem reportOpen_under (d : Nat) : (s.under h).reportOpen d = (s.reportOpen d).under h := by
  cases e : (s.channel d).state <;>
    simp only [State.reportOpen, under_channel, withdraw_under, openDoor_under, e]

@[simp] theorem reportLatched_under (d : Nat) : (s.under h).reportLatched d = (s.reportLatched d).under h := by
  cases e : (s.channel d).state <;> simp only [State.reportLatched, under_channel, secureDoor_under, under_ite, e]
  rfl

@[simp] theorem reportUnlatched_under (d : Nat) :
    (s.under h).reportUnlatched d = (s.reportUnlatched d).under h := by
  cases e : (s.channel d).state <;>
    simp only [State.reportUnlatched, under_channel, callRelatch_under, setChannelState_under, under_ite, e]

@[simp] theorem reportTransition_under (d : Nat) (c : Contact) (l : Latch) :
    (s.under h).reportTransition d c l = (s.reportTransition d c l).under h := by
  cases c with
  | opened => exact reportOpen_under s h d
  | closed =>
    cases l with
    | latched => exact reportLatched_under s h d
    | unlatched => exact reportUnlatched_under s h d

@[simp] theorem takeReport_under (d : Nat) (c : Contact) (l : Latch) (dnd poll : Bool) :
    (s.under h).takeReport d c l dnd poll = (s.takeReport d c l dnd poll).under h :=
  reportTransition_under (s.setChannel d _) h d c l

@[simp] theorem strikeRequest_under (d : Nat) : (s.under h).strikeRequest d = (s.strikeRequest d).under h := by
  simp only [State.strikeRequest, under_doorConfig, under_bus, setBus_under, under_channel, setChannel_under,
    consider_under, grantUnder_ite]
  rfl

@[simp] theorem grantAt_under (d : Nat) : (s.under h).grantAt d = (s.grantAt d).under h := by
  cases e : (s.channel d).state <;> simp only [State.grantAt, under_channel, strikeRequest_under, e] <;> rfl

@[simp] theorem deliver_under (o : Order) : (s.under h).deliver o = (s.deliver o).under h := by
  unfold State.deliver
  simp only [under_channel]
  split <;> rfl

@[simp] theorem fetchOrders_under : (s.under h).fetchOrders = s.fetchOrders.under h :=
  foldl_under h (fun s o => deliver_under s h o) _
    { s with scheduler := { s.scheduler with orders := s.scheduler.orders.drop 8 } }

@[simp] theorem cancelRequests_under : (s.under h).cancelRequests = s.cancelRequests.under h :=
  foldl_under h (f := fun x d => x.setChannel d (x.channel d).cancelled) (fun _ _ => rfl) _
    { s with scheduler := { s.scheduler with
      buses := s.scheduler.buses.foldl (fun t e => Table.set Bus.start t e.1 e.2.emptied) s.scheduler.buses } }

theorem visit_under (l : Lockdown) (d : Nat) : (l.under h).visit d = (l.visit d).under h := by
  cases e : (l.state.channel d).state <;>
    simp only [Lockdown.visit, Lockdown.under, under_channel, callRelatch_under, under_orderRoom, e]
  rfl

@[simp] theorem lockDoors_under : (s.under h).lockDoors = s.lockDoors.under h := by
  have visits : ∀ (ds : List Nat) (l : Lockdown), ds.foldl Lockdown.visit (l.under h) =
      (ds.foldl Lockdown.visit l).under h := by
    intro ds
    induction ds with
    | nil => exact fun _ => rfl
    | cons d ds ih =>
      intro l
      rw [List.foldl_cons, List.foldl_cons, visit_under, ih]
  simp only [State.lockDoors, cancelRequests_under, under_releasedDoors]
  exact visits _ ⟨s.cancelRequests, 0⟩

/-! ## Lanes -/

@[simp] theorem gateLoss_under (n : Nat) (r : HoldReason) : (s.under h).gateLoss n r = (s.gateLoss n r).under h :=
  raise_under (s.setLane n _) h _

@[simp] theorem setSoftGate_under (n : Nat) : (s.under h).setSoftGate n = (s.setSoftGate n).under h := by
  simp only [State.setSoftGate, under_lane, setLane_under, gateEffective_under, under_ite]
  rfl

@[simp] theorem clearSoftGate_under (n : Nat) (r : HoldReason) :
    (s.under h).clearSoftGate n r = (s.clearSoftGate n r).under h := by
  simp only [State.clearSoftGate, under_lane, setLane_under, gateLoss_under, under_ite]

@[simp] theorem closeLanes_under (r : HoldReason) : (s.under h).closeLanes r = (s.closeLanes r).under h :=
  foldl_under h (fun s n => clearSoftGate_under s h n r) _ s

@[simp] theorem tailgate_under (n : Nat) (d : Direction) : (s.under h).tailgate n d = (s.tailgate n d).under h := by
  simp only [State.tailgate, under_lane, under_store, setLane_under, raise_under, under_ite]

@[simp] theorem countScan_under (n : Nat) (d : Direction) :
    (s.under h).countScan n d = (s.countScan n d).under h :=
  tailgate_under (s.setLane n _) h n d

/-! ## Postings and tabs -/

@[simp] theorem appendPosting_under (p : Posting) : (s.under h).appendPosting p = (s.appendPosting p).under h := by
  simp only [State.appendPosting, under_engine, under_store, under_ite, ← raise_under]
  rfl

@[simp] theorem releaseTab_under (slot : Nat) (t : Tab) :
    (s.under h).releaseTab slot t = (s.releaseTab slot t).under h := by
  cases e : Table.find s.store.accounts t.accountSlot <;> simp only [State.releaseTab, under_store, e] <;> rfl

@[simp] theorem settle_under (slot : Nat) (t : Tab) (r : CloseReason) :
    (s.under h).settle slot t r = (s.settle slot t r).under h := by
  simp only [State.settle, under_settleRecord, appendPosting_under, ← under_ite, releaseTab_under]

@[simp] theorem forceSettle_under (slot : Nat) (t : Tab) (r : CloseReason) :
    (s.under h).forceSettle slot t r = (s.forceSettle slot t r).under h := by
  simp only [State.forceSettle, under_canSettle, settle_under, under_ite]
  rfl

theorem departedTab_under (d : Departed) (slot : Nat) : (d.under h).tab slot = (d.tab slot).under h := by
  cases e : (d.state.tabSlot slot).state <;>
    simp only [Departed.tab, Departed.under, under_tabSlot, under_canSettle, forceSettle_under, e]
  next t deadline => cases d.state.canSettle t <;> rfl

@[simp] theorem settleDeparted_under (k : Nat) : (s.under h).settleDeparted k = (s.settleDeparted k).under h := by
  have tabs : ∀ (slots : List Nat) (d : Departed), slots.foldl Departed.tab (d.under h) =
      (slots.foldl Departed.tab d).under h := by
    intro slots
    induction slots with
    | nil => exact fun _ => rfl
    | cons slot slots ih =>
      intro d
      rw [List.foldl_cons, List.foldl_cons, departedTab_under, ih]
  exact tabs _ ⟨s, 0, 0⟩

theorem go_under (slots : List Nat) : ∀ v : Served, Served.go slots (v.under h) = (Served.go slots v).under h := by
  induction slots with
  | nil => exact fun _ => rfl
  | cons slot rest ih =>
    intro v
    cases e : (v.state.tabSlot slot).state with
    | free => simp only [Served.go, Served.under, under_tabSlot, e]
    | opened t d => simp only [Served.go, Served.under, under_tabSlot, e]
    | closing t r =>
      have settled := ih ⟨State.settle { v.state with engine := { v.state.engine with waiting := rest } } slot t r,
        v.settled + 1⟩
      have same : State.settle { v.state.under h with engine := { v.state.engine with waiting := rest } } slot t r =
          (State.settle { v.state with engine := { v.state.engine with waiting := rest } } slot t r).under h :=
        settle_under { v.state with engine := { v.state.engine with waiting := rest } } h slot t r
      simp only [Served.go, Served.under, under_tabSlot, e, under_canSettle, under_engine, same] at settled ⊢
      rw [settled]
      cases v.state.canSettle t <;> rfl

@[simp] theorem serveWaiting_under : (s.under h).serveWaiting = s.serveWaiting.under h :=
  go_under h _ ⟨s, 0⟩

/-! ## Presence -/

@[simp] theorem movePresence_under (slot : Nat) (c : Card) (p : Presence) (lane : Option Nat) :
    (s.under h).movePresence slot c p lane = (s.movePresence slot c p lane).under h := by
  simp only [State.movePresence, relocate_under, settleDeparted_under, departedUnder_ite]
  rfl

@[simp] theorem markAdultDeparture_under (n : Nat) :
    (s.under h).markAdultDeparture n = (s.markAdultDeparture n).under h := by
  cases e : s.accountByNumber n <;>
    simp only [State.markAdultDeparture, under_accountByNumber, e]
  rfl

@[simp] theorem markGuest_under (c : Card) : (s.under h).markGuest c = (s.markGuest c).under h := by
  simp only [State.markGuest, markAdultDeparture_under, under_ite]

@[simp] theorem presenceNote_under (slot : Nat) (c : Card) (d : Nat) :
    (s.under h).presenceNote slot c d = (s.presenceNote slot c d).under h := by
  simp only [State.presenceNote, movePresence_under, Departed.under, raise_under, under_ite]

@[simp] theorem missCard_under (slot : Nat) : (s.under h).missCard slot = (s.missCard slot).under h := by
  cases e : Table.find s.store.cards slot <;>
    simp only [State.missCard, under_store, movePresence_under, e, Departed.under]

@[simp] theorem missAshore_under : (s.under h).missAshore = s.missAshore.under h := by
  simp only [State.missAshore, under_ashoreOf, under_tracker,
    foldl_under h (fun s slot => missCard_under s h slot), raise_under]

/-! ## The decision at a door -/

@[simp] theorem enterRefusal_under (d : Nat) : (s.under h).enterRefusal d = (s.enterRefusal d).under h := by
  simp only [State.enterRefusal, under_refusalsWith, under_reader, under_store, under_clock, setReader_under,
    raise_under, under_ite]

@[simp] theorem refuseAt_under (d : Nat) (o : JobOutcome) (card : Option CardView) :
    (s.under h).refuseAt d o card = underBoth (s.refuseAt d o card) h := by
  simp only [State.refuseAt, enterRefusal_under, ← under_ite, under_channel, underBoth_mk]

@[simp] theorem grantSecurity_under (d slot : Nat) (c : Card) :
    (s.under h).grantSecurity d slot c = underBoth (s.grantSecurity d slot c) h := by
  simp only [State.grantSecurity, under_channel, under_store, raise_under, ← under_ite, presenceNote_under,
    under_cardView, underBoth_mk]
  rfl

@[simp] theorem grantCard_under (d slot : Nat) (c : Card) :
    (s.under h).grantCard d slot c = underBoth (s.grantCard d slot c) h := by
  simp only [State.grantCard, grantAt_under, GrantResult.under, presenceNote_under, ← under_ite,
    under_cardView, underBoth_mk]

@[simp] theorem decideCard_under (d uid issue : Nat) :
    (s.under h).decideCard d uid issue = underBoth (s.decideCard d uid issue) h := by
  cases e : s.present uid issue with
  | current slot c =>
    cases f : s.doorRefusal c d <;>
      simp only [State.decideCard, under_present, e, under_doorRefusal, f, grantSecurity_under, under_cardView,
        refuseAt_under, grantCard_under, underBoth_ite]
  | _ => simp only [State.decideCard, under_present, e, raise_under, refuseAt_under]

@[simp] theorem decideBlocked_under (d uid issue : Nat) :
    (s.under h).decideBlocked d uid issue = underBoth (s.decideBlocked d uid issue) h := by
  cases e : s.present uid issue <;>
    simp only [State.decideBlocked, under_present, e, grantSecurity_under, under_cardView, under_channel,
      underBoth_mk, underBoth_ite]

@[simp] theorem decideAt_under (d uid issue : Nat) :
    (s.under h).decideAt d uid issue = underBoth (s.decideAt d uid issue) h := by
  cases e : (s.reader d).blockedUntil <;>
    simp only [State.decideAt, under_reader, e, decideCard_under, under_clock, decideBlocked_under,
      setReader_under, underBoth_ite]

end

end Sys2Proof.Machine
end

section
/-! SUPPORT. Every owning block but those of RETAIN and RESTART does the same whatever the reply queue, the request
buffer and the Retention Unit hold. On a free link, then, a request has its block's effect on the state that its
frame found, and the reply takes the tail of the queue. -/

namespace Sys2Proof.Machine

/-- What is run does not look at the reply queue, the request buffer and the Retention Unit, nor change them. -/
def Blind (run : State → State × Answer) : Prop := ∀ s h, run (s.under h) = underBoth (run s) h

section
variable (s : State) (h : LinkHead)

/-! ## The Credential Store's blocks -/

theorem blockLoadBegin_blind (day : Nat) : Blind (blockLoadBegin day) := fun _ _ => rfl

theorem blockLoadEnd_blind (q : Unit) : Blind (blockLoadEnd q) := by
  intro s h
  cases e : s.loadCheck <;> simp only [blockLoadEnd, under_loadCheck, e] <;> rfl

theorem putNewCard_under (uid issue presence : Nat) (g : CardConfig) :
    (s.under h).putNewCard uid issue presence g = underBoth (s.putNewCard uid issue presence g) h := by
  unfold State.putNewCard
  cases initialPresenceOf presence with
  | none => rfl
  | some p =>
    dsimp only
    split
    · rfl
    · rw [under_cardByUid]
      cases s.cardByUid uid with
      | some e => rfl
      | none =>
        rw [under_store]
        cases Table.freeSlot cardSlots s.store.cards with
        | none => rfl
        | some slot =>
          rw [under_referenceFailure]
          cases s.referenceFailure g <;> rfl

theorem putChangedCard_under (uid : Nat) (g : CardConfig) :
    (s.under h).putChangedCard uid g = underBoth (s.putChangedCard uid g) h := by
  unfold State.putChangedCard
  rw [under_cardByUid]
  cases s.cardByUid uid with
  | none => rfl
  | some e =>
    dsimp only
    rw [under_referenceFailure]
    cases s.referenceFailure g with
    | some st => rfl
    | none => simp only [under_engine, underBoth_ite]; rfl

theorem blockCardPut_blind (q : CardPutReq) : Blind (blockCardPut q) := by
  intro s h
  unfold blockCardPut
  split
  · exact putNewCard_under s h _ _ _ _
  · exact putChangedCard_under s h _ _
  · rfl

theorem blockCardRead_blind (q : CardReadReq) : Blind (blockCardRead q) := by
  intro s h
  unfold blockCardRead
  simp only [under_cardByUid, under_store, under_cardAnswer]
  split
  · cases s.cardByUid q.uid <;> rfl
  · rw [underBoth_ite]
    cases Table.find s.store.cards q.slot <;> rfl
  · rfl

theorem blockCardReissue_blind (uid : Nat) : Blind (blockCardReissue uid) := by
  intro s h
  unfold blockCardReissue
  rw [under_cardByUid]
  cases s.cardByUid uid with
  | none => rfl
  | some e => simp only [underBoth_ite]; rfl

theorem blockCardRetire_blind (uid : Nat) : Blind (blockCardRetire uid) := by
  intro s h
  unfold blockCardRetire
  rw [under_cardByUid]
  cases s.cardByUid uid with
  | none => rfl
  | some e => simp only [under_engine, underBoth_ite]; rfl

theorem blockAccountPut_blind (q : AccountPutReq) : Blind (blockAccountPut q) := by
  intro s h
  unfold blockAccountPut
  split
  · unfold State.putNewAccount
    rw [under_accountByNumber]
    cases s.accountByNumber q.account with
    | some e => rfl
    | none =>
      rw [under_store]
      cases Table.freeSlot accountSlots s.store.accounts <;> rfl
  · unfold State.putChangedAccount
    rw [under_accountByNumber]
    cases s.accountByNumber q.account <;> rfl
  · rfl

theorem blockAccountRead_blind (number : Nat) : Blind (blockAccountRead number) := by
  intro s h
  unfold blockAccountRead
  rw [under_accountByNumber]
  cases s.accountByNumber number <;> rfl

theorem blockAccountCredit_blind (q : AccountCreditReq) : Blind (blockAccountCredit q) := by
  intro s h
  unfold blockAccountCredit
  rw [under_accountByNumber, underBoth_ite]
  cases s.accountByNumber q.account <;> rfl

theorem blockAccountRetire_blind (number : Nat) : Blind (blockAccountRetire number) := by
  intro s h
  unfold blockAccountRetire
  rw [under_accountByNumber]
  cases s.accountByNumber number with
  | none => rfl
  | some e => simp only [under_cardsNaming, under_engine, underBoth_ite]; rfl

theorem handDoor_under (d : Nat) (was now : Bool) : (s.under h).handDoor d was now = (s.handDoor d was now).under h := by
  cases was <;> cases now <;> rfl

theorem blockDoorPut_blind (q : DoorPutReq) : Blind (blockDoorPut q) := by
  intro s h
  unfold blockDoorPut
  cases flagOf q.configured with
  | none => rfl
  | some configured =>
    simp only [under_loaded, under_doorInUse, under_doorConfig, setDoorConfig_under, handDoor_under, underBoth_ite,
      underBoth_mk]

theorem blockDoorRead_blind (door : Nat) : Blind (blockDoorRead door) := by
  intro s h
  simp only [blockDoorRead, underBoth_ite]
  rfl

theorem blockCategoryPut_blind (q : CategoryPutReq) : Blind (blockCategoryPut q) := by
  intro s h
  unfold blockCategoryPut
  split
  · rw [underBoth_ite]
    rfl
  · rfl

theorem blockRegionPut_blind (q : RegionPutReq) : Blind (blockRegionPut q) := by
  intro s h
  simp only [blockRegionPut, underBoth_ite]
  rfl

theorem blockTierPut_blind (q : TierPutReq) : Blind (blockTierPut q) := by
  intro s h
  simp only [blockTierPut, underBoth_ite]
  rfl

theorem afterSetting_under (name : SettingName) (old : Nat) :
    (s.under h).afterSetting name old = (s.afterSetting name old).under h := by
  cases name with
  | auditInterval =>
    simp only [State.afterSetting, under_loaded, under_store, auditSchedule_under, under_ite]
    rfl
  | busBudget => exact considerAll_under s h
  | busWindow => exact considerAll_under s h
  | _ => rfl

theorem blockSettingPut_blind (q : SettingPutReq) : Blind (blockSettingPut q) := by
  intro s h
  unfold blockSettingPut
  split
  · rfl
  · simp only [under_store, setSettings_under, afterSetting_under, underBoth_mk]

theorem blockSettingRead_blind (q : SettingReadReq) : Blind (blockSettingRead q) := by
  intro s h
  unfold blockSettingRead
  split <;> rfl

/-! ## The link's and the door units' blocks -/

theorem blockNoticeFetch_blind (q : Unit) : Blind (blockNoticeFetch q) := fun _ _ => rfl

theorem blockSummary_blind (q : Unit) : Blind (blockSummary q) := fun _ _ => rfl

theorem answerFrame_blind : Blind answerFrame := fun _ _ => rfl

theorem answerUnknown_blind : Blind answerUnknown := fun _ _ => rfl

theorem blockOrderFetch_blind (q : Unit) : Blind (blockOrderFetch q) := by
  intro s h
  simp only [blockOrderFetch, under_scheduler, fetchOrders_under, refill_under, ← under_ite, underBoth_mk]

theorem blockDoorCard_blind (q : DoorCardReq) : Blind (blockDoorCard q) := by
  intro s h
  simp only [blockDoorCard, under_doorConfig, decideAt_under, underBoth_ite, underBoth_mk]

theorem blockDoorReport_blind (q : DoorReportReq) : Blind (blockDoorReport q) := by
  intro s h
  unfold blockDoorReport
  split
  · simp only [under_doorConfig, takeReport_under, under_channel, underBoth_ite, underBoth_mk]
  · rfl

/-! ## The lanes' and the tracker's blocks -/

theorem blockLaneOpen_blind (n : Nat) : Blind (blockLaneOpen n) := by
  intro s h
  simp only [blockLaneOpen, under_store, under_clock, setSoftGate_under, under_lane, underBoth_ite, underBoth_mk]

theorem blockLaneClose_blind (n : Nat) : Blind (blockLaneClose n) := by
  intro s h
  simp only [blockLaneClose, clearSoftGate_under, under_lane, underBoth_ite, underBoth_mk]

theorem blockLaneRead_blind (n : Nat) : Blind (blockLaneRead n) := by
  intro s h
  simp only [blockLaneRead, under_laneView, underBoth_ite, underBoth_mk]

/-- The answer of a scan, in whatever state it is given. -/
theorem scanned_under (t : State) (h : LinkHead) (o : JobOutcome) (slot : Nat) (c : Card) (d : Direction)
    (n : Option (Nat × Nat)) :
    (t.under h, Answer.scanned o ((t.under h).cardView slot c) d n) =
      underBoth (t, Answer.scanned o (t.cardView slot c) d n) h := rfl

theorem boardScan_under (n slot : Nat) (c : Card) :
    (s.under h).boardScan n slot c = underBoth (s.boardScan n slot c) h := by
  unfold State.boardScan
  rw [movePresence_under, Departed.under, countScan_under]
  exact scanned_under _ h _ _ _ _ _

theorem boardRepeat_under (n slot : Nat) (c : Card) :
    (s.under h).boardRepeat n slot c = underBoth (s.boardRepeat n slot c) h := by
  unfold State.boardRepeat
  rw [raise_under, countScan_under]
  exact scanned_under _ h _ _ _ _ _

theorem scanBoarding_under (n slot : Nat) (c : Card) :
    (s.under h).scanBoarding n slot c = underBoth (s.scanBoarding n slot c) h := by
  simp only [State.scanBoarding, boardRepeat_under, boardScan_under, underBoth_ite]

theorem leaveScan_under (n slot : Nat) (c : Card) :
    (s.under h).leaveScan n slot c = underBoth (s.leaveScan n slot c) h := by
  simp only [State.leaveScan, movePresence_under, Departed.under, markGuest_under, countScan_under]
  exact scanned_under _ h _ _ _ _ _

theorem leaveRepeat_under (n slot : Nat) (c : Card) :
    (s.under h).leaveRepeat n slot c = underBoth (s.leaveRepeat n slot c) h := by
  unfold State.leaveRepeat
  rw [raise_under, markGuest_under, countScan_under]
  exact scanned_under _ h _ _ _ _ _

theorem scanLeaving_under (n slot : Nat) (c : Card) :
    (s.under h).scanLeaving n slot c = underBoth (s.scanLeaving n slot c) h := by
  cases e : c.presence <;>
    simp only [State.scanLeaving, e, leaveRepeat_under, leaveScan_under, under_cardView, under_needsEscort,
      under_adultDepartureAge, underBoth_ite, underBoth_mk]

theorem blockGangwayCard_blind (q : GangwayCardReq) : Blind (blockGangwayCard q) := by
  intro s h
  cases e : s.present q.uid q.issue <;>
    simp only [blockGangwayCard, under_lane, under_present, e, State.scan, under_store, scanBoarding_under,
      scanLeaving_under, raise_under, underBoth_ite, underBoth_mk]

theorem blockPresenceSet_blind (q : PresenceSetReq) : Blind (blockPresenceSet q) := by
  intro s h
  unfold blockPresenceSet
  cases settablePresence q.presence with
  | none => rfl
  | some p =>
    dsimp only
    rw [under_cardByUid]
    cases s.cardByUid q.uid with
    | none => rfl
    | some e => simp only [movePresence_under]; rfl

theorem blockAllAboard_blind (q : AllAboardReq) : Blind (blockAllAboard q) := by
  intro s h
  simp only [blockAllAboard, under_tracker, under_store, underBoth_ite, underBoth_mk]

/-! ## The clock's blocks -/

theorem blockTimeSet_blind (t : Nat) : Blind (blockTimeSet t) := by
  intro s h
  simp only [blockTimeSet, underBoth_ite]
  rfl

theorem blockDayRoll_blind (q : Unit) : Blind (blockDayRoll q) := by
  intro s h
  simp only [blockDayRoll, under_clock, underBoth_ite]
  rfl

theorem blockPortArrive_blind (region : Nat) : Blind (blockPortArrive region) := by
  intro s h
  simp only [blockPortArrive, underBoth_ite]
  rfl

theorem blockSail_blind (q : Unit) : Blind (blockSail q) := by
  intro s h
  cases e : s.clock.port with
  | atSea => simp only [blockSail, under_clock, e]; rfl
  | inPort =>
    have left := (congrArg State.missAshore (closeLanes_under
      { s with clock := { s.clock with port := .atSea, region := 0 } } h .sail)).trans (missAshore_under _ h)
    simp only [blockSail, under_clock, e]
    exact Prod.ext left rfl

theorem blockSecure_blind (q : Unit) : Blind (blockSecure q) := by
  intro s h
  cases e : s.store.mode <;>
    simp only [blockSecure, under_store, e, setMode_under, lockDoors_under, Lockdown.under, closeLanes_under,
      under_standingRequests, under_owingDoors, under_effectiveLanes, underBoth_mk]

theorem blockModeCode_blind (code : Nat) : Blind (blockModeCode code) := by
  intro s h
  cases e : s.store.mode <;> simp only [blockModeCode, under_store, e, underBoth_ite] <;> rfl

/-! ## The Charge Engine's blocks -/

theorem salePreconditions_under (c : Card) (a : Account) (terminal : Nat) (ls : List Line) :
    (s.under h).salePreconditions c a terminal ls = underBoth (s.salePreconditions c a terminal ls) h := by
  cases e : c.presence <;>
    simp only [State.salePreconditions, e, under_clock, raise_under, under_alcoholLine, underBoth_ite,
      underBoth_mk] <;> rfl

theorem saleCard_under (uid issue : Nat) : (s.under h).saleCard uid issue = underBoth (s.saleCard uid issue) h := by
  cases e : s.present uid issue with
  | current slot c =>
    cases f : s.accountByNumber c.config.account <;>
      simp only [State.saleCard, under_present, e, under_accountByNumber, f, underBoth_mk]
  | _ => simp only [State.saleCard, under_present, e, raise_under, underBoth_mk]

theorem acceptCharge_under (q : ChargeReq) (slot : Nat) (c : Card) (accountSlot : Nat) (a : Account) (x : Sums) :
    (s.under h).acceptCharge q slot c accountSlot a x = (s.acceptCharge q slot c accountSlot a x).under h := by
  simp only [State.acceptCharge, under_chargeRecord, appendPosting_under, setAccount_under, setCard_under]

theorem computeCharge_under (q : ChargeReq) (slot : Nat) (c : Card) (accountSlot : Nat) (a : Account) :
    (s.under h).computeCharge q slot c accountSlot a = underBoth (s.computeCharge q slot c accountSlot a) h := by
  unfold State.computeCharge
  simp only [linesSums_under, under_workingAllowance, under_postRoom, acceptCharge_under, under_engine]
  cases c.capExceeded (sumAll (s.linesSums c (s.workingAllowance c) q.lines)).total <;>
    simp only [underBoth_ite, underBoth_mk]

theorem blockCharge_blind (q : ChargeReq) : Blind (blockCharge q) := by
  intro s h
  unfold blockCharge
  rw [saleCard_under, underBoth_ite, underBoth_ite]
  rcases s.saleCard q.uid q.issue with ⟨s1, answer | ⟨⟨slot, c⟩, accountSlot, a⟩⟩
  · rfl
  · simp only [underBoth_mk, salePreconditions_under]
    rcases s1.salePreconditions c a q.terminal q.lines with ⟨s2, answer | answer⟩
    · simp only [underBoth_mk, computeCharge_under, under_store]
    · rfl

theorem poolTests_under (terminal cardSlot accountSlot : Nat) (a : Account) (hold : Nat) :
    (s.under h).poolTests terminal cardSlot accountSlot a hold =
      underBoth (s.poolTests terminal cardSlot accountSlot a hold) h := by
  cases e : s.freeTab <;>
    simp only [State.poolTests, under_freeTab, e, under_terminalTabs, openTab_under, under_tabSlot, underBoth_ite,
      underBoth_mk]
  rfl

theorem blockTabOpen_blind (q : TabOpenReq) : Blind (blockTabOpen q) := by
  intro s h
  unfold blockTabOpen
  rw [saleCard_under, underBoth_ite, underBoth_ite]
  rcases s.saleCard q.uid q.issue with ⟨s1, answer | ⟨⟨slot, c⟩, accountSlot, a⟩⟩
  · rfl
  · simp only [underBoth_mk, salePreconditions_under]
    rcases s1.salePreconditions c a q.terminal [] with ⟨s2, answer | answer⟩
    · simp only [underBoth_mk, poolTests_under, under_holdInForce, under_store]
    · rfl

theorem computeAdd_under (q : TabAddReq) (t : Tab) (c : Card) (a : Account) :
    (s.under h).computeAdd q t c a = underBoth (s.computeAdd q t c a) h := by
  unfold State.computeAdd
  simp only [linesSums_under, under_workingAllowance, acceptAdd_under]
  cases c.capExceeded (sumAll (s.linesSums c (s.workingAllowance c) q.lines)).total <;>
    simp only [underBoth_ite, underBoth_mk]

theorem blockTabAdd_blind (q : TabAddReq) : Blind (blockTabAdd q) := by
  intro s h
  unfold blockTabAdd
  rw [under_ownTab, underBoth_ite, underBoth_ite]
  cases s.ownTab q.slot q.generation q.terminal with
  | inl answer => rfl
  | inr t =>
    simp only [under_store]
    cases Table.find s.store.cards t.cardSlot with
    | none => rfl
    | some c =>
      cases Table.find s.store.accounts t.accountSlot with
      | none => rfl
      | some a =>
        simp only [salePreconditions_under]
        rcases s.salePreconditions c a q.terminal q.lines with ⟨s1, answer | answer⟩
        · simp only [underBoth_mk, computeAdd_under]
        · rfl

theorem blockTabClose_blind (q : TabCloseReq) : Blind (blockTabClose q) := by
  intro s h
  unfold blockTabClose
  rw [under_ownTab, underBoth_ite]
  cases s.ownTab q.slot q.generation q.terminal with
  | inl answer => rfl
  | inr t => simp only [under_canSettle, settle_under, under_engine, underBoth_ite, underBoth_mk]

theorem blockTabRead_blind (slot : Nat) : Blind (blockTabRead slot) := by
  intro s h
  cases e : (s.tabSlot slot).state <;>
    simp only [blockTabRead, under_tabSlot, e, under_tabView, under_engine, underBoth_ite, underBoth_mk]

theorem blockPostFetch_blind (q : Unit) : Blind (blockPostFetch q) := fun _ _ => rfl

theorem blockPostRewind_blind (q : Unit) : Blind (blockPostRewind q) := fun _ _ => rfl

theorem blockPostRelease_blind (n : Nat) : Blind (blockPostRelease n) := by
  intro s h
  dsimp only [blockPostRelease]
  rw [under_engine, removePostings_under, serveWaiting_under]
  generalize s.removePostings (stepsTo s.engine.reference n) = u
  generalize u.serveWaiting = v
  generalize stepsTo s.engine.reference n = d
  generalize 2147483648 = half
  simp only [underBoth_ite]
  rfl

theorem voidAccount_under (p : Posting) : (s.under h).voidAccount p = underBoth (s.voidAccount p) h := by
  cases e : s.accountByNumber p.account <;> simp only [State.voidAccount, under_accountByNumber, e] <;> rfl

theorem voidCard_under (p : Posting) : (s.under h).voidCard p = underBoth (s.voidCard p) h := by
  cases e : s.cardByUid p.uid <;>
    simp only [State.voidCard, under_cardByUid, e, under_clock, setCard_under, underBoth_ite, underBoth_mk]
  rfl

theorem blockVoid_blind (q : VoidReq) : Blind (blockVoid q) := by
  intro s h
  unfold blockVoid
  rw [underBoth_ite, under_engine]
  cases s.engine.postings.find? fun p => p.number == q.posting with
  | none => rfl
  | some p =>
    simp only [under_voidRefusal]
    cases s.voidRefusal p q.terminal with
    | some answer => rfl
    | none =>
      simp only [markVoided_under, voidAccount_under]
      rcases (s.markVoided q.posting).voidAccount p with ⟨u, x⟩
      simp only [underBoth_mk, voidCard_under]
      rcases u.voidCard p with ⟨v, y⟩
      rfl

end

/-! ## What the link runs -/

theorem judged_blind {α : Type} {block : α → State → State × Answer} (h : ∀ x, Blind (block x)) (gate : Gate)
    (q : Body α) : Blind (judged gate q block) := by
  intro s k
  cases q with
  | misfit n => rfl
  | fit x =>
    simp only [judged, under_store]
    cases gate.refusal s.store.opState with
    | some st => rfl
    | none => exact h x s k

/-- A request that acts on the link itself: RETAIN, or a RESTART of either kind. -/
def Instr.actsOnLink : Instr → Bool
  | .retain _ q => !q.isMisfit
  | .restartWarm _ (.fit 0) => true
  | .restartCold _ => true
  | _ => false

theorem retain_blind (n : Nat) : Blind (judged .always (.misfit n) blockRetain) := fun _ _ => rfl

theorem restartCode_blind {code : Nat} (h : code ≠ 0) : Blind (judged .always (.fit code) blockRestartCode) := by
  intro s k
  simp only [judged, Gate.refusal, blockRestartCode, if_pos h, underBoth_mk]

theorem requestRun_blind {c : Instr} {run : State → State × Answer} (h : requestRun c = some run)
    (link : Instr.actsOnLink c = false) : Blind run := by
  cases c with
  | badFrame => cases h; exact answerFrame_blind
  | unknownCode => cases h; exact answerUnknown_blind
  | summary => cases h; exact judged_blind blockSummary_blind _ _
  | noticeFetch => cases h; exact judged_blind blockNoticeFetch_blind _ _
  | orderFetch => cases h; exact judged_blind blockOrderFetch_blind _ _
  | loadBegin => cases h; exact judged_blind blockLoadBegin_blind _ _
  | loadEnd => cases h; exact judged_blind blockLoadEnd_blind _ _
  | cardPut => cases h; exact judged_blind blockCardPut_blind _ _
  | cardRead => cases h; exact judged_blind blockCardRead_blind _ _
  | cardReissue => cases h; exact judged_blind blockCardReissue_blind _ _
  | cardRetire => cases h; exact judged_blind blockCardRetire_blind _ _
  | accountPut => cases h; exact judged_blind blockAccountPut_blind _ _
  | accountRead => cases h; exact judged_blind blockAccountRead_blind _ _
  | accountCredit => cases h; exact judged_blind blockAccountCredit_blind _ _
  | accountRetire => cases h; exact judged_blind blockAccountRetire_blind _ _
  | doorPut => cases h; exact judged_blind blockDoorPut_blind _ _
  | doorRead => cases h; exact judged_blind blockDoorRead_blind _ _
  | categoryPut => cases h; exact judged_blind blockCategoryPut_blind _ _
  | regionPut => cases h; exact judged_blind blockRegionPut_blind _ _
  | tierPut => cases h; exact judged_blind blockTierPut_blind _ _
  | settingPut => cases h; exact judged_blind blockSettingPut_blind _ _
  | settingRead => cases h; exact judged_blind blockSettingRead_blind _ _
  | doorCard => cases h; exact judged_blind blockDoorCard_blind _ _
  | doorReport => cases h; exact judged_blind blockDoorReport_blind _ _
  | charge => cases h; exact judged_blind blockCharge_blind _ _
  | void => cases h; exact judged_blind blockVoid_blind _ _
  | tabOpen => cases h; exact judged_blind blockTabOpen_blind _ _
  | tabAdd => cases h; exact judged_blind blockTabAdd_blind _ _
  | tabClose => cases h; exact judged_blind blockTabClose_blind _ _
  | tabRead => cases h; exact judged_blind blockTabRead_blind _ _
  | postFetch => cases h; exact judged_blind blockPostFetch_blind _ _
  | postRelease => cases h; exact judged_blind blockPostRelease_blind _ _
  | postRewind => cases h; exact judged_blind blockPostRewind_blind _ _
  | laneOpen => cases h; exact judged_blind blockLaneOpen_blind _ _
  | laneClose => cases h; exact judged_blind blockLaneClose_blind _ _
  | laneRead => cases h; exact judged_blind blockLaneRead_blind _ _
  | gangwayCard => cases h; exact judged_blind blockGangwayCard_blind _ _
  | presenceSet => cases h; exact judged_blind blockPresenceSet_blind _ _
  | allaboardQuery => cases h; exact judged_blind blockAllAboard_blind _ _
  | timeSet => cases h; exact judged_blind blockTimeSet_blind _ _
  | dayRoll => cases h; exact judged_blind blockDayRoll_blind _ _
  | portArrive => cases h; exact judged_blind blockPortArrive_blind _ _
  | sail => cases h; exact judged_blind blockSail_blind _ _
  | modeSetSecure => cases h; exact judged_blind blockSecure_blind _ _
  | modeSetService => cases h; exact judged_blind blockModeCode_blind _ _
  | retain tag q =>
    cases h
    cases q with
    | fit x => cases link
    | misfit n => exact retain_blind n
  | restartWarm tag q =>
    cases h
    cases q with
    | misfit n => exact fun _ _ => rfl
    | fit code =>
      cases code with
      | zero => cases link
      | succ n => exact restartCode_blind (Nat.succ_ne_zero n)
  | restartCold => cases link
  | _ => cases h

end Sys2Proof.Machine
end

section
/-! The end of a request: on a free link, behind unread replies and before waiting requests, while retention is
entered, and at REQUEST_COMPLETION. -/

namespace Sys2Proof.Machine

/-! ## On a free link -/

theorem Blind.keeps {run : State → State × Answer} (blind : Blind run) (s : State) :
    (run s).1.under s.head = (run s).1 := (congrArg Prod.fst (blind s s.head)).symm

theorem entering_eq_under (s : State) (k : Instr) :
    s.entering k = s.under ⟨s.link.places ++ [.executing k], some k, s.retention⟩ := rfl

/-- A request that does not act on the link has the effect of what it runs on the state that its frame found. -/
theorem serve_blind {s : State} (ready : s.ready = true) {run : State → State × Answer} (blind : Blind run)
    (c : Instr) : serve c run s = .next ((run s).1.replied (replyCode c) c.tag (run s).2) := by
  have keeps := blind.keeps s
  refine serve_replied ready ?_ (congrArg State.retention keeps).symm
    (congrArg (fun t : State => t.link.places) keeps).symm (congrArg (fun t : State => t.link.buffer) keeps).symm
  have places : (run s).1.link.places = s.link.places := (congrArg (fun t : State => t.link.places) keeps).symm
  have retention : (run s).1.retention = s.retention := (congrArg State.retention keeps).symm
  rw [entering_eq_under, blind, entering_eq_under, places, retention]
  rfl

/-- A request that its gate takes has the effect of its block. -/
theorem serve_block {s t : State} (ready : s.ready = true) {α : Type} {block : α → State → State × Answer}
    (blind : ∀ x, Blind (block x)) {gate : Gate} (takes : gate.refusal s.store.opState = none) {x : α} {a : Answer}
    (h : block x s = (t, a)) (c : Instr) :
    serve c (judged gate (.fit x) block) s = .next (t.replied (replyCode c) c.tag a) := by
  have runs : judged gate (.fit x) block s = (t, a) := by simp only [judged, takes, h]
  rw [serve_blind ready (judged_blind blind gate (.fit x)), runs]

/-! ## With other requests in the queue -/

theorem turn_of_executing {s : State} {c : Instr} (takes : s.takesEvents = true)
    (executing : s.link.executing = some c.asFramed) : s.turn c = .runs s := by
  rw [State.turn, if_pos takes, if_pos executing]

theorem takesEvents_of_phase {s : State} (h : s.retention.resetHeld = false) (phase : s.retention.phase ≠ .retained) :
    s.takesEvents = true := by
  rw [State.takesEvents, h, decide_eq_true phase]
  rfl

theorem takesFrames_of_running {s : State} (h : s.retention.resetHeld = false) (phase : s.retention.phase = .running) :
    s.takesFrames = true := by
  rw [State.takesFrames, h, decide_eq_true phase]
  rfl

theorem takesFrames_of_entering {s : State} (phase : s.retention.phase = .entering) : s.takesFrames = false := by
  rw [State.takesFrames, phase]
  exact Bool.and_false _

/-- What begins behind the replies when a request ends: nothing, or the oldest WAITING request, which moves into
the buffer (R156). -/
def Begins (waits begun : List Place) (buffer : Option Instr) : Prop :=
  waits = [] ∧ begun = [] ∧ buffer = none ∨
    ∃ next rest, waits = .waiting next :: rest ∧ begun = .executing next :: rest ∧ buffer = some next

/-- The request in execution, behind the unread replies, ends in RUNNING. -/
theorem complete_running {t : State} {replies waits begun : List Place} {buffer : Option Instr} {c : Instr}
    (takes : t.takesFrames = true) (split : t.link.places = replies ++ .executing c :: waits)
    (replied : replies.all Place.isReply = true) (waiting : waits.all Place.isWaiting = true)
    (begins : Begins waits begun buffer) (r : Reply) :
    t.complete r = t.setLink { t.link with places := replies ++ .reply r :: begun, buffer := buffer } := by
  have executing : t.link.executing = some c := executing_of_split split replied
  have answered : t.link.places.map (Place.answered r) = replies ++ .reply r :: waits := by
    rw [split, List.map_append, List.map_cons, map_answered_replies replied, map_answered_waits waiting]
    rfl
  have front : (replies ++ [Place.reply r]).all Place.isReply = true := by
    rw [List.all_append, replied]
    rfl
  simp only [State.complete, executing, takes, if_true, answered]
  congr 1
  rcases begins with ⟨rfl, rfl, rfl⟩ | ⟨next, rest, rfl, rfl, rfl⟩
  · exact Link.beginNext_of_replies front
  · rw [Link.beginNext_of_waiting (replies := replies ++ [.reply r]) (waits := rest)
      (by rw [List.append_assoc]; rfl) front (by simpa [Place.isWaiting] using waiting), List.append_assoc]
    rfl

/-- The request in execution ends while retention is entered: no reply is placed (R166). -/
theorem complete_entering {t : State} {c : Instr} (phase : t.retention.phase = .entering)
    (executing : t.link.executing = some c) (r : Reply) :
    t.complete r = t.setLink { t.link with places := [], buffer := none } := by
  simp only [State.complete, executing, takesFrames_of_entering phase, if_false, Bool.false_eq_true]

theorem exec_requestCompletion (s : State) : exec .requestCompletion s = happens requestEnds s := rfl

/-- A request that may take time ends with what the same request runs whole. -/
theorem endOf_eq_requestRun {c : Instr} {run end_ : State → State × Answer} (runs : requestRun c = some run)
    (ends : endOf c = some end_) : end_ = run := by
  cases c <;> cases ends <;> cases runs <;> rfl

theorem requestEnds_of_executing {s : State} {c : Instr} {run : State → State × Answer}
    (executing : s.link.executing = some c) (ends : endOf c = some run) :
    requestEnds s = some ((run s).1.complete (replyTo c (run s).2)) := by
  simp only [requestEnds, executing, ends, Option.bind_some, Option.map_some]

/-- The five rows whose execution may take time. -/
theorem endOf_of_slow {c : Instr} {tag : Byte} {q : Body Unit} {p : Body TierPutReq}
    (h : c = .loadEnd tag q .whole ∨ c = .tierPut tag p .whole ∨ c = .dayRoll tag q .whole ∨
      c = .sail tag q .whole ∨ c = .modeSetSecure tag .whole) : ∃ run, endOf c = some run := by
  rcases h with rfl | rfl | rfl | rfl | rfl <;> exact ⟨_, rfl⟩

/-! ## The output lines -/

theorem rrdy_iff (s : State) :
    s.rrdy = true ↔ s.takesFrames = true ∧ ∃ r rest, s.link.places = .reply r :: rest := by
  rw [State.rrdy, Bool.and_eq_true]
  refine and_congr_right fun _ => ?_
  cases s.link.places with
  | nil => simp
  | cons p ps => cases p <;> simp

theorem attn_iff (s : State) : s.attn = true ↔ s.takesFrames = true ∧ (s.link.notices ≠ [] ∨ s.link.lost = true ∨
    s.scheduler.orders ≠ [] ∨ (∃ p ∈ s.engine.postings, p.delivered = false) ∨ s.engine.waiting ≠ []) := by
  simp [State.attn, Posting.isPending, or_assoc]

/-- A reply placed behind replies leaves a reply at the head. -/
theorem head_of_replies {replies begun : List Place} (replied : replies.all Place.isReply = true) (r : Reply) :
    ∃ first rest, replies ++ .reply r :: begun = .reply first :: rest := by
  cases replies with
  | nil => exact ⟨r, begun, rfl⟩
  | cons p ps =>
    cases p with
    | reply first => exact ⟨first, _, rfl⟩
    | executing c => cases replied
    | waiting c => cases replied

/-! ## The end of any request -/

/-- The request has the reply code given: that of its message, or 0xFF for a frame that is none. -/
theorem requestRun_of_code {c : Instr} {code : Byte} (h : (∃ k, c.code = some k ∧ code = k + 0x80#8) ∨
    ((∃ m t, c = .badFrame m t) ∨ ∃ k t, c = .unknownCode k t) ∧ code = 0xFF#8) :
    (∃ run, requestRun c = some run) ∧ replyCode c = code := by
  rcases h with ⟨k, hk, rfl⟩ | ⟨⟨m, t, rfl⟩ | ⟨k, t, rfl⟩, rfl⟩
  · obtain ⟨α, gate, q, block, runs, -⟩ := requestRun_judged hk
    exact ⟨⟨_, runs⟩, replyCode_of_code hk⟩
  · exact ⟨⟨_, rfl⟩, rfl⟩
  · exact ⟨⟨_, rfl⟩, rfl⟩

theorem actsOnLink_false {c : Instr}
    (h : ∀ tag, c ≠ .retain tag (.fit ()) ∧ c ≠ .restartWarm tag (.fit 0) ∧ c ≠ .restartCold tag) :
    Instr.actsOnLink c = false := by
  unfold Instr.actsOnLink
  split
  next tag q =>
    cases q with
    | fit x => exact absurd rfl (h tag).1
    | misfit n => rfl
  next tag => exact absurd rfl (h tag).2.1
  next tag => exact absurd rfl (h tag).2.2
  next => rfl

/-- The state in which the request would find the link free. -/
def State.alone (s : State) : State := s.under ⟨[], none, { s.retention with phase := .running }⟩

theorem alone_ready {s : State} (h : s.retention.resetHeld = false) : s.alone.ready = true := by
  have takes : s.alone.takesFrames = true := takesFrames_of_running h rfl
  rw [State.ready, takes]
  rfl

section
variable {s : State} {c : Instr} {replies waits begun : List Place} {buffer : Option Instr}
  (held : s.retention.resetHeld = false) (framed : c.asFramed = c)
  (split : s.link.places = replies ++ .executing c :: waits) (replied : replies.all Place.isReply = true)
  {run : State → State × Answer} (runs : requestRun c = some run)
include held framed split replied runs

/-- In execution, a request's command runs it. -/
theorem exec_executing (phase : s.retention.phase ≠ .retained) :
    exec c s = .next ((run s).1.complete (replyTo c (run s).2)) := by
  have turn := turn_of_executing (c := c) (takesEvents_of_phase held phase)
    (framed.symm ▸ executing_of_split split replied)
  rw [exec_framed runs framed, serve, turn]

/-- In execution, a request that takes time ends at REQUEST_COMPLETION as its command does. -/
theorem exec_requestCompletion_executing (phase : s.retention.phase ≠ .retained)
    {end_ : State → State × Answer} (ends : endOf c = some end_) : exec .requestCompletion s = exec c s := by
  cases endOf_eq_requestRun runs ends
  rw [exec_executing held framed split replied runs phase, exec_requestCompletion]
  exact happens_taken (takesEvents_of_phase held phase)
    (requestEnds_of_executing (executing_of_split split replied) ends)

theorem exec_executing_running (blind : Blind run) (waiting : waits.all Place.isWaiting = true)
    (begins : Begins waits begun buffer) (phase : s.retention.phase = .running) :
    exec c s = .next ((run s).1.under
      ⟨replies ++ .reply (replyTo c (run s).2) :: begun, buffer, { s.retention with phase := .running }⟩) := by
  rw [exec_executing held framed split replied runs (by rw [phase]; decide), ← blind.keeps s, ← phase]
  exact congrArg _ (complete_running (t := (run s).1.under s.head) (takesFrames_of_running held phase) split replied
    waiting begins _)

theorem exec_executing_entering (blind : Blind run) (phase : s.retention.phase = .entering) :
    exec c s = .next ((run s).1.under ⟨[], none, s.retention⟩) := by
  rw [exec_executing held framed split replied runs (by rw [phase]; decide), ← blind.keeps s]
  exact congrArg _ (complete_entering (t := (run s).1.under s.head) phase (executing_of_split split replied) _)

omit split replied in
/-- The same request on a free link. -/
theorem exec_alone (blind : Blind run) : exec c s.alone = .next
    (((run s).1.under ⟨[], none, { s.retention with phase := .running }⟩).replied (replyCode c) c.tag (run s).2) := by
  rw [exec_framed runs framed, serve_blind (alone_ready held) blind, State.alone, blind]
  rfl

end

/-! ## RETAIN and RESTART -/

theorem enter_eq (s : State) (c : Instr) (executing : s.link.executing = some c) : s.enter = { s with
    retention := { s.retention with phase := .entering }
    link := { s.link with
      transfer := s.link.transfer.map Transfer.muted
      places := [.executing c]
      buffer := some c } } := by
  rw [State.enter, Link.entered, executing]

theorem complete_empty {t : State} (h : t.link.places = []) (r : Reply) : t.complete r = t := by
  have none : t.link.executing = none := by rw [Link.executing, h]; rfl
  simp only [State.complete, none]

theorem restartInto_running {s : State} (phase : s.retention.phase = .running) (new : State) :
    s.restartInto new = { new with retention := { new.retention with vretFailed := s.retention.vretFailed } } := by
  simp only [State.restartInto, phase]

/-- RETAIN and RESTART empty the queue, whatever stands in it. -/
theorem exec_actsOnLink {s : State} {c : Instr} {tag : Byte}
    (h : c = .retain tag (.fit ()) ∨ c = .restartWarm tag (.fit 0) ∨ c = .restartCold tag)
    (held : s.retention.resetHeld = false) (executing : s.link.executing = some c)
    (phase : s.retention.phase = .running) : exec c s = exec c s.alone := by
  have framed : c.asFramed = c := by rcases h with rfl | rfl | rfl <;> rfl
  have running : { s.retention with phase := .running } = s.retention := by rw [← phase]
  have alone : s.alone = s.under ⟨[], none, s.retention⟩ := by rw [State.alone, running]
  have here := turn_of_executing (c := c) (takesEvents_of_phase held (by rw [phase]; decide))
    (framed.symm ▸ executing)
  have there := turn_of_ready (alone_ready held) c
  rw [framed, alone] at there
  rcases h with rfl | rfl | rfl
  · have entered := enter_eq s _ executing
    have entered' := enter_eq ((s.under ⟨[], none, s.retention⟩).entering (.retain tag (.fit ()))) _ rfl
    show serve _ (judged .always (.fit ()) blockRetain) s = serve _ (judged .always (.fit ()) blockRetain) s.alone
    rw [alone, serve, here, serve, there]
    simp only [judged, Gate.refusal, blockRetain, entered, entered']
    rfl
  · show serve _ (judged .always (.fit 0) blockRestartCode) s =
      serve _ (judged .always (.fit 0) blockRestartCode) s.alone
    have restarts (t : State) (ht : t.retention.phase = .running) : judged .always (.fit 0) blockRestartCode t =
        ({ t.wakeStart with retention := { t.wakeStart.retention with vretFailed := t.retention.vretFailed } }, .done) := by
      rw [← restartInto_running ht]
      rfl
    rw [alone, serve, here, serve, there]
    dsimp only
    have again := restarts ((s.under ⟨[], none, s.retention⟩).entering (.restartWarm tag (.fit 0))) phase
    rw [restarts s phase, again, complete_empty rfl, complete_empty rfl]
    rfl
  · show serve _ (judged .always (.fit ()) blockRestartCold) s =
      serve _ (judged .always (.fit ()) blockRestartCold) s.alone
    have restarts (t : State) (ht : t.retention.phase = .running) : judged .always (.fit ()) blockRestartCold t =
        ({ t.coldStart .cold with
          retention := { (t.coldStart .cold).retention with vretFailed := t.retention.vretFailed } }, .done) := by
      rw [← restartInto_running ht]
      rfl
    rw [alone, serve, here, serve, there]
    dsimp only
    have again := restarts ((s.under ⟨[], none, s.retention⟩).entering (.restartCold tag)) phase
    rw [restarts s phase, again, complete_empty rfl, complete_empty rfl]
    rfl

/-- Settles O12: a request in execution runs as on a free link, since what it runs is blind to the queue. -/
theorem completionBeginsTheOldestWaitingRequest : Obligations.CompletionBeginsTheOldestWaitingRequest := by
  unfold Obligations.CompletionBeginsTheOldestWaitingRequest
  refine ⟨fun s => ⟨rrdy_iff s, attn_iff s⟩, ?_⟩
  intro s u c code replies waits begun buffer slow held framed coded split replied waiting begins alone slows
  obtain ⟨⟨run, runs⟩, codes⟩ := requestRun_of_code coded
  have executing : s.link.executing = some c := executing_of_split split replied
  subst alone
  refine ⟨fun ordinary => ?_, fun ⟨tag, acts⟩ phase => exec_actsOnLink acts held executing phase,
    fun tag roll phase loaded day => ?_⟩
  · have blind : Blind run := requestRun_blind runs (actsOnLink_false ordinary)
    have ended (phase : s.retention.phase ≠ .retained) (long : slow) : exec .requestCompletion s = exec c s := by
      obtain ⟨tag, q, p, five⟩ := slows.mp long
      obtain ⟨end_, ends⟩ := endOf_of_slow five
      exact exec_requestCompletion_executing held framed split replied runs phase ends
    have runs' (phase : s.retention.phase = .running) :=
      exec_executing_running held framed split replied runs blind waiting begins phase
    have enters (phase : s.retention.phase = .entering) :=
      exec_executing_entering held framed split replied runs blind phase
    refine ⟨_, _, _, (run s).2, exec_alone held framed runs blind, ?_, rfl, rfl, ?_, rfl, fun phase => ⟨?_, fun long => ?_⟩,
      fun phase => ⟨?_, fun long => ?_⟩⟩
    · rw [codes]
      rfl
    · exact (rrdy_iff _).mpr ⟨takesFrames_of_running held rfl, head_of_replies replied _⟩
    · rw [runs' phase, replyTo, codes]
      rfl
    · rw [ended (by rw [phase]; decide) long, runs' phase, replyTo, codes]
      rfl
    · exact enters phase
    · rw [ended (by rw [phase]; decide) long]
      exact enters phase
  · subst roll
    cases runs
    have block : judged .whenLoaded (.fit ()) blockDayRoll s = (s.rolled, .shipDay (s.clock.shipDay + 1)) := by
      simp only [judged, whenLoaded_takes loaded]
      exact blockDayRoll_advances day
    rw [exec_requestCompletion]
    refine happens_taken (takesEvents_of_phase held (by rw [phase]; decide)) ?_
    rw [requestEnds_of_executing executing rfl, block,
      complete_running (t := s.rolled) (takesFrames_of_running held phase) split replied waiting begins]
    rfl

/-! ## Requests that take time -/

/-- Settles O51: such a request is left in execution, where its end finds what the whole request finds. -/
theorem requestsThatTakeTimeEndWhole : Obligations.RequestsThatTakeTimeEndWhole := by
  unfold Obligations.RequestsThatTakeTimeEndWhole
  intro s tag q p ready
  refine ⟨fun whole long t rows enters => ?_, ?_⟩
  · have framed : long.asFramed = whole ∧ whole.asFramed = whole ∧ requestSpan long = .takesTime := by
      rcases rows with ⟨rfl, rfl⟩ | ⟨rfl, rfl⟩ | ⟨rfl, rfl⟩ | ⟨rfl, rfl⟩ | ⟨rfl, rfl⟩ <;> exact ⟨rfl, rfl, rfl⟩
    obtain ⟨longFramed, wholeFramed, span⟩ := framed
    have same : ∃ run, requestRun long = some run ∧ requestRun whole = some run ∧ endOf whole = some run := by
      rcases rows with ⟨rfl, rfl⟩ | ⟨rfl, rfl⟩ | ⟨rfl, rfl⟩ | ⟨rfl, rfl⟩ | ⟨rfl, rfl⟩ <;> exact ⟨_, rfl, rfl, rfl⟩
    obtain ⟨run, runsLong, runsWhole, ends⟩ := same
    have turn := turn_of_ready ready whole
    rw [wholeFramed] at turn
    have entered : t = s.entering whole := enters
    subst entered
    refine ⟨?_, ?_⟩
    · rw [exec_request runsLong, span]
      simp only [serveFor, turn_of_ready ready long, longFramed]
    · have replied : s.link.places.all Place.isReply = true := by
        simp only [State.ready, Bool.and_eq_true] at ready
        exact ready.1.1.2
      have executing : (s.entering whole).link.executing = some whole :=
        executing_of_split (waits := []) rfl replied
      rw [exec_framed runsWhole wholeFramed, serve, turn, exec_requestCompletion]
      have takes : (s.entering whole).takesEvents = true :=
        takesEvents_of_takesFrames (s := s) (takesFrames_of_ready ready)
      exact happens_taken takes (requestEnds_of_executing executing ends)
  · have none : s.link.executing = none := by
      simp only [State.ready, Bool.and_eq_true] at ready
      exact executing_of_replies ready.1.1.2
    rw [exec_requestCompletion, happens, requestEnds, none]
    simp

end Sys2Proof.Machine
end

section
/-! The reads (R10, R15, R19, R23, R90, R124, R141, R163). -/

namespace Sys2Proof.Machine

/-- A difference is the representative of its class modulo 2^24 in the signed range (R123). -/
theorem difference_eq {beams scans : Nat} {d : Int} (h : ∃ k : Int, d = (beams : Int) - scans + k * 16777216)
    (low : -8388608 ≤ d) (high : d < 8388608) : difference beams scans = d := by
  obtain ⟨k, rfl⟩ := h
  simp only [difference, counterModulus]
  omega

variable {s : State}

theorem blockCardRead_uid {uid k slot : Nat} {c : Card} (h : s.cardByUid uid = some (slot, c)) :
    blockCardRead ⟨0, uid, k⟩ s = (s, s.cardAnswer slot c) := by
  simp only [blockCardRead, h]

theorem blockCardRead_slot {uid slot : Nat} {c : Card} (room : slot < 8192)
    (h : Table.find s.store.cards slot = some c) : blockCardRead ⟨1, uid, slot⟩ s = (s, s.cardAnswer slot c) := by
  simp only [blockCardRead, h, cardSlots, if_pos room]

theorem blockCardRead_range {selector uid slot : Nat} (h : 1 < selector ∨ selector = 1 ∧ 8191 < slot) :
    blockCardRead ⟨selector, uid, slot⟩ s = (s, .refused .range) := by
  match selector, h with
  | 1, .inr ⟨_, far⟩ => exact if_neg (Nat.not_lt.mpr far)
  | _ + 2, _ => rfl

theorem blockCardRead_notFound {selector uid slot : Nat} (h : selector = 0 ∧ s.cardByUid uid = none ∨
    selector = 1 ∧ slot ≤ 8191 ∧ Table.find s.store.cards slot = none) :
    blockCardRead ⟨selector, uid, slot⟩ s = (s, .refused .notFound) := by
  rcases h with ⟨rfl, none⟩ | ⟨rfl, room, none⟩
  · simp only [blockCardRead, none]
  · simp only [blockCardRead, none, cardSlots, if_pos (Nat.lt_succ_of_le room)]

theorem blockAccountRead_finds {number slot : Nat} {a : Account} (h : s.accountByNumber number = some (slot, a)) :
    blockAccountRead number s = (s, .accountRead slot a (s.cardsNaming number) a.available) := by
  simp only [blockAccountRead, h]

theorem blockAccountRead_notFound {number : Nat} (h : s.accountByNumber number = none) :
    blockAccountRead number s = (s, .refused .notFound) := by
  simp only [blockAccountRead, h]

theorem readerBlocked_eq (door : Nat) :
    s.readerBlocked door = (s.reader door).blockedUntil.any fun t => decide (s.clock.runSeconds < t) := by
  unfold State.readerBlocked
  cases (s.reader door).blockedUntil <;> rfl

theorem blockDoorRead_door {door : Nat} (h : door ≤ 4095) : blockDoorRead door s = (s, .doorRead {
    config := s.doorConfig door
    state := (s.channel door).state
    dnd := (s.channel door).dnd
    relatchOwed := (s.channel door).relatchOwed
    pollOutstanding := (s.channel door).pollOutstanding
    missCount := (s.channel door).missCount
    refusals := (s.reader door).history.length
    blocked := (s.reader door).blockedUntil.any fun t => decide (s.clock.runSeconds < t) }) := by
  rw [blockDoorRead, if_pos (show door < doorCount from Nat.lt_succ_of_le h), readerBlocked_eq]

theorem blockDoorRead_range {door : Nat} (h : 4095 < door) : blockDoorRead door s = (s, .refused .range) :=
  if_neg (Nat.not_lt.mpr h)

theorem blockSettingRead_reads {id lane : Nat} {name : SettingName} (h : settingOf id lane = .ok name) :
    blockSettingRead ⟨id, lane⟩ s = (s, .setting (s.store.settings.read name)) := by
  simp only [blockSettingRead, h]

theorem blockTabRead_range {slot : Nat} (h : 127 < slot) : blockTabRead slot s = (s, .refused .range) :=
  if_neg (Nat.not_lt.mpr h)

section
variable {slot generation : Nat} {t : Tab} (room : slot ≤ 127)
include room

theorem blockTabRead_free (h : s.tabSlot slot = ⟨generation, .free⟩) :
    blockTabRead slot s = (s, .tabRead generation none) := by
  simp only [blockTabRead, tabSlots, if_pos (Nat.lt_succ_of_le room), h]

theorem blockTabRead_opened {deadline : Nat} (h : s.tabSlot slot = ⟨generation, .opened t deadline⟩) :
    blockTabRead slot s = (s, .tabRead generation (some (s.tabView t (some deadline) none none))) := by
  simp only [blockTabRead, tabSlots, if_pos (Nat.lt_succ_of_le room), h]

theorem blockTabRead_closing {r : CloseReason} (h : s.tabSlot slot = ⟨generation, .closing t r⟩) :
    blockTabRead slot s = (s, .tabRead generation
      (some (s.tabView t none (some r) (some (s.engine.waiting.idxOf slot + 1))))) := by
  simp only [blockTabRead, tabSlots, if_pos (Nat.lt_succ_of_le room), h]

end

theorem blockLaneRead_lane {n : Nat} (h : n ≤ 3) : blockLaneRead n s = (s, .laneRead (s.laneView n)) :=
  if_neg (Nat.not_lt.mpr h)

theorem blockLaneRead_range {n : Nat} (h : 3 < n) : blockLaneRead n s = (s, .refused .range) := if_pos h

theorem laneView_eq {n : Nat} {l : Lane} (lane : Four.get s.lanes n = l) {dIn dOut : Int}
    (hIn : l.counters.difference .inward = dIn) (hOut : l.counters.difference .outward = dOut) : s.laneView n = {
      softGate := l.softGate
      brace := l.brace.level
      gate := l.gate
      s := l.s.level
      i := l.i.level
      decoder := l.decoder
      mark := l.mark
      settling := l.settling
      counters := l.counters
      openTime := l.openTime
      effectiveFor := if l.gate then some (s.clock.runSeconds - l.openTime.runSeconds) else none
      flow := if l.gate then l.flowEnd.map fun e => (l.flowCount, e - s.clock.ms, l.crowdingArmed) else none
      differenceIn := dIn
      differenceOut := dOut
      armedIn := l.armedIn
      armedOut := l.armedOut
      role := Four.get s.store.settings.laneRole n
      flowWindow := Four.get s.store.settings.flowWindow n
      flowLimit := Four.get s.store.settings.flowLimit n
      hold := l.hold } := by
  subst lane hIn hOut
  rfl

theorem blockAllAboard_answers {start count : Nat} (h1 : start ≤ 8191) (h2 : 1 ≤ count) (h3 : count ≤ 16) :
    blockAllAboard ⟨start, count⟩ s = (s, .allAboard s.tracker.counts s.tracker.ashore.length start
      (((s.tracker.ashore.drop start).take count).filterMap fun slot =>
        (Table.find s.store.cards slot).map Card.ashoreEntry)) :=
  if_neg (by dsimp only; omega)

theorem blockAllAboard_range {start count : Nat} (h : 8191 < start ∨ count = 0 ∨ 16 < count) :
    blockAllAboard ⟨start, count⟩ s = (s, .refused .range) := if_pos h

/-- Settles O14. -/
theorem readsAnswerAndChangeNothing : Obligations.ReadsAnswerAndChangeNothing := by
  unfold Obligations.ReadsAnswerAndChangeNothing
  intro s tag ready
  refine ⟨serve_block ready blockSummary_blind rfl rfl _, fun uid k slot c h => ?_, fun uid slot c room h => ?_,
    fun selector uid slot => ⟨fun h => ?_, fun h => ?_⟩, fun number => ⟨fun slot a h => ?_, fun h => ?_⟩,
    fun door => ⟨fun h => ?_, fun h => ?_⟩, fun id lane name h => ?_, fun slot h => ?_,
    fun slot generation room h => ?_,
    fun slot generation st tab deadline reason left place room h kinds => ?_,
    fun n l => ⟨fun dIn dOut hn lane kIn kOut lowIn highIn lowOut highOut => ?_, fun h => ?_⟩,
    fun start count loaded => ⟨fun h1 h2 h3 => ?_, fun h => ?_⟩⟩
  · exact serve_block ready blockCardRead_blind rfl (blockCardRead_uid h) _
  · exact serve_block ready blockCardRead_blind rfl (blockCardRead_slot room h) _
  · exact serve_block ready blockCardRead_blind rfl (blockCardRead_range h) _
  · exact serve_block ready blockCardRead_blind rfl (blockCardRead_notFound h) _
  · exact serve_block ready blockAccountRead_blind rfl (blockAccountRead_finds h) _
  · exact serve_block ready blockAccountRead_blind rfl (blockAccountRead_notFound h) _
  · exact serve_block ready blockDoorRead_blind rfl (blockDoorRead_door h) _
  · exact serve_block ready blockDoorRead_blind rfl (blockDoorRead_range h) _
  · exact serve_block ready blockSettingRead_blind rfl (blockSettingRead_reads h) _
  · exact serve_block ready blockTabRead_blind rfl (blockTabRead_range h) _
  · exact serve_block ready blockTabRead_blind rfl (blockTabRead_free room h) _
  · rcases kinds with ⟨⟨t, rfl, rfl, rfl⟩, rfl, rfl⟩ | ⟨⟨r, rfl, rfl⟩, rfl, rfl, rfl⟩
    · exact serve_block ready blockTabRead_blind rfl (blockTabRead_opened room h) _
    · exact serve_block ready blockTabRead_blind rfl (blockTabRead_closing room h) _
  · have view := laneView_eq lane (difference_eq kIn lowIn highIn) (difference_eq kOut lowOut highOut)
    exact serve_block ready blockLaneRead_blind rfl ((blockLaneRead_lane hn).trans (by rw [view])) _
  · exact serve_block ready blockLaneRead_blind rfl (blockLaneRead_range h) _
  · exact serve_block ready blockAllAboard_blind (whenLoaded_takes loaded) (blockAllAboard_answers h1 h2 h3) _
  · exact serve_block ready blockAllAboard_blind (whenLoaded_takes loaded) (blockAllAboard_range h) _

end Sys2Proof.Machine
end

section
/-! LOAD.END (R4, R5, R63) and CARD.PUT (R7, R8, R9). -/

namespace Sys2Proof.Machine

variable {s : State}

/-! ## References -/

theorem named_of_isSome {n : Nat} (h : (s.accountByNumber n).isSome = true) : ¬ (s.accountByNumber n).isNone = true := by
  rw [Option.isNone_iff_eq_none]
  exact Option.isSome_iff_ne_none.mp h

theorem unconfigured_of_exists {ds : List Nat} (h : ∃ d ∈ ds, (s.doorConfig d).configured = false) :
    (ds.any fun d => !(s.doorConfig d).configured) = true := by
  simpa using h

theorem configured_of_forall {ds : List Nat} (h : ∀ d ∈ ds, (s.doorConfig d).configured = true) :
    ¬ (ds.any fun d => !(s.doorConfig d).configured) = true := by
  simpa using h

theorem cardFailure_passes {c : Card} (account : (s.accountByNumber c.config.account).isSome = true)
    (doors : ∀ d ∈ c.config.cabins, (s.doorConfig d).configured = true)
    (sect : ∀ p, c.config.section_ = some p → p.first ≤ p.second) : s.cardFailure c = none :=
  (s.cardFailure_eq_none c).mpr ⟨by
    rw [← not_not (a := c.config.account ∈ s.numbers), ← accountByNumber_isNone]
    exact named_of_isSome account, doors, sect⟩

theorem cardFailure_noAccount {c : Card} (h : s.accountByNumber c.config.account = none) :
    s.cardFailure c = some .noAccount := by
  rw [State.cardFailure, if_pos (by rw [h]; rfl)]

theorem cardFailure_noDoor {c : Card} (account : (s.accountByNumber c.config.account).isSome = true)
    (h : ∃ d ∈ c.config.cabins, (s.doorConfig d).configured = false) : s.cardFailure c = some .noDoor := by
  rw [State.cardFailure, if_neg (named_of_isSome account), if_pos (unconfigured_of_exists h)]

theorem cardFailure_section {c : Card} {p : Span2} (account : (s.accountByNumber c.config.account).isSome = true)
    (doors : ∀ d ∈ c.config.cabins, (s.doorConfig d).configured = true) (sect : c.config.section_ = some p)
    (h : p.second < p.first) : s.cardFailure c = some .section_ := by
  rw [State.cardFailure, if_neg (named_of_isSome account), if_neg (configured_of_forall doors)]
  simp only [sect, if_pos h]

/-! ## LOAD.END -/

theorem loadCheck_passes (h : ∀ e ∈ s.store.cards, s.cardFailure e.2 = none) : s.loadCheck = none := by
  rw [State.loadCheck, List.findSome?_eq_none_iff]
  intro e he
  rw [h e he]
  rfl

/-- The first card that fails is the one reported. -/
theorem loadCheck_fails {before after : Table Card} {slot : Nat} {c : Card} {r : LoadFailure}
    (split : s.store.cards = before ++ (slot, c) :: after) (pass : ∀ e ∈ before, s.cardFailure e.2 = none)
    (h : s.cardFailure c = some r) : s.loadCheck = some (slot, r) := by
  have none : before.findSome? (fun e => (s.cardFailure e.2).map fun r => (e.1, r)) = none := by
    rw [List.findSome?_eq_none_iff]
    intro e he
    rw [pass e he]
    rfl
  rw [State.loadCheck, split, List.findSome?_append, none, List.findSome?_cons]
  simp only [h, Option.map_some, Option.none_or]

theorem blockLoadEnd_passes (h : s.loadCheck = none) :
    blockLoadEnd () s = (s.enterService, .loadPassed s.store.cards.length) := by
  simp only [blockLoadEnd, h]

theorem blockLoadEnd_fails {slot : Nat} {r : LoadFailure} (h : s.loadCheck = some (slot, r)) :
    blockLoadEnd () s = (s, .loadFailed slot r) := by
  simp only [blockLoadEnd, h]

theorem whenLoading_takes (h : s.store.opState = .loading) : Gate.whenLoading.refusal s.store.opState = none := by
  rw [h]
  rfl

/-- Settles O16. -/
theorem loadEndEntersServiceOrNamesTheFailure : Obligations.LoadEndEntersServiceOrNamesTheFailure := by
  unfold Obligations.LoadEndEntersServiceOrNamesTheFailure
  intro s tag ready loading
  have takes := whenLoading_takes loading
  refine ⟨fun pass => ?_, fun before slot c after split pass => ⟨fun h => ?_, fun account h => ?_,
    fun p account doors sect h => ?_⟩⟩
  · have check : s.loadCheck = none := loadCheck_passes fun e he =>
      cardFailure_passes (pass e he).1 (pass e he).2.1 (pass e he).2.2
    exact serve_block ready blockLoadEnd_blind takes (blockLoadEnd_passes check) _
  · exact serve_block ready blockLoadEnd_blind takes
      (blockLoadEnd_fails (loadCheck_fails split pass (cardFailure_noAccount h))) _
  · exact serve_block ready blockLoadEnd_blind takes
      (blockLoadEnd_fails (loadCheck_fails split pass (cardFailure_noDoor account h))) _
  · exact serve_block ready blockLoadEnd_blind takes
      (blockLoadEnd_fails (loadCheck_fails split pass (cardFailure_section account doors sect h))) _

/-! ## The fields of a CARD.PUT -/

theorem isNewOf_none {n : Nat} (h : 1 < n) : isNewOf n = none := by
  match n, h with
  | _ + 2, _ => rfl

theorem initialPresenceOf_none {n : Nat} (h : 1 < n) : initialPresenceOf n = none := by
  match n, h with
  | _ + 2, _ => rfl

theorem flagOf_none {n : Nat} (h : 1 < n) : flagOf n = none := by
  match n, h with
  | _ + 2, _ => rfl

theorem flagOf_some {n : Nat} {b : Bool} (h : flagOf n = some b) : n ≤ 1 := by
  by_contra far
  rw [flagOf_none (Nat.lt_of_not_le far)] at h
  cases h

theorem classOf_some {n : Nat} {cls : CardClass} (h : classOf n = some cls) :
    n ≤ 3 ∧ (cls = .child → n = 1) ∧ (cls = .crew → n = 2) := by
  match n with
  | 0 => cases h; decide
  | 1 => cases h; decide
  | 2 => cases h; decide
  | 3 => cases h; decide
  | _ + 4 => cases h

theorem cabinsOf_some {q : CardPutReq} {ds : List Nat} (h : cabinsOf q = some ds) :
    q.cabinCount ≤ 2 ∧ (1 ≤ q.cabinCount → q.cabin0 ≤ 4095) ∧
      (q.cabinCount = 2 → q.cabin1 ≤ 4095 ∧ q.cabin0 ≠ q.cabin1) := by
  unfold cabinsOf doorCount at h
  split at h
  next none => omega
  next one =>
    split at h
    · omega
    · cases h
  next two =>
    split at h
    next fits =>
      simp only [Bool.and_eq_true, decide_eq_true_eq, bne_iff_ne, ne_eq] at fits
      omega
    · cases h
  · cases h

theorem optOf_some {α : Type} {f : OptField α} {o : Option α} (h : optOf f = some o) :
    f.presence = 0 ∧ o = none ∨ f.presence = 1 ∧ o = some f.value := by
  unfold optOf at h
  split at h
  next absent => exact .inl ⟨absent, (Option.some.inj h).symm⟩
  next present => exact .inr ⟨present, (Option.some.inj h).symm⟩
  · cases h

theorem sectionOf_some {cls : CardClass} {f : OptField Span2} {o : Option Span2} (h : sectionOf cls f = some o) :
    f.presence ≤ 1 ∧ (f.presence = 1 → cls = .crew ∧ f.value.first ≤ 4095 ∧ f.value.second ≤ 4095) := by
  obtain ⟨x, opt, body⟩ := Option.bind_eq_some_iff.mp h
  rcases optOf_some opt with ⟨absent, rfl⟩ | ⟨present, rfl⟩
  · omega
  · dsimp only at body
    split at body
    next fits =>
      simp only [Bool.and_eq_true, decide_eq_true_eq] at fits
      obtain ⟨⟨crew, first⟩, second⟩ := fits
      exact ⟨present.le, fun _ => ⟨crew, Nat.le_of_lt_succ first, Nat.le_of_lt_succ second⟩⟩
    · cases body

theorem hoursOf_some {cls : CardClass} {f : OptField Span2} {o : Option Span2} (h : hoursOf cls f = some o) :
    f.presence ≤ 1 ∧ (f.presence = 1 → cls = .crew ∧ f.value.first ≤ 1439 ∧ f.value.second ≤ 1439 ∧
      f.value.first ≠ f.value.second) := by
  obtain ⟨x, opt, body⟩ := Option.bind_eq_some_iff.mp h
  rcases optOf_some opt with ⟨absent, rfl⟩ | ⟨present, rfl⟩
  · omega
  · dsimp only at body
    split at body
    next fits =>
      simp only [Bool.and_eq_true, decide_eq_true_eq, bne_iff_ne, ne_eq] at fits
      exact ⟨present.le, fun _ => ⟨fits.1.1.1, by omega, by omega, fits.2⟩⟩
    · cases body

theorem dailyCapOf_some {cls : CardClass} {f : OptField Nat} {o : Option Nat} (h : dailyCapOf cls f = some o) :
    f.presence ≤ 1 ∧ (f.presence = 1 → cls = .child ∧ f.value ≤ 1000000) := by
  obtain ⟨x, opt, body⟩ := Option.bind_eq_some_iff.mp h
  rcases optOf_some opt with ⟨absent, rfl⟩ | ⟨present, rfl⟩
  · omega
  · dsimp only at body
    split at body
    next fits =>
      simp only [Bool.and_eq_true, decide_eq_true_eq] at fits
      exact ⟨present.le, fun _ => fits⟩
    · cases body

/-- R7 step 1: a field of the configuration outside its range. -/
def ConfigOutOfRange (q : CardPutReq) : Prop :=
  3 < q.cls ∨ 2 < q.cabinCount ∨ 1 ≤ q.cabinCount ∧ 4095 < q.cabin0 ∨
    q.cabinCount = 2 ∧ (4095 < q.cabin1 ∨ q.cabin0 = q.cabin1) ∨
    1 < q.section_.presence ∨ q.section_.presence = 1 ∧
      (q.cls ≠ 2 ∨ 4095 < q.section_.value.first ∨ 4095 < q.section_.value.second) ∨
    1 < q.hours.presence ∨ q.hours.presence = 1 ∧
      (q.cls ≠ 2 ∨ 1439 < q.hours.value.first ∨ 1439 < q.hours.value.second ∨
        q.hours.value.first = q.hours.value.second) ∨
    1 < q.privilege ∨ q.lastDay < q.firstDay ∨ 3 < q.tier ∨ 1 < q.dailyCap.presence ∨
    q.dailyCap.presence = 1 ∧ (q.cls ≠ 1 ∨ 1000000 < q.dailyCap.value)

theorem cardConfigOf_none {q : CardPutReq} (h : ConfigOutOfRange q) : cardConfigOf q = none := by
  by_contra some
  obtain ⟨g, some⟩ := Option.ne_none_iff_exists'.mp some
  simp only [cardConfigOf, Option.bind_eq_some_iff] at some
  obtain ⟨cls, hcls, cabins, hcabins, sect, hsect, hours, hhours, privilege, hprivilege, cap, hcap, days⟩ := some
  obtain ⟨class3, child, crew⟩ := classOf_some hcls
  obtain ⟨count, cabin0, cabin1⟩ := cabinsOf_some hcabins
  obtain ⟨sect1, sect⟩ := sectionOf_some hsect
  obtain ⟨hours1, hours⟩ := hoursOf_some hhours
  obtain ⟨cap1, cap⟩ := dailyCapOf_some hcap
  have privilege1 := flagOf_some hprivilege
  split at days
  next fits =>
    simp only [Bool.and_eq_true, decide_eq_true_eq] at fits
    have sect := fun p => And.imp_left crew (sect p)
    have hours := fun p => And.imp_left crew (hours p)
    have cap := fun p => And.imp_left child (cap p)
    rcases h with h | h | h | h | h | h | h | h | h | h | h | h | h
    · omega
    · omega
    · omega
    · omega
    · omega
    · have := sect h.1
      omega
    · omega
    · have := hours h.1
      omega
    · omega
    · omega
    · omega
    · omega
    · have := cap h.1
      omega
  · cases days

/-! ## CARD.PUT -/

section
variable {q : CardPutReq} {g : CardConfig}

theorem blockCardPut_range (h : cardConfigOf q = none ∨ 1 < q.kind) : blockCardPut q s = (s, .refused .range) := by
  unfold blockCardPut
  rcases h with config | kind
  · rw [config]
    split
    next bad => cases bad
    next bad => cases bad
    · rfl
  · rw [isNewOf_none kind]

theorem blockCardPut_new (kind : q.kind = 0) (config : cardConfigOf q = some g) :
    blockCardPut q s = s.putNewCard q.uid q.issue q.presence g := by
  rw [blockCardPut, kind, config]
  rfl

theorem blockCardPut_change (kind : q.kind = 1) (config : cardConfigOf q = some g) :
    blockCardPut q s = s.putChangedCard q.uid g := by
  rw [blockCardPut, kind, config]
  rfl

end

section
variable {uid issue presence : Nat} {g : CardConfig} {p : Presence}

theorem putNewCard_range (h : 15 < issue ∨ 1 < presence) : s.putNewCard uid issue presence g = (s, .refused .range) := by
  unfold State.putNewCard
  cases e : initialPresenceOf presence with
  | none => rfl
  | some p =>
    rcases h with far | far
    · exact if_pos far
    · rw [initialPresenceOf_none far] at e
      cases e

variable (initial : initialPresenceOf presence = some p) (issued : issue ≤ 15)
include initial issued

theorem putNewCard_exists {e : Nat × Card} (h : s.cardByUid uid = some e) :
    s.putNewCard uid issue presence g = (s, .refused .exists_) := by
  simp only [State.putNewCard, initial, if_neg (Nat.not_lt.mpr issued), h]

variable (fresh : s.cardByUid uid = none)
include fresh

theorem putNewCard_full (h : Table.freeSlot 8192 s.store.cards = none) :
    s.putNewCard uid issue presence g = (s, .refused .full) := by
  simp only [State.putNewCard, initial, if_neg (Nat.not_lt.mpr issued), fresh, cardSlots, h]

variable {slot : Nat} (free : Table.freeSlot 8192 s.store.cards = some slot)
include free

theorem putNewCard_badReference {st : Status} (h : s.referenceFailure g = some st) :
    s.putNewCard uid issue presence g = (s, .refused st) := by
  simp only [State.putNewCard, initial, if_neg (Nat.not_lt.mpr issued), fresh, cardSlots, free, h]

theorem putNewCard_puts (h : s.referenceFailure g = none) :
    s.putNewCard uid issue presence g = (s.newCard slot uid issue g p, .cardPut slot issue p) := by
  simp only [State.putNewCard, initial, if_neg (Nat.not_lt.mpr issued), fresh, cardSlots, free, h]

end

section
variable {uid : Nat} {g : CardConfig}

theorem putChangedCard_notFound (h : s.cardByUid uid = none) : s.putChangedCard uid g = (s, .refused .notFound) := by
  simp only [State.putChangedCard, h]

variable {slot : Nat} {c : Card} (found : s.cardByUid uid = some (slot, c))
include found

theorem putChangedCard_badReference {st : Status} (h : s.referenceFailure g = some st) :
    s.putChangedCard uid g = (s, .refused st) := by
  simp only [State.putChangedCard, found, h]

variable (refers : s.referenceFailure g = none)
include refers

theorem putChangedCard_puts (h : c.config.account = g.account ∨ s.engine.cardHasTab slot = false) :
    s.putChangedCard uid g = (s.changeCard slot c g, .cardPut slot c.issue c.presence) := by
  have stays : ¬ (c.config.account ≠ g.account ∧ s.engine.cardHasTab slot = true) := by
    rintro ⟨other, tab⟩
    rcases h with same | none
    · exact other same
    · rw [none] at tab
      cases tab
  simp only [State.putChangedCard, found, refers, if_neg stays]

theorem putChangedCard_tabOpen (other : c.config.account ≠ g.account) (tab : s.engine.cardHasTab slot = true) :
    s.putChangedCard uid g = (s, .outcome .tabOpen) := by
  simp only [State.putChangedCard, found, refers, if_pos (And.intro other tab)]

end

section
variable {g : CardConfig}

theorem referenceFailure_loaded (h : s.loaded = true) : s.referenceFailure g = s.badReference g := if_pos h

theorem referenceFailure_notFound {status : Status} (loaded : s.loaded = true)
    (h : s.accountByNumber g.account = none ∧ status = .notFound ∨
      (s.accountByNumber g.account).isSome = true ∧
        ((∃ d ∈ g.cabins, (s.doorConfig d).configured = false) ∧ status = .notFound ∨
          (∀ d ∈ g.cabins, (s.doorConfig d).configured = true) ∧
            (∃ p, g.section_ = some p ∧ p.second < p.first) ∧ status = .range)) :
    s.referenceFailure g = some status := by
  rw [referenceFailure_loaded loaded, State.badReference]
  rcases h with ⟨none, rfl⟩ | ⟨account, ⟨door, rfl⟩ | ⟨doors, ⟨p, sect, bad⟩, rfl⟩⟩
  · rw [if_pos (by rw [none]; rfl)]
  · rw [if_neg (named_of_isSome account), if_pos (unconfigured_of_exists door)]
  · rw [if_neg (named_of_isSome account), if_neg (configured_of_forall doors)]
    simp only [sect, if_pos bad]

theorem referenceFailure_none (h : s.store.opState = .loading ∨ s.loaded = true ∧
    (s.accountByNumber g.account).isSome = true ∧ (∀ d ∈ g.cabins, (s.doorConfig d).configured = true) ∧
    (∀ p, g.section_ = some p → p.first ≤ p.second)) : s.referenceFailure g = none := by
  rcases h with loading | ⟨loaded, account, doors, sect⟩
  · rw [State.referenceFailure, if_neg]
    rw [State.loaded, loading]
    decide
  · rw [referenceFailure_loaded loaded, State.badReference, if_neg (named_of_isSome account),
      if_neg (configured_of_forall doors)]
    cases bounds : g.section_ with
    | none => rfl
    | some p => exact if_neg (Nat.not_lt.mpr (sect p bounds))

end

/-- Settles O17: by the kind of the put and the first test that it fails. -/
theorem cardPutsWriteTheCardTable : Obligations.CardPutsWriteTheCardTable := by
  unfold Obligations.CardPutsWriteTheCardTable
  intro s tag q ready opened
  have takes := fromLoading_takes opened
  have serves {t : State} {a : Answer} (h : blockCardPut q s = (t, a)) :
      exec (.cardPut tag (.fit q)) s = .next (t.replied 0x92#8 tag a) :=
    serve_block ready blockCardPut_blind takes h _
  refine ⟨fun bad => serves ?_, fun g config => ⟨fun p new initial issued => ⟨fun ⟨e, found⟩ => serves ?_,
    fun fresh full => serves ?_⟩, fun change fresh => serves ?_, fun status loaded bad kinds => serves ?_,
    fun refers => ⟨fun p slot new initial issued fresh free => serves ?_,
      fun slot c change found stays => serves ?_, fun slot c change found other tab => serves ?_⟩⟩⟩
  · have parts : ConfigOutOfRange q ∨ 1 < q.kind ∨ q.kind = 0 ∧ (15 < q.issue ∨ 1 < q.presence) := by
      simpa only [ConfigOutOfRange, or_assoc] using bad
    rcases parts with config | kind | ⟨new, far⟩
    · exact blockCardPut_range (.inl (cardConfigOf_none config))
    · exact blockCardPut_range (.inr kind)
    · cases config : cardConfigOf q with
      | none => exact blockCardPut_range (.inl config)
      | some g => exact (blockCardPut_new new config).trans (putNewCard_range far)
  · exact (blockCardPut_new new config).trans (putNewCard_exists initial issued found)
  · exact (blockCardPut_new new config).trans (putNewCard_full initial issued fresh full)
  · exact (blockCardPut_change change config).trans (putChangedCard_notFound fresh)
  · have failure := referenceFailure_notFound loaded bad
    rcases kinds with ⟨new, initial, issued, fresh, free⟩ | ⟨change, found⟩
    · obtain ⟨p, initial⟩ := Option.isSome_iff_exists.mp initial
      obtain ⟨slot, free⟩ := Option.isSome_iff_exists.mp free
      exact (blockCardPut_new new config).trans (putNewCard_badReference initial issued fresh free failure)
    · obtain ⟨⟨slot, c⟩, found⟩ := Option.isSome_iff_exists.mp found
      exact (blockCardPut_change change config).trans (putChangedCard_badReference found failure)
  · exact (blockCardPut_new new config).trans
      (putNewCard_puts initial issued fresh free (referenceFailure_none refers))
  · exact (blockCardPut_change change config).trans
      (putChangedCard_puts found (referenceFailure_none refers) stays)
  · exact (blockCardPut_change change config).trans
      (putChangedCard_tabOpen found (referenceFailure_none refers) other tab)

end Sys2Proof.Machine
end

section
/-! The account table (R14, R16, R98, R107), the door table (R18), the rate tables (R20, R21) and the settings
(R22, R23). -/

namespace Sys2Proof.Machine

variable {s : State}

/-! ## Accounts -/

theorem limitOf_none {limit : Int} (h : limit < 0 ∨ 10000000 < limit) : limitOf limit = none :=
  if_neg (by omega)

theorem limitOf_nat {limit : Nat} (h : limit ≤ 10000000) : limitOf (limit : Int) = some limit :=
  if_pos (by omega)

theorem accountStatusOf_none {n : Nat} (h : 1 < n) : accountStatusOf n = none := by
  match n, h with
  | _ + 2, _ => rfl

theorem blockAccountPut_range {kind number code : Nat} {limit : Int}
    (h : 1 < kind ∨ limit < 0 ∨ 10000000 < limit ∨ 1 < code) :
    blockAccountPut ⟨kind, number, limit, code⟩ s = (s, .refused .range) := by
  have missing : isNewOf kind = none ∨ limitOf limit = none ∨ accountStatusOf code = none := by
    rcases h with kind | low | high | code
    · exact .inl (isNewOf_none kind)
    · exact .inr (.inl (limitOf_none (.inl low)))
    · exact .inr (.inl (limitOf_none (.inr high)))
    · exact .inr (.inr (accountStatusOf_none code))
  unfold blockAccountPut
  split
  next new limit status => simp_all
  next change limit status => simp_all
  · rfl

section
variable {number limit code : Nat} {status : AccountStatus} (small : limit ≤ 10000000)
  (coded : accountStatusOf code = some status)
include small coded

theorem blockAccountPut_new : blockAccountPut ⟨0, number, limit, code⟩ s = s.putNewAccount number limit status := by
  simp only [blockAccountPut, isNewOf, limitOf_nat small, coded]

theorem blockAccountPut_change :
    blockAccountPut ⟨1, number, limit, code⟩ s = s.putChangedAccount number limit status := by
  simp only [blockAccountPut, isNewOf, limitOf_nat small, coded]

end

section
variable {number limit : Nat} {status : AccountStatus}

theorem putNewAccount_exists {e : Nat × Account} (h : s.accountByNumber number = some e) :
    s.putNewAccount number limit status = (s, .refused .exists_) := by
  simp only [State.putNewAccount, h]

theorem putNewAccount_full (h : s.accountByNumber number = none)
    (full : Table.freeSlot 4096 s.store.accounts = none) :
    s.putNewAccount number limit status = (s, .refused .full) := by
  simp only [State.putNewAccount, h, accountSlots, full]

theorem putNewAccount_puts {slot : Nat} (h : s.accountByNumber number = none)
    (free : Table.freeSlot 4096 s.store.accounts = some slot) : s.putNewAccount number limit status =
      (s.setAccount slot ⟨number, limit, status, 0, 0, 0, none⟩, .accountPut slot) := by
  simp only [State.putNewAccount, h, accountSlots, free]

theorem putChangedAccount_notFound (h : s.accountByNumber number = none) :
    s.putChangedAccount number limit status = (s, .refused .notFound) := by
  simp only [State.putChangedAccount, h]

theorem putChangedAccount_puts {slot : Nat} {a : Account} (h : s.accountByNumber number = some (slot, a)) :
    s.putChangedAccount number limit status =
      (s.setAccount slot { a with limit := limit, status := status }, .accountPut slot) := by
  simp only [State.putChangedAccount, h]

end

theorem blockAccountCredit_range {number : Nat} {amount : Int} (h : amount < 1 ∨ 10000000 < amount) :
    blockAccountCredit ⟨number, amount⟩ s = (s, .refused .range) :=
  if_neg (by dsimp only; omega)

section
variable {number amount : Nat} (low : 1 ≤ amount) (high : amount ≤ 10000000)
include low high

theorem blockAccountCredit_notFound (h : s.accountByNumber number = none) :
    blockAccountCredit ⟨number, amount⟩ s = (s, .refused .notFound) := by
  have inRange : 1 ≤ (amount : Int) ∧ (amount : Int) ≤ 10000000 := by omega
  simp only [blockAccountCredit, if_pos inRange, h]

/-- What the credit takes off the balance, which stays in its range. -/
theorem blockAccountCredit_credits {slot : Nat} {a : Account} (h : s.accountByNumber number = some (slot, a))
    (balance : -10000000 ≤ a.balance) : blockAccountCredit ⟨number, amount⟩ s =
      (s.setAccount slot { a with balance := max (a.balance - amount) (-10000000) },
        .credited (min amount (a.balance + 10000000).toNat) (max (a.balance - amount) (-10000000))) := by
  have inRange : 1 ≤ (amount : Int) ∧ (amount : Int) ≤ 10000000 := by omega
  have taken : (a.balance - max (a.balance - (amount : Int)) (-10000000)).toNat =
      min amount (a.balance + 10000000).toNat := by omega
  simp only [blockAccountCredit, if_pos inRange, h, lowerBalance, Int.toNat_natCast, taken]

end

section
variable {number slot : Nat} {a : Account}

theorem blockAccountRetire_notFound (h : s.accountByNumber number = none) :
    blockAccountRetire number s = (s, .refused .notFound) := by
  simp only [blockAccountRetire, h]

variable (found : s.accountByNumber number = some (slot, a))
include found

theorem blockAccountRetire_both (named : s.cardsNaming number ≠ 0) (closes : s.engine.accountCloses slot = true) :
    blockAccountRetire number s =
      (s, if Config.closingTabAnswersFirst then .outcome .tabOpen else .refused .state) := by
  simp only [blockAccountRetire, found, if_pos named, closes, Bool.true_and]
  split <;> rfl

theorem blockAccountRetire_named (named : s.cardsNaming number ≠ 0) (closes : s.engine.accountCloses slot = false) :
    blockAccountRetire number s = (s, .refused .state) := by
  simp only [blockAccountRetire, found, if_pos named, closes, Bool.false_and, Bool.false_eq_true, if_false]

variable (unnamed : s.cardsNaming number = 0)
include unnamed

theorem blockAccountRetire_tabOpen
    (h : s.engine.accountCloses slot = true ∨ a.held ≠ 0 ∨ a.openTabs ≠ 0) :
    blockAccountRetire number s = (s, .outcome .tabOpen) := by
  simp only [blockAccountRetire, found, if_neg (not_not.mpr unnamed), if_pos h]

theorem blockAccountRetire_retires (closes : s.engine.accountCloses slot = false) (held : a.held = 0)
    (tabs : a.openTabs = 0) : blockAccountRetire number s =
      ({ s with store := { s.store with accounts := Table.erase s.store.accounts slot } }, .outcome .accepted) := by
  have free : ¬ (s.engine.accountCloses slot = true ∨ a.held ≠ 0 ∨ a.openTabs ≠ 0) := by simp [closes, held, tabs]
  simp only [blockAccountRetire, found, if_neg (not_not.mpr unnamed), if_neg free]

end

/-- Settles O19. -/
theorem accountRequestsWriteTheAccountTable : Obligations.AccountRequestsWriteTheAccountTable := by
  unfold Obligations.AccountRequestsWriteTheAccountTable
  intro s tag number ready opened
  have takes := fromLoading_takes opened
  have puts {q : AccountPutReq} {t : State} {a : Answer} (h : blockAccountPut q s = (t, a)) :
      exec (.accountPut tag (.fit q)) s = .next (t.replied 0x96#8 tag a) :=
    serve_block ready blockAccountPut_blind takes h _
  have credits {q : AccountCreditReq} {t : State} {a : Answer} (h : blockAccountCredit q s = (t, a)) :
      exec (.accountCredit tag (.fit q)) s = .next (t.replied 0x98#8 tag a) :=
    serve_block ready blockAccountCredit_blind takes h _
  have retires {t : State} {a : Answer} (h : blockAccountRetire number s = (t, a)) :
      exec (.accountRetire tag (.fit number)) s = .next (t.replied 0x99#8 tag a) :=
    serve_block ready blockAccountRetire_blind takes h _
  refine ⟨fun kind code limit bad => puts (blockAccountPut_range bad),
    fun limit code status small coded => ⟨fun ⟨e, found⟩ => puts ?_, fun missing => ⟨puts ?_, fun full => puts ?_⟩⟩,
    fun limit code status slot small coded missing free => puts ?_,
    fun amount bad => credits (blockAccountCredit_range bad),
    fun missing => ⟨fun amount low high => credits (blockAccountCredit_notFound low high missing),
      retires (blockAccountRetire_notFound missing)⟩,
    fun slot a found => ⟨fun limit code status small coded => puts ?_,
      fun amount low high balance => credits (blockAccountCredit_credits low high found balance),
      fun closes naming hcloses hnaming => ?_⟩⟩
  · exact (blockAccountPut_new small coded).trans (putNewAccount_exists found)
  · exact (blockAccountPut_change small coded).trans (putChangedAccount_notFound missing)
  · exact (blockAccountPut_new small coded).trans (putNewAccount_full missing full)
  · exact (blockAccountPut_new small coded).trans (putNewAccount_puts missing free)
  · exact (blockAccountPut_change small coded).trans (putChangedAccount_puts found)
  · have closing : s.engine.accountCloses slot = closes := hcloses.symm
    have named : s.cardsNaming number = naming := hnaming.symm
    subst closing named
    exact ⟨fun closes named => retires (blockAccountRetire_both found named closes),
      fun closes named => retires (blockAccountRetire_named found named closes),
      fun unnamed h => retires (blockAccountRetire_tabOpen found unnamed h),
      fun closes unnamed held tabs => retires (blockAccountRetire_retires found unnamed closes held tabs)⟩

/-! ## Doors -/

theorem loaded_of_loading (h : s.store.opState = .loading) : s.loaded = false := by
  rw [State.loaded, h]
  rfl

section
variable {door flag label bus : Nat}

theorem blockDoorPut_range (h : 4095 < door ∨ 1 < flag ∨ 65535 < label ∨ 15 < bus) :
    blockDoorPut ⟨door, flag, label, bus⟩ s = (s, .refused .range) := by
  unfold blockDoorPut
  split
  · rfl
  next now coded =>
    have small : flag ≤ 1 := flagOf_some coded
    exact if_pos (by dsimp only [doorCount, busCount]; omega)

variable (hd : door ≤ 4095) (hl : label ≤ 65535) (hb : bus ≤ 15) {now : Bool}
  (coded : flag = 0 ∧ now = false ∨ flag = 1 ∧ now = true)
include hd hl hb coded

/-- A put in range is judged by the door's use in service, and taken in LOADING. -/
theorem blockDoorPut_inRange : blockDoorPut ⟨door, flag, label, bus⟩ s =
    if s.loaded then
      if s.doorInUse door ⟨now, label, bus⟩ then (s, .refused .state)
      else ((s.setDoorConfig door ⟨now, label, bus⟩).handDoor door (s.doorConfig door).configured now,
        .outcome .accepted)
    else (s.setDoorConfig door ⟨now, label, bus⟩, .outcome .accepted) := by
  have inRange : ¬ (doorCount ≤ door ∨ 65535 < label ∨ busCount ≤ bus) := by
    dsimp only [doorCount, busCount]
    omega
  have flags : flagOf flag = some now := by
    rcases coded with ⟨rfl, rfl⟩ | ⟨rfl, rfl⟩ <;> rfl
  simp only [blockDoorPut, flags, if_neg inRange]

theorem blockDoorPut_loading (loading : s.store.opState = .loading) : blockDoorPut ⟨door, flag, label, bus⟩ s =
    (s.setDoorConfig door ⟨now, label, bus⟩, .outcome .accepted) := by
  rw [blockDoorPut_inRange hd hl hb coded, loaded_of_loading loading]
  rfl

variable (loaded : s.loaded = true)
include loaded

theorem blockDoorPut_inUse (used : s.doorInUse door ⟨now, label, bus⟩ = true) :
    blockDoorPut ⟨door, flag, label, bus⟩ s = (s, .refused .state) := by
  rw [blockDoorPut_inRange hd hl hb coded, if_pos loaded, if_pos used]

theorem blockDoorPut_unused (unused : s.doorInUse door ⟨now, label, bus⟩ = false) :
    blockDoorPut ⟨door, flag, label, bus⟩ s =
      ((s.setDoorConfig door ⟨now, label, bus⟩).handDoor door (s.doorConfig door).configured now,
        .outcome .accepted) := by
  rw [blockDoorPut_inRange hd hl hb coded, if_pos loaded, if_neg (Bool.eq_false_iff.mp unused)]

end

/-- R18: a put that would unconfigure a door in use, or move one whose strike request stands to another bus. -/
theorem doorInUse_iff (door : Nat) (g : DoorConfig) : s.doorInUse door g = true ↔
    g.configured = false ∧ ((s.channel door).state = .pending ∨ ∃ e ∈ s.store.cards, door ∈ e.2.config.cabins) ∨
      g.bus ≠ (s.doorConfig door).bus ∧ (s.channel door).state = .pending := by
  simp only [State.doorInUse, Bool.or_eq_true, Bool.and_eq_true, Bool.not_eq_true', List.any_eq_true,
    List.contains_iff_mem, decide_eq_true_eq, ne_comm (a := (s.doorConfig door).bus)]
  rw [or_comm (a := ∃ x ∈ s.store.cards, door ∈ x.2.config.cabins)]

theorem doorInUse_false {door : Nat} {g : DoorConfig}
    (bus : g.bus = (s.doorConfig door).bus ∨ (s.channel door).state ≠ .pending)
    (kept : g.configured = true ∨ (s.channel door).state ≠ .pending ∧
      ∀ e ∈ s.store.cards, door ∉ e.2.config.cabins) : s.doorInUse door g = false := by
  rw [Bool.eq_false_iff, Ne, doorInUse_iff]
  rintro (⟨unconfigured, pending | ⟨e, he, named⟩⟩ | ⟨other, pending⟩)
  · rcases kept with configured | ⟨idle, -⟩
    · rw [configured] at unconfigured
      cases unconfigured
    · exact idle pending
  · rcases kept with configured | ⟨-, unnamed⟩
    · rw [configured] at unconfigured
      cases unconfigured
    · exact unnamed e he named
  · exact bus.elim other fun idle => idle pending

theorem handDoor_same (t : State) (door : Nat) (now : Bool) : t.handDoor door now now = t := by
  cases now <;> rfl

/-- Settles O20. -/
theorem doorPutsConfigureDoors : Obligations.DoorPutsConfigureDoors := by
  unfold Obligations.DoorPutsConfigureDoors
  intro s tag door label bus flag ready opened
  have puts {t : State} {a : Answer} (h : blockDoorPut ⟨door, flag, label, bus⟩ s = (t, a)) :
      exec (.doorPut tag (.fit ⟨door, flag, label, bus⟩)) s = .next (t.replied 0x9A#8 tag a) :=
    serve_block ready blockDoorPut_blind (fromLoading_takes opened) h _
  refine ⟨fun bad => puts (blockDoorPut_range bad), fun now hd hl hb coded =>
    ⟨fun loading => puts (blockDoorPut_loading hd hl hb coded loading), fun loaded on was idle => ?_,
      fun loaded off was idle unnamed => ?_, fun loaded was bus kept => ?_, fun loaded used => ?_⟩⟩
  · subst on
    have unused := doorInUse_false (s := s) (door := door) (g := ⟨true, label, bus⟩) (.inr idle) (.inl rfl)
    have put := blockDoorPut_unused hd hl hb coded loaded unused
    rw [was] at put
    exact puts put
  · subst off
    have unused := doorInUse_false (s := s) (door := door) (g := ⟨false, label, bus⟩) (.inr idle)
      (.inr ⟨idle, unnamed⟩)
    have put := blockDoorPut_unused hd hl hb coded loaded unused
    rw [was] at put
    exact puts put
  · have unused := doorInUse_false (g := ⟨now, label, _⟩) bus kept
    have put := blockDoorPut_unused hd hl hb coded loaded unused
    rw [was, handDoor_same] at put
    exact puts put
  · exact puts (blockDoorPut_inUse hd hl hb coded loaded ((doorInUse_iff door _).mpr used))

/-! ## Rate tables -/

theorem blockCategoryPut_range {category f1 f2 gratuity : Nat}
    (h : 15 < category ∨ 1 < f1 ∨ 1 < f2 ∨ 2500 < gratuity) :
    blockCategoryPut ⟨category, f1, f2, gratuity⟩ s = (s, .refused .range) := by
  unfold blockCategoryPut
  split
  next alcohol taxable first second =>
    have small1 : f1 ≤ 1 := flagOf_some first
    have small2 : f2 ≤ 1 := flagOf_some second
    exact if_neg (by dsimp only; omega)
  · rfl

theorem flagOf_of {n : Nat} {b : Bool} (h : n = 0 ∧ b = false ∨ n = 1 ∧ b = true) : flagOf n = some b := by
  rcases h with ⟨rfl, rfl⟩ | ⟨rfl, rfl⟩ <;> rfl

theorem blockCategoryPut_puts {category f1 f2 gratuity : Nat} {alcohol taxable : Bool} (hc : category ≤ 15)
    (hg : gratuity ≤ 2500) (h1 : flagOf f1 = some alcohol) (h2 : flagOf f2 = some taxable) :
    blockCategoryPut ⟨category, f1, f2, gratuity⟩ s = ({ s with store := { s.store with
      categories := Table.set ⟨false, false, 0⟩ s.store.categories category ⟨alcohol, taxable, gratuity⟩ } },
        .outcome .accepted) := by
  simp only [blockCategoryPut, h1, h2, if_pos (And.intro hc hg)]

/-- Settles O21. -/
theorem ratePutsReplaceEntries : Obligations.RatePutsReplaceEntries := by
  unfold Obligations.RatePutsReplaceEntries
  intro s tag ready
  refine ⟨fun category gratuity f1 f2 bad => ?_, fun region rate bad => ?_,
    fun category gratuity f1 f2 alcohol taxable hc hg h1 h2 => ?_, fun region rate hr hrate => ?_,
    fun tier covered allowance cap h1 h3 ha hc => ?_, fun tier covered allowance cap bad => ?_⟩
  · exact serve_block ready blockCategoryPut_blind rfl (blockCategoryPut_range bad) _
  · exact serve_block ready blockRegionPut_blind rfl (if_neg (by dsimp only; omega)) _
  · exact serve_block ready blockCategoryPut_blind rfl
      (blockCategoryPut_puts hc hg (flagOf_of h1) (flagOf_of h2)) _
  · exact serve_block ready blockRegionPut_blind rfl (if_pos ⟨hr, hrate⟩) _
  · exact serve_block ready blockTierPut_blind rfl (if_pos ⟨h1, h3, ha, hc⟩) _
  · exact serve_block ready blockTierPut_blind rfl (if_neg (by dsimp only; omega)) _

/-! ## Settings -/

theorem clampTo_eq {low high : Nat} (h : low ≤ high) (x : Nat) :
    clampTo low high x = if x < low then low else if high < x then high else x := by
  unfold clampTo
  split
  · omega
  · split <;> omega

/-- Table 32: an identifier with the setting that it names and the range of its values. -/
theorem settingOf_ranged {id low high : Nat} {name : SettingName}
    (h : (id, name, low, high) ∈ ([(1, .relatchTime, 2, 30), (2, .ajarTime, 10, 600),
      (3, .strikeConfirmTime, 1, 10), (4, .relatchConfirmTime, 1, 10), (5, .busBudget, 1, 8),
      (6, .busWindow, 200, 2000), (7, .refusalLimit, 2, 15), (8, .refusalWindow, 10, 600),
      (9, .blockTime, 5, 300), (10, .auditInterval, 0, 60), (11, .pollMissLimit, 1, 7),
      (12, .tabIdleLimit, 10, 720), (13, .tabDefaultHold, 0, 100000), (14, .voidWindow, 0, 600),
      (15, .escortWindow, 0, 600), (16, .debounce, 5, 50), (20, .tailgateTolerance, 0, 15),
      (21, .highWater, 1, 1024)] : List (Nat × SettingName × Nat × Nat))) (lane x : Nat) (v : Settings) :
    settingOf id lane = .ok name ∧ (v.write name x).read name = clampTo low high x ∧ low ≤ high := by
  simp only [List.mem_cons, Prod.mk.injEq, List.not_mem_nil, or_false] at h
  rcases h with ⟨rfl, rfl, rfl, rfl⟩ | ⟨rfl, rfl, rfl, rfl⟩ | ⟨rfl, rfl, rfl, rfl⟩ | ⟨rfl, rfl, rfl, rfl⟩ |
    ⟨rfl, rfl, rfl, rfl⟩ | ⟨rfl, rfl, rfl, rfl⟩ | ⟨rfl, rfl, rfl, rfl⟩ | ⟨rfl, rfl, rfl, rfl⟩ |
    ⟨rfl, rfl, rfl, rfl⟩ | ⟨rfl, rfl, rfl, rfl⟩ | ⟨rfl, rfl, rfl, rfl⟩ | ⟨rfl, rfl, rfl, rfl⟩ |
    ⟨rfl, rfl, rfl, rfl⟩ | ⟨rfl, rfl, rfl, rfl⟩ | ⟨rfl, rfl, rfl, rfl⟩ | ⟨rfl, rfl, rfl, rfl⟩ |
    ⟨rfl, rfl, rfl, rfl⟩ | ⟨rfl, rfl, rfl, rfl⟩ <;> exact ⟨rfl, rfl, by norm_num⟩

theorem onLane_ok {lane : Nat} (h : lane ≤ 3) (f : Nat → SettingName) : onLane lane f = .ok (f lane) := if_pos h

theorem code_laneRoleOf (x : Nat) : (laneRoleOf x).code = if x = 0 then 0 else if x = 1 then 1 else 2 := by
  match x with
  | 0 => rfl
  | 1 => rfl
  | _ + 2 => rfl

/-- Writing a setting leaves every other one. -/
theorem read_write_other (v : Settings) {name other : SettingName} (x : Nat) (h : other ≠ name)
    (lane : ∀ n, other = .laneRole n ∨ other = .flowWindow n ∨ other = .flowLimit n → n ≤ 3) :
    (v.write name x).read other = v.read other := by
  cases name with
  | laneRole m =>
    cases other with
    | laneRole n =>
      exact congrArg LaneRole.code (Four.get_set_other v.laneRole (Nat.lt_succ_of_le (lane n (.inl rfl))) (fun e => h (congrArg _ e)) _)
    | _ => rfl
  | flowWindow m =>
    cases other with
    | flowWindow n => exact Four.get_set_other v.flowWindow (Nat.lt_succ_of_le (lane n (.inr (.inl rfl)))) (fun e => h (congrArg _ e)) _
    | _ => rfl
  | flowLimit m =>
    cases other with
    | flowLimit n => exact Four.get_set_other v.flowLimit (Nat.lt_succ_of_le (lane n (.inr (.inr rfl)))) (fun e => h (congrArg _ e)) _
    | _ => rfl
  | _ => cases other <;> first | rfl | exact absurd rfl h

theorem blockSettingPut_writes {id lane x : Nat} {name : SettingName} (h : settingOf id lane = .ok name) :
    blockSettingPut ⟨id, lane, x⟩ s = ((s.setSettings (s.store.settings.write name x)).afterSetting name
      (s.store.settings.read name), .setting ((s.store.settings.write name x).read name)) := by
  simp only [blockSettingPut, h]

theorem blockSettingPut_refused {id lane x : Nat} {st : Status} (h : settingOf id lane = .error st) :
    blockSettingPut ⟨id, lane, x⟩ s = (s, .refused st) := by
  simp only [blockSettingPut, h]

theorem blockSettingRead_refused {id lane : Nat} {st : Status} (h : settingOf id lane = .error st) :
    blockSettingRead ⟨id, lane⟩ s = (s, .refused st) := by
  simp only [blockSettingRead, h]

theorem settingOf_notFound {k : Nat} (h : k = 0 ∨ 21 < k) (lane : Nat) : settingOf k lane = .error .notFound := by
  rcases h with rfl | far
  · rfl
  · obtain ⟨n, rfl⟩ := Nat.exists_eq_add_of_le' far
    rfl

theorem settingOf_range {k m : Nat} (h17 : 17 ≤ k) (h19 : k ≤ 19) (h : 3 < m) : settingOf k m = .error .range := by
  have off (f : Nat → SettingName) : onLane m f = .error .range := if_neg (Nat.not_le.mpr h)
  obtain rfl | rfl | rfl : k = 17 ∨ k = 18 ∨ k = 19 := by omega
  · exact off _
  · exact off _
  · exact off _

theorem afterSetting_none {name : SettingName} (audit : name ≠ .auditInterval) (budget : name ≠ .busBudget)
    (window : name ≠ .busWindow) (old : Nat) : s.afterSetting name old = s := by
  unfold State.afterSetting
  split
  · exact absurd rfl audit
  · exact absurd rfl budget
  · exact absurd rfl window
  · rfl

/-- An audit interval put from 0 in a loaded part schedules the next step, and no other put of it does. -/
theorem afterSetting_audit (old : Nat) : s.afterSetting .auditInterval old = { s with doorUnit := { s.doorUnit with
    auditNext := if s.loaded = true ∧ old = 0 ∧ 0 < s.store.settings.auditInterval then
        some (s.clock.runSeconds + s.store.settings.auditInterval)
      else s.doorUnit.auditNext } } := by
  simp only [State.afterSetting, Bool.and_eq_true, decide_eq_true_eq, and_assoc, ← Nat.pos_iff_ne_zero]
  split
  next schedules =>
    rw [State.auditSchedule, if_neg (Nat.pos_iff_ne_zero.mp schedules.2.2)]
  next => rfl

/-- Settles O22. -/
theorem settingPutsClampAndAnswer : Obligations.SettingPutsClampAndAnswer := by
  unfold Obligations.SettingPutsClampAndAnswer
  intro s tag id lane x y low high name v ready written named
  have known : settingOf id lane = .ok name ∧ v.read name = y := by
    subst written
    rcases named with ⟨row, rfl⟩ | ⟨lane3, ⟨rfl, rfl, rfl⟩ | ⟨rfl, rfl, rfl⟩ | ⟨rfl, rfl, rfl⟩⟩
    · obtain ⟨setting, value, ordered⟩ := settingOf_ranged row lane x s.store.settings
      exact ⟨setting, value.trans (clampTo_eq ordered x)⟩
    · have lane4 := Nat.lt_succ_of_le lane3
      exact ⟨onLane_ok lane3 _,
        (congrArg LaneRole.code (Four.get_set_self s.store.settings.laneRole lane4 _)).trans (code_laneRoleOf x)⟩
    · have lane4 := Nat.lt_succ_of_le lane3
      exact ⟨onLane_ok lane3 _, Four.get_set_self s.store.settings.flowWindow lane4 _⟩
    · have lane4 := Nat.lt_succ_of_le lane3
      exact ⟨onLane_ok lane3 _,
        (Four.get_set_self s.store.settings.flowLimit lane4 _).trans (clampTo_eq (by norm_num) x)⟩
  obtain ⟨setting, value⟩ := known
  have puts {t : State} (h : (s.setSettings v).afterSetting name (s.store.settings.read name) = t) :
      exec (.settingPut tag (.fit ⟨id, lane, x⟩)) s = .next (t.replied 0x9F#8 tag (.setting y)) := by
    refine serve_block ready blockSettingPut_blind rfl ?_ _
    rw [blockSettingPut_writes setting, ← written, h, value]
  refine ⟨value, fun other different lanes => ?_, fun audit budget window => puts (afterSetting_none audit budget window _),
    fun audit => puts ?_, fun bus => puts ?_, fun k unknown => ⟨?_, ?_⟩, fun k m h17 h19 far => ⟨?_, ?_⟩⟩
  · rw [written]
    exact read_write_other _ x different lanes
  · subst audit
    have interval : v.auditInterval = y := value
    have positive : 0 < y ↔ 0 < x := by
      rw [← interval, written]
      show 0 < clampTo 0 60 x ↔ 0 < x
      unfold clampTo
      omega
    rw [afterSetting_audit]
    simp only [State.setSettings, interval, positive]
    rfl
  · rcases bus with rfl | rfl <;> rfl
  · exact serve_block ready blockSettingPut_blind rfl (blockSettingPut_refused (settingOf_notFound unknown lane)) _
  · exact serve_block ready blockSettingRead_blind rfl (blockSettingRead_refused (settingOf_notFound unknown lane)) _
  · exact serve_block ready blockSettingPut_blind rfl (blockSettingPut_refused (settingOf_range h17 h19 far)) _
  · exact serve_block ready blockSettingRead_blind rfl (blockSettingRead_refused (settingOf_range h17 h19 far)) _

end Sys2Proof.Machine
end

section
/-! The preconditions of a sale (R69 to R74) and CHARGE (R75 to R84, R100, R101). -/

namespace Sys2Proof.Machine

variable {s v : State}

/-! ## Notices among other writes -/

theorem raise_setCard (s : State) (b : NoticeBody) (k : Nat) (c : Card) :
    (s.raise b).setCard k c = (s.setCard k c).raise b := by
  rw [State.raise_eq, State.raise_eq]
  rfl

theorem raise_setAccount (s : State) (b : NoticeBody) (k : Nat) (a : Account) :
    (s.raise b).setAccount k a = (s.setAccount k a).raise b := by
  rw [State.raise_eq, State.raise_eq]
  rfl

/-! ## The card at the terminal (R71) -/

theorem present_current {uid slot : Nat} {c : Card} (h : s.cardByUid uid = some (slot, c)) :
    s.present uid c.issue = .current slot c := (s.present_eq_current_iff uid c.issue slot c).mpr ⟨h, rfl⟩

theorem present_missing {uid : Nat} (h : s.cardByUid uid = none) (issue : Nat) : s.present uid issue = .unknown := by
  simp only [State.present, h]

section
variable {uid issue slot : Nat} {c : Card} (h : s.cardByUid uid = some (slot, c))
include h

theorem present_later (later : c.issue < issue) : s.present uid issue = .unknown := by
  simp only [State.present, h, if_pos later]

theorem present_superseded (earlier : issue < c.issue) : s.present uid issue = .superseded := by
  simp only [State.present, h, if_neg (Nat.not_lt.mpr earlier.le), if_pos earlier]

end

theorem saleCard_refuses {uid issue : Nat} {answer : Answer} (h : s.refusesCard v uid issue answer) :
    s.saleCard uid issue = (v, .inl answer) := by
  rcases h with ⟨rfl, missing, rfl⟩ | ⟨slot, c, found, ⟨rfl, later, rfl⟩ | ⟨rfl, earlier, rfl⟩⟩
  · simp only [State.saleCard, present_missing missing]
  · simp only [State.saleCard, present_later found later]
  · simp only [State.saleCard, present_superseded found earlier]

theorem saleCard_current {uid slot n : Nat} {c : Card} {a : Account} (found : s.cardByUid uid = some (slot, c))
    (account : s.accountByNumber c.config.account = some (n, a)) :
    s.saleCard uid c.issue = (s, .inr ((slot, c), (n, a))) := by
  simp only [State.saleCard, present_current found, account]

/-! ## Preconditions 4 to 8 (R72 to R74) -/

theorem alcoholLine_none {ls : List Line} (h : ∀ l ∈ ls, (s.category l.category).alcohol = false) :
    s.alcoholLine ls = none := by
  have none : ls.findIdx? (fun l => (s.category l.category).alcohol) = none := by
    rw [List.findIdx?_eq_none_iff]
    exact h
  rw [State.alcoholLine, none]
  rfl

theorem alcoholLine_first {before after : List Line} {l : Line}
    (dry : ∀ m ∈ before, (s.category m.category).alcohol = false) (h : (s.category l.category).alcohol = true) :
    s.alcoholLine (before ++ l :: after) = some (before.length + 1) := by
  have none : before.findIdx? (fun l => (s.category l.category).alcohol) = none := by
    rw [List.findIdx?_eq_none_iff]
    exact dry
  rw [State.alcoholLine, List.findIdx?_append, none, List.findIdx?_cons, h]
  simp

section
variable {c : Card} {a : Account} {terminal : Nat} {ls : List Line}

/-- A card aboard goes on to its days, its privilege, its account and the lines. -/
theorem salePreconditions_aboard (h : c.presence = .aboard ∨ c.presence = .unverified) :
    s.salePreconditions c a terminal ls =
      if s.clock.shipDay < c.config.firstDay ∨ c.config.lastDay < s.clock.shipDay then
        (s, some (.outcome .expired))
      else if !c.config.privilege then (s, some (.outcome .noCharge))
      else if a.status = .frozen then (s, some (.outcome .frozen))
      else if c.config.cls = .child then (s, (s.alcoholLine ls).map .alcoholLine)
      else (s, none) := by
  rcases h with h | h <;> simp only [State.salePreconditions, h]

theorem salePreconditions_refuses {answer : Answer} (h : s.refusesSale v c a terminal ls answer) :
    s.salePreconditions c a terminal ls = (v, some answer) := by
  rcases h with ⟨rfl, presence, rfl⟩ | ⟨rfl, presence, rfl⟩ | ⟨rfl, presence, rfl⟩ | ⟨rfl, aboard, h⟩
  · simp only [State.salePreconditions, presence]
  · simp only [State.salePreconditions, presence]
  · simp only [State.salePreconditions, presence]
  · rw [salePreconditions_aboard aboard]
    rcases h with ⟨days, rfl⟩ | ⟨first, last, h⟩
    · rw [if_pos days]
    · rw [if_neg (by omega)]
      rcases h with ⟨privilege, rfl⟩ | ⟨privilege, ⟨frozen, rfl⟩ | ⟨opened, child, before, l, after, rfl, dry, wet, rfl⟩⟩
      · rw [privilege]
        rfl
      · rw [privilege, if_neg (by decide), if_pos frozen]
      · rw [privilege, if_neg (by decide), if_neg (by rw [opened]; decide), if_pos child,
          alcoholLine_first dry wet]
        rfl

theorem salePreconditions_passes (h : s.mayBuy c a ls = true) : s.salePreconditions c a terminal ls = (s, none) := by
  simp only [State.mayBuy, Bool.and_eq_true, decide_eq_true_eq] at h
  obtain ⟨⟨⟨⟨⟨⟨service, aboard⟩, first⟩, last⟩, privilege⟩, opened⟩, lines⟩ := h
  have presence : c.presence = .aboard ∨ c.presence = .unverified := by
    cases e : c.presence <;> rw [e] at aboard <;> first | exact .inl rfl | exact .inr rfl | cases aboard
  rw [salePreconditions_aboard presence, if_neg (by omega), privilege, if_neg (by decide),
    if_neg (by rw [opened]; decide)]
  split
  next child =>
    have dry : ∀ l ∈ ls, (s.category l.category).alcohol = false := by
      simpa [child] using lines
    rw [alcoholLine_none dry]
    rfl
  next => rfl

theorem service_of_mayBuy (h : s.mayBuy c a ls = true) : s.store.opState = .service := by
  simp only [State.mayBuy, Bool.and_eq_true, decide_eq_true_eq] at h
  exact h.1.1.1.1.1.1

end

theorem not_secure_of_service (h : s.store.opState = .service) : ¬ s.store.opState = .secure := by
  rw [h]
  decide

/-! ## Posting (R100, R101) -/

theorem nextNumber_eq (n : Nat) : nextNumber n = if n < 4294967295 then n + 1 else 1 := by
  unfold nextNumber maxNat32
  split <;> split <;> omega

/-- A record joins the posting queue under the next number, the high-water flag cleared at the mark. -/
def State.posted (s : State) (p : Posting) : State := { s with engine := { s.engine with
  postings := s.engine.postings ++ [{ p with number := s.engine.nextPosting }]
  nextPosting := if s.engine.nextPosting < 4294967295 then s.engine.nextPosting + 1 else 1
  highWaterArmed := s.engine.highWaterArmed &&
    decide (s.engine.postings.length + 1 < s.store.settings.highWater) } }

/-- The append raises the notice of the high-water mark when it reaches it with the flag set. -/
theorem appendPosting_eq (s : State) (p : Posting) : s.appendPosting p =
    if s.engine.highWaterArmed = true ∧ s.store.settings.highWater ≤ s.engine.postings.length + 1 then
      (s.posted p).raise (.postingsHigh (s.engine.postings.length + 1))
    else s.posted p := by
  simp only [State.appendPosting, State.posted, List.length_append, List.length_singleton, Bool.and_eq_true,
    decide_eq_true_eq, nextNumber_eq]
  split
  next high =>
    have off : (s.engine.highWaterArmed && decide (s.engine.postings.length + 1 < s.store.settings.highWater)) =
        false := by
      rw [decide_eq_false (by omega), Bool.and_false]
    rw [off]
  next low =>
    have kept : (s.engine.highWaterArmed && decide (s.engine.postings.length + 1 < s.store.settings.highWater)) =
        s.engine.highWaterArmed := by
      cases armed : s.engine.highWaterArmed with
      | false => rfl
      | true =>
        rw [Bool.true_and]
        exact decide_eq_true (Nat.lt_of_not_le fun h => low ⟨armed, h⟩)
    rw [kept]

/-! ## CHARGE -/

section
variable {q : ChargeReq}

theorem blockCharge_secured (h : s.store.opState = .secure) : blockCharge q s = (s, .outcome .secured) := if_pos h

variable (service : s.store.opState = .service)
include service

theorem blockCharge_range (h : 63 < q.terminal ∨ 15 < q.issue ∨ linesInRange q.lines = false) :
    blockCharge q s = (s, .refused .range) := by
  rw [blockCharge, if_neg (not_secure_of_service service), if_pos]
  simp only [terminalInRange, Bool.not_eq_true', Bool.and_eq_false_iff, decide_eq_false_iff_not]
  rcases h with far | far | bad
  · exact .inl (.inl (Nat.not_le.mpr far))
  · exact .inl (.inr (Nat.not_le.mpr far))
  · exact .inr bad

variable (terminal : q.terminal ≤ 63) (issue : q.issue ≤ 15) (lines : linesInRange q.lines = true)
include terminal issue lines

/-- In SERVICE and in range, a CHARGE meets the card presented. -/
theorem blockCharge_inRange : blockCharge q s = match s.saleCard q.uid q.issue with
    | (s1, .inl answer) => (s1, answer)
    | (s1, .inr ((slot, c), (accountSlot, a))) =>
      match s1.salePreconditions c a q.terminal q.lines with
      | (s2, some answer) => (s2, answer)
      | (s2, none) => s2.computeCharge q slot c accountSlot a := by
  refine (if_neg (not_secure_of_service service)).trans (if_neg ?_)
  simp only [terminalInRange, terminal, issue, lines, decide_true, Bool.and_self, Bool.not_true, Bool.false_eq_true,
    not_false_eq_true]

theorem blockCharge_refusedCard {answer : Answer} (h : s.refusesCard v q.uid q.issue answer) :
    blockCharge q s = (v, answer) := by
  rw [blockCharge_inRange service terminal issue lines, saleCard_refuses h]

variable {slot n : Nat} {c : Card} {a : Account} (found : s.cardByUid q.uid = some (slot, c))
  (current : c.issue = q.issue) (account : s.accountByNumber c.config.account = some (n, a))
include found current account

theorem blockCharge_refusedSale {answer : Answer} (h : s.refusesSale v c a q.terminal q.lines answer) :
    blockCharge q s = (v, answer) := by
  simp only [blockCharge_inRange service terminal issue lines, ← current, saleCard_current found account,
    salePreconditions_refuses h]

theorem blockCharge_computes (h : s.mayBuy c a q.lines = true) : blockCharge q s = s.computeCharge q slot c n a := by
  simp only [blockCharge_inRange service terminal issue lines, ← current, saleCard_current found account,
    salePreconditions_passes h]

end

theorem capExceeded_some {c : Card} {total cap : Nat} (child : c.config.cls = .child)
    (capped : c.config.dailyCap = some cap) (h : cap < c.daySpent + total) : c.capExceeded total = some cap := by
  simp only [Card.capExceeded, child, capped, if_neg (Nat.not_le.mpr h)]

theorem capExceeded_none {c : Card} {total : Nat} (h : c.config.cls ≠ .child ∨ c.config.dailyCap = none ∨
    ∃ cap, c.config.dailyCap = some cap ∧ c.daySpent + total ≤ cap) : c.capExceeded total = none := by
  unfold Card.capExceeded
  split
  next cap child capped =>
    rcases h with other | none | ⟨cap', capped', fits⟩
    · exact absurd child other
    · rw [none] at capped
      cases capped
    · cases capped.symm.trans capped'
      exact if_pos fits
  next => rfl

section
variable {q : ChargeReq} {slot n : Nat} {c : Card} {a : Account} {xs : List Sums} {x : Sums}
  (lines : xs = s.linesSums c (s.workingAllowance c) q.lines) (sum : x = sumAll xs)
include lines sum

theorem computeCharge_overCap {cap : Nat} (h : c.capExceeded x.total = some cap) :
    s.computeCharge q slot c n a = (s, .overCap x.total c.daySpent cap) := by
  subst sum lines
  simp only [State.computeCharge, h]

variable (cap : c.capExceeded x.total = none)
include cap

theorem computeCharge_overLimit (h : a.available < x.total) :
    s.computeCharge q slot c n a = (s, .overLimit x.total a.available) := by
  subst sum lines
  simp only [State.computeCharge, cap, if_pos h]

variable (limit : x.total ≤ a.available)
include limit

theorem computeCharge_postingsFull (h : 1024 ≤ s.engine.postings.length) :
    s.computeCharge q slot c n a = (s, .postingsFull x.total) := by
  subst sum lines
  have full : s.postRoom = false := decide_eq_false (Nat.not_lt.mpr h)
  simp only [State.computeCharge, cap, if_neg (Nat.not_lt.mpr limit), full, Bool.not_false, if_true]

theorem computeCharge_accepts (h : s.engine.postings.length < 1024) :
    s.computeCharge q slot c n a = (s.acceptCharge q slot c n a x,
      .charged s.engine.nextPosting x (xs.map fun (y : Sums) => ⟨y.units, y.total⟩)
        (s.tierAllowance c.config.tier - (c.allowanceUsed + x.units))
        ((a.limit : Int) - (a.balance + (x.total : Int)) - (a.held : Int)).toNat) := by
  subst sum lines
  have room : s.postRoom = true := decide_eq_true h
  simp only [State.computeCharge, cap, if_neg (Nat.not_lt.mpr limit), room, Bool.not_true, Bool.false_eq_true,
    if_false]
  rfl

end

/-- An accepted CHARGE, its notice of the high-water mark told after everything else. -/
theorem acceptCharge_eq (q : ChargeReq) (slot : Nat) (c : Card) (n : Nat) (a : Account) (x : Sums) {u : State}
    (h : u = (((s.posted (s.chargeRecord q c x)).setAccount n { a with balance := a.balance + (x.total : Int) }).setCard
      slot (c.spend x))) : s.acceptCharge q slot c n a x =
    if s.engine.highWaterArmed = true ∧ s.store.settings.highWater ≤ s.engine.postings.length + 1 then
      u.raise (.postingsHigh (s.engine.postings.length + 1)) else u := by
  subst h
  rw [State.acceptCharge, appendPosting_eq]
  split
  · rw [raise_setAccount, raise_setCard]
  · rfl

theorem ready_of_atWork (h : s.atWork = true) : s.ready = true := (s.atWork_iff.mp h).1

theorem loaded_of_atWork (h : s.atWork = true) : s.loaded = true := (s.atWork_iff.mp h).2.1

/-- Settles O33. -/
theorem chargesPostOrAreRefused : Obligations.ChargesPostOrAreRefused := by
  unfold Obligations.ChargesPostOrAreRefused
  intro s u tag q slot accountSlot c a xs x work terminal issue inRange found current account may lines sum
  have computes := blockCharge_computes (service_of_mayBuy may) terminal issue inRange found current account may
  have charges {t : State} {answer : Answer} (h : s.computeCharge q slot c accountSlot a = (t, answer)) :
      exec (.charge tag (.fit q)) s = .next (t.replied 0xC0#8 tag answer) :=
    serve_block (ready_of_atWork work) blockCharge_blind (whenLoaded_takes (loaded_of_atWork work))
      (computes.trans h) _
  refine ⟨fun cap child capped over_ => charges (computeCharge_overCap lines sum (capExceeded_some child capped over_)),
    fun uncapped => ⟨fun poor => charges (computeCharge_overLimit lines sum (capExceeded_none uncapped) poor),
      fun limit full => charges (computeCharge_postingsFull lines sum (capExceeded_none uncapped) limit full),
      fun limit room posted => ?_⟩⟩
  have accepts := computeCharge_accepts (n := accountSlot) (slot := slot) lines sum (capExceeded_none uncapped) limit room
  rw [acceptCharge_eq q slot c accountSlot a x posted] at accepts
  exact charges accepts

/-- Settles O34. -/
theorem chargesAreRefusedInOrder : Obligations.ChargesAreRefusedInOrder := by
  unfold Obligations.ChargesAreRefusedInOrder
  intro s v tag q answer ready loaded h
  have charges (h : blockCharge q s = (v, answer)) :
      exec (.charge tag (.fit q)) s = .next (v.replied 0xC0#8 tag answer) :=
    serve_block ready blockCharge_blind (whenLoaded_takes loaded) h _
  rcases h with ⟨rfl, secure, rfl⟩ | ⟨service, ⟨rfl, bad, rfl⟩ | ⟨terminal, issue, lines, h⟩⟩
  · exact charges (blockCharge_secured secure)
  · exact charges (blockCharge_range service bad)
  · rcases h with missing | ⟨slot, c, found, later | superseded | ⟨current, n, a, account, sale⟩⟩
    · exact charges (blockCharge_refusedCard service terminal issue lines (.inl missing))
    · exact charges (blockCharge_refusedCard service terminal issue lines (.inr ⟨slot, c, found, .inl later⟩))
    · exact charges (blockCharge_refusedCard service terminal issue lines (.inr ⟨slot, c, found, .inr superseded⟩))
    · exact charges (blockCharge_refusedSale service terminal issue lines found current account sale)

end Sys2Proof.Machine
end

section
/-! The tab pool: TAB.OPEN, TAB.ADD, TAB.CLOSE and the idle deadline (R89 to R98). -/

namespace Sys2Proof.Machine

variable {s v : State}

/-! ## Advancing to a second moves the clock alone -/

section
variable (s : State) (r : Nat)

@[simp] theorem State.advanceToSecond_store : (s.advanceToSecond r).store = s.store := by
  unfold State.advanceToSecond
  split <;> rfl

@[simp] theorem State.advanceToSecond_engine : (s.advanceToSecond r).engine = s.engine := by
  unfold State.advanceToSecond
  split <;> rfl

@[simp] theorem State.advanceToSecond_scheduler : (s.advanceToSecond r).scheduler = s.scheduler := by
  unfold State.advanceToSecond
  split <;> rfl

@[simp] theorem State.advanceToSecond_doorUnit : (s.advanceToSecond r).doorUnit = s.doorUnit := by
  unfold State.advanceToSecond
  split <;> rfl

end

theorem loaded_of_service (h : s.store.opState = .service) : s.loaded = true := by
  simp [State.loaded, h]

theorem loaded_of_secure (h : s.store.opState = .secure) : s.loaded = true := by
  simp [State.loaded, h]

/-! ## The free slot (R91) -/

theorem freeTab_none (h : ∀ n, n < 128 → (s.tabSlot n).state ≠ .free) : s.freeTab = none := by
  unfold State.freeTab
  rw [List.find?_range_eq_none]
  intro n hn
  rw [decide_eq_false (h n hn)]
  rfl

theorem freeTab_lowest {slot : Nat} (room : slot < 128) (free : (s.tabSlot slot).state = .free)
    (taken : ∀ n, n < slot → (s.tabSlot n).state ≠ .free) : s.freeTab = some slot := by
  unfold State.freeTab
  rw [List.find?_range_eq_some]
  refine ⟨decide_eq_true free, List.mem_range.mpr room, fun n hn => ?_⟩
  rw [decide_eq_false (taken n hn)]
  rfl

/-! ## TAB.OPEN (R70, R91) -/

section
variable {q : TabOpenReq}

theorem blockTabOpen_secured (h : s.store.opState = .secure) : blockTabOpen q s = (s, .outcome .secured) := if_pos h

theorem tabOpen_inRange (terminal : q.terminal ≤ 63) (issue : q.issue ≤ 15) (low : 0 ≤ q.hold)
    (high : q.hold ≤ 10000000) : ¬ (!(terminalInRange q.terminal && decide (q.issue ≤ 15) && decide (0 ≤ q.hold) &&
      decide (q.hold ≤ 10000000))) = true := by
  simp [terminalInRange, terminal, issue, low, high]

theorem blockTabOpen_range (service : s.store.opState = .service)
    (h : 63 < q.terminal ∨ 15 < q.issue ∨ q.hold < 0 ∨ 10000000 < q.hold) :
    blockTabOpen q s = (s, .refused .range) := by
  refine (if_neg (not_secure_of_service service)).trans (if_pos ?_)
  simp only [terminalInRange, Bool.not_eq_true', Bool.and_eq_false_iff, decide_eq_false_iff_not]
  omega

variable (service : s.store.opState = .service) (terminal : q.terminal ≤ 63) (issue : q.issue ≤ 15)
  (low : 0 ≤ q.hold) (high : q.hold ≤ 10000000)
include service terminal issue low high

theorem blockTabOpen_refusedCard {answer : Answer} (h : s.refusesCard v q.uid q.issue answer) :
    blockTabOpen q s = (v, answer) := by
  unfold blockTabOpen
  rw [if_neg (not_secure_of_service service), if_neg (tabOpen_inRange terminal issue low high), saleCard_refuses h]

variable {slot n : Nat} {c : Card} {a : Account} (found : s.cardByUid q.uid = some (slot, c))
  (current : c.issue = q.issue) (account : s.accountByNumber c.config.account = some (n, a))
include found current account

theorem blockTabOpen_refusedSale {answer : Answer} (h : s.refusesSale v c a q.terminal [] answer) :
    blockTabOpen q s = (v, answer) := by
  unfold blockTabOpen
  rw [if_neg (not_secure_of_service service), if_neg (tabOpen_inRange terminal issue low high), ← current,
    saleCard_current found account]
  simp only [salePreconditions_refuses h]

theorem blockTabOpen_tests (h : s.mayBuy c a [] = true) :
    blockTabOpen q s = s.poolTests q.terminal slot n a (s.holdInForce q.hold.toNat) := by
  unfold blockTabOpen
  rw [if_neg (not_secure_of_service service), if_neg (tabOpen_inRange terminal issue low high), ← current,
    saleCard_current found account]
  simp only [salePreconditions_passes h]

end

/-- The default hold is in force when 0 is carried (R91). -/
theorem holdInForce_eq {hold : Int} (low : 0 ≤ hold) : s.holdInForce hold.toNat =
    if hold = 0 then s.store.settings.tabDefaultHold else hold.toNat := by
  unfold State.holdInForce
  exact if_congr (by omega) rfl rfl

section
variable {terminal cardSlot accountSlot hold slot : Nat} {a : Account}

theorem poolTests_full (h : s.freeTab = none) :
    s.poolTests terminal cardSlot accountSlot a hold = (s, .outcome .tabPool) := by
  simp only [State.poolTests, h]

variable (free : s.freeTab = some slot)
include free

theorem poolTests_limit (h : 2 ≤ a.openTabs ∨ 8 ≤ s.terminalTabs terminal) :
    s.poolTests terminal cardSlot accountSlot a hold = (s, .outcome .tabLimit) := by
  simp only [State.poolTests, free, if_pos h]

variable (few : a.openTabs < 2) (fewer : s.terminalTabs terminal < 8)
include few fewer

theorem poolTests_poor (h : a.available < hold) :
    s.poolTests terminal cardSlot accountSlot a hold = (s, .tabOpenLimit hold a.available) := by
  simp only [State.poolTests, free, if_neg (show ¬ (2 ≤ a.openTabs ∨ 8 ≤ s.terminalTabs terminal) by omega), if_pos h]

theorem poolTests_opens (h : hold ≤ a.available) : s.poolTests terminal cardSlot accountSlot a hold =
    (s.openTab slot terminal cardSlot accountSlot a hold,
      .tabOpened slot (((s.tabSlot slot).generation + 1) % 256) hold (a.openTab hold).available) := by
  have generation : ((s.openTab slot terminal cardSlot accountSlot a hold).tabSlot slot).generation =
      ((s.tabSlot slot).generation + 1) % 256 :=
    congrArg TabSlot.generation (State.tabSlot_setTabSlot_self s slot _)
  simp only [State.poolTests, free, if_neg (show ¬ (2 ≤ a.openTabs ∨ 8 ≤ s.terminalTabs terminal) by omega),
    if_neg (Nat.not_lt.mpr h), generation]

end

/-- Settles O35. -/
theorem tabsOpenInTheLowestFreeSlot : Obligations.TabsOpenInTheLowestFreeSlot := by
  unfold Obligations.TabsOpenInTheLowestFreeSlot
  intro s tag q
  have opens {t : State} {answer : Answer} (ready : s.ready = true) (loaded : s.loaded = true)
      (h : blockTabOpen q s = (t, answer)) :
      exec (.tabOpen tag (.fit q)) s = .next (t.replied 0xC2#8 tag answer) :=
    serve_block ready blockTabOpen_blind (whenLoaded_takes loaded) h _
  refine ⟨fun v answer ready loaded h => ?_, ?_⟩
  · rcases h with ⟨rfl, secure, rfl⟩ | ⟨service, ⟨rfl, bad, rfl⟩ | ⟨terminal, issue, low, high, h⟩⟩
    · exact opens ready loaded (blockTabOpen_secured secure)
    · exact opens ready loaded (blockTabOpen_range service bad)
    · rcases h with card | ⟨slot, c, n, a, found, current, account, sale⟩
      · exact opens ready loaded (blockTabOpen_refusedCard service terminal issue low high card)
      · exact opens ready loaded
          (blockTabOpen_refusedSale service terminal issue low high found current account sale)
  · intro cardSlot accountSlot hold c a work terminal issue low high inForce found current account may
    have tests := blockTabOpen_tests (service_of_mayBuy may) terminal issue low high found current account may
    rw [holdInForce_eq low, ← inForce] at tests
    have opens {t : State} {answer : Answer}
        (h : s.poolTests q.terminal cardSlot accountSlot a hold = (t, answer)) :=
      opens (ready_of_atWork work) (loaded_of_atWork work) (tests.trans h)
    refine ⟨fun full => opens (poolTests_full (freeTab_none full)), fun slot room free taken => ?_⟩
    have lowest := freeTab_lowest room free taken
    exact ⟨fun many => opens (poolTests_limit lowest many),
      fun few fewer poor => opens (poolTests_poor lowest few fewer poor),
      fun few fewer rich => opens (poolTests_opens lowest few fewer rich)⟩

/-! ## Naming a tab (R90, R92, R95) -/

section
variable {slot generation terminal : Nat}

theorem ownTab_missing (h : (s.tabSlot slot).generation ≠ generation ∨ (s.tabSlot slot).state = .free) :
    s.ownTab slot generation terminal = .inl (.refused .notFound) := by
  unfold State.ownTab
  split
  · rfl
  next named =>
    simp only [h.resolve_left named]

theorem ownTab_own {t : Tab} {d : Nat} (h : s.tabSlot slot = ⟨generation, .opened t d⟩) (own : t.terminal = terminal) :
    s.ownTab slot generation terminal = .inr t := by
  simp only [State.ownTab, h, ne_eq, not_true_eq_false, if_false, if_pos own]

/-- The tab of another terminal and a CLOSING tab are refused. -/
theorem ownTab_refuses {answer : Answer} (named : (s.tabSlot slot).generation = generation)
    (h : (∃ t d, (s.tabSlot slot).state = .opened t d ∧ t.terminal ≠ terminal ∧ answer = .outcome .notOwner) ∨
      (∃ t r, (s.tabSlot slot).state = .closing t r ∧ t.terminal ≠ terminal ∧ answer = .outcome .notOwner) ∨
      ∃ t r, (s.tabSlot slot).state = .closing t r ∧ t.terminal = terminal ∧ answer = .outcome .closed) :
    s.ownTab slot generation terminal = .inl answer := by
  unfold State.ownTab
  rw [if_neg (not_not_intro named)]
  rcases h with ⟨t, d, state, other, rfl⟩ | ⟨t, r, state, other, rfl⟩ | ⟨t, r, state, own, rfl⟩
  · simp only [state, if_neg other]
  · simp only [state, if_neg other]
  · simp only [state, if_pos own]

end

/-! ## TAB.ADD (R92, R93) -/

section
variable {q : TabAddReq}

theorem blockTabAdd_secured (h : s.store.opState = .secure) : blockTabAdd q s = (s, .outcome .secured) := if_pos h

theorem tabAdd_inRange (terminal : q.terminal ≤ 63) (lines : linesInRange q.lines = true) (slot : q.slot < 128) :
    ¬ (!(terminalInRange q.terminal && linesInRange q.lines && decide (q.slot < tabSlots))) = true := by
  simp [terminalInRange, terminal, lines, slot, tabSlots]

theorem blockTabAdd_range (service : s.store.opState = .service)
    (h : 63 < q.terminal ∨ 127 < q.slot ∨ linesInRange q.lines = false) :
    blockTabAdd q s = (s, .refused .range) := by
  refine (if_neg (not_secure_of_service service)).trans (if_pos ?_)
  simp only [terminalInRange, Bool.not_eq_true', Bool.and_eq_false_iff, decide_eq_false_iff_not, tabSlots]
  rcases h with far | far | bad
  · exact .inl (.inl (Nat.not_le.mpr far))
  · exact .inr (decide_eq_false (Nat.not_lt.mpr far))
  · exact .inl (.inr bad)

variable (service : s.store.opState = .service) (terminal : q.terminal ≤ 63) (slot : q.slot < 128)
  (lines : linesInRange q.lines = true)
include service terminal slot lines

theorem blockTabAdd_notOwn {answer : Answer} (h : s.ownTab q.slot q.generation q.terminal = .inl answer) :
    blockTabAdd q s = (s, answer) := by
  unfold blockTabAdd
  rw [if_neg (not_secure_of_service service), if_neg (tabAdd_inRange terminal lines slot), h]

variable {t : Tab} {c : Card} {a : Account} (own : s.ownTab q.slot q.generation q.terminal = .inr t)
  (card : Table.find s.store.cards t.cardSlot = some c) (account : Table.find s.store.accounts t.accountSlot = some a)
include own card account

theorem blockTabAdd_refusedSale {answer : Answer} (h : s.refusesSale v c a q.terminal q.lines answer) :
    blockTabAdd q s = (v, answer) := by
  unfold blockTabAdd
  rw [if_neg (not_secure_of_service service), if_neg (tabAdd_inRange terminal lines slot), own]
  simp only [card, account, salePreconditions_refuses h]

theorem blockTabAdd_computes (h : s.mayBuy c a q.lines = true) : blockTabAdd q s = s.computeAdd q t c a := by
  unfold blockTabAdd
  rw [if_neg (not_secure_of_service service), if_neg (tabAdd_inRange terminal lines slot), own]
  simp only [card, account, salePreconditions_passes h]

end

/-- The hold after an addition is the one that R93 describes. -/
theorem newHold_of_bounds {old sum hold : Nat} (h : sum ≤ old ∧ hold = old ∨
    old < sum ∧ sum ≤ hold ∧ hold < sum + 1000 ∧ hold % 1000 = 0) : newHold old sum = hold := by
  unfold newHold
  split <;> omega

section
variable {q : TabAddReq} {t : Tab} {c : Card} {a : Account} {xs : List Sums} {x : Sums} {hold : Nat}
  (lines : xs = s.linesSums c (s.workingAllowance c) q.lines) (sum : x = sumAll xs)
include lines sum

theorem computeAdd_overCap {cap : Nat} (h : c.capExceeded x.total = some cap) :
    s.computeAdd q t c a = (s, .overCap x.total c.daySpent cap) := by
  subst sum lines
  simp only [State.computeAdd, h]

variable (cap : c.capExceeded x.total = none) (grown : newHold t.hold (t.sums.total + x.total) = hold)
include cap grown

theorem computeAdd_overLimit (h : a.available < hold - t.hold) :
    s.computeAdd q t c a = (s, .tabAddLimit x.total (hold - t.hold) a.available) := by
  subst grown sum lines
  simp only [State.computeAdd, cap, if_pos h]

theorem computeAdd_accepts (h : hold - t.hold ≤ a.available) : s.computeAdd q t c a =
    (s.acceptAdd q t c a x hold, .tabAdded x (xs.map fun (y : Sums) => ⟨y.units, y.total⟩)
      (s.tierAllowance c.config.tier - (c.allowanceUsed + x.units)) (t.sums.add x) hold
      ((a.limit : Int) - a.balance - ((a.held + (hold - t.hold) : Nat) : Int)).toNat) := by
  subst grown sum lines
  simp only [State.computeAdd, cap, if_neg (Nat.not_lt.mpr h)]
  rfl

end

/-- Settles O36. -/
theorem tabAdditionsGrowTheHold : Obligations.TabAdditionsGrowTheHold := by
  unfold Obligations.TabAdditionsGrowTheHold
  intro s tag q t deadline hold c a xs x work terminal slot inRange named own card account may lines sum bounds
  have computes := blockTabAdd_computes (service_of_mayBuy may) terminal slot inRange (ownTab_own named own)
    card account may
  have adds {u : State} {answer : Answer} (h : s.computeAdd q t c a = (u, answer)) :
      exec (.tabAdd tag (.fit q)) s = .next (u.replied 0xC3#8 tag answer) :=
    serve_block (ready_of_atWork work) blockTabAdd_blind (whenLoaded_takes (loaded_of_atWork work))
      (computes.trans h) _
  have grown := newHold_of_bounds bounds
  refine ⟨fun cap child capped exceeded => adds (computeAdd_overCap lines sum (capExceeded_some child capped exceeded)),
    fun uncapped => ⟨fun poor => adds (computeAdd_overLimit lines sum (capExceeded_none uncapped) grown poor),
      fun rich => ?_⟩⟩
  have accepts := computeAdd_accepts (a := a) lines sum (capExceeded_none uncapped) grown rich
  rw [State.acceptAdd, named] at accepts
  exact adds accepts

/-! ## TAB.CLOSE (R95) -/

section
variable {q : TabCloseReq}

theorem blockTabClose_range (h : 63 < q.terminal ∨ 127 < q.slot) : blockTabClose q s = (s, .refused .range) := by
  refine if_pos ?_
  simp only [terminalInRange, Bool.not_eq_true', Bool.and_eq_false_iff, decide_eq_false_iff_not, tabSlots]
  rcases h with far | far
  · exact .inl (Nat.not_le.mpr far)
  · exact .inr (decide_eq_false (Nat.not_lt.mpr far))

theorem tabClose_inRange (terminal : q.terminal ≤ 63) (slot : q.slot < 128) :
    ¬ (!(terminalInRange q.terminal && decide (q.slot < tabSlots))) = true := by
  simp [terminalInRange, terminal, slot, tabSlots]

variable (terminal : q.terminal ≤ 63) (slot : q.slot < 128)
include terminal slot

theorem blockTabClose_notOwn {answer : Answer} (h : s.ownTab q.slot q.generation q.terminal = .inl answer) :
    blockTabClose q s = (s, answer) := by
  unfold blockTabClose
  rw [if_neg (tabClose_inRange terminal slot), h]

variable {t : Tab} (own : s.ownTab q.slot q.generation q.terminal = .inr t)
include own

theorem blockTabClose_settles (h : s.canSettle t = true) : blockTabClose q s = (s.settle q.slot t .closed,
    .tabClosed (if t.sums.total = 0 then none else some s.engine.nextPosting) t.sums) := by
  unfold blockTabClose
  rw [if_neg (tabClose_inRange terminal slot), own]
  exact if_pos h

theorem blockTabClose_full (h : s.canSettle t = false) : blockTabClose q s = (s, .outcome .postFull) := by
  unfold blockTabClose
  rw [if_neg (tabClose_inRange terminal slot), own]
  exact if_neg (by rw [h]; decide)

end

/-- Settles O37. -/
theorem tabsAreNamedByGenerationAndTerminal : Obligations.TabsAreNamedByGenerationAndTerminal := by
  unfold Obligations.TabsAreNamedByGenerationAndTerminal
  intro s tag slot generation terminal ls ready
  have adds {v : State} {answer : Answer} (loaded : s.loaded = true)
      (h : blockTabAdd ⟨slot, generation, terminal, ls⟩ s = (v, answer)) :
      exec (.tabAdd tag (.fit ⟨slot, generation, terminal, ls⟩)) s = .next (v.replied 0xC3#8 tag answer) :=
    serve_block ready blockTabAdd_blind (whenLoaded_takes loaded) h _
  have closes {v : State} {answer : Answer} (loaded : s.loaded = true)
      (h : blockTabClose ⟨slot, generation, terminal⟩ s = (v, answer)) :
      exec (.tabClose tag (.fit ⟨slot, generation, terminal⟩)) s = .next (v.replied 0xC4#8 tag answer) :=
    serve_block ready blockTabClose_blind (whenLoaded_takes loaded) h _
  refine ⟨fun answer inTerminal inSlot h => ?_, fun secure => ?_, fun service bad => ?_, fun loaded bad => ?_,
    fun v t deadline c a answer service inTerminal inSlot lines named own card account sale => ?_⟩
  · have names : s.ownTab slot generation terminal = .inl answer := by
      rcases h with ⟨missing, rfl⟩ | ⟨named, refuses⟩
      · exact ownTab_missing missing
      · exact ownTab_refuses named refuses
    exact ⟨fun service lines => adds (loaded_of_service service)
        (blockTabAdd_notOwn service inTerminal inSlot lines names),
      fun loaded => closes loaded (blockTabClose_notOwn inTerminal inSlot names)⟩
  · exact adds (loaded_of_secure secure) (blockTabAdd_secured secure)
  · exact adds (loaded_of_service service) (blockTabAdd_range service bad)
  · exact closes loaded (blockTabClose_range bad)
  · exact adds (loaded_of_service service)
      (blockTabAdd_refusedSale service inTerminal inSlot lines (ownTab_own named own) card account sale)

/-! ## Settling (R96, R98) -/

theorem canSettle_of_empty {t : Tab} (h : t.sums.total = 0) : s.canSettle t = true := by
  simp [State.canSettle, h]

theorem canSettle_of_room {t : Tab} (h : s.engine.postings.length < 1024) : s.canSettle t = true := by
  simp [State.canSettle, State.postRoom, postingQueueRoom, h]

theorem canSettle_of_full {t : Tab} (owes : t.sums.total ≠ 0) (h : 1024 ≤ s.engine.postings.length) :
    s.canSettle t = false := by
  rw [State.canSettle, decide_eq_false owes]
  exact decide_eq_false (Nat.not_lt.mpr h)

section
variable {slot generation : Nat} {t : Tab} {a : Account}

/-- The state after a tab has left its slot, its account settled. -/
def State.freed (v : State) (slot generation : Nat) (t : Tab) (a : Account) : State := { v with
  store := { v.store with accounts := Table.put v.store.accounts t.accountSlot { a with
    balance := a.balance + (t.sums.total : Int)
    held := a.held - t.hold
    openTabs := a.openTabs - 1 } }
  engine := { v.engine with
    tabs := Table.set ⟨0, .free⟩ v.engine.tabs slot ⟨generation, .free⟩
    terminalTabs := Table.set 0 v.engine.terminalTabs t.terminal (v.terminalTabs t.terminal - 1) } }

theorem releaseTab_eq (named : (s.tabSlot slot).generation = generation)
    (account : Table.find s.store.accounts t.accountSlot = some a) :
    s.releaseTab slot t = s.freed slot generation t a := by
  subst named
  simp only [State.releaseTab, account]
  rfl

variable {c : Card} (card : Table.find s.store.cards t.cardSlot = some c)
  (account : Table.find s.store.accounts t.accountSlot = some a)
include card account

theorem settleRecord_eq (r : CloseReason) : s.settleRecord t r = ⟨0, .tabSettle r, t.terminal, c.uid, c.issue,
    a.number, s.clock.shipDay, s.clock.shipTime, t.lineCount, t.sums, false, false, s.clock.runSeconds, false⟩ := by
  simp only [State.settleRecord, card, account, Option.map_some, Option.getD_some]

variable (named : (s.tabSlot slot).generation = generation)
include named

theorem settle_eq (r : CloseReason) : s.settle slot t r =
    if t.sums.total = 0 then s.freed slot generation t a
    else (s.appendPosting ⟨0, .tabSettle r, t.terminal, c.uid, c.issue, a.number, s.clock.shipDay, s.clock.shipTime,
      t.lineCount, t.sums, false, false, s.clock.runSeconds, false⟩).freed slot generation t a := by
  unfold State.settle
  split
  · exact releaseTab_eq named account
  · rw [settleRecord_eq card account]
    exact releaseTab_eq (by rw [appendPosting_tabSlot, named]) (by rw [appendPosting_store, account])

end

theorem tabExpires_opened {slot generation deadline : Nat} {t : Tab}
    (h : s.tabSlot slot = ⟨generation, .opened t deadline⟩) : tabExpires slot s = some
      (((s.advanceToSecond deadline).raise (.tabExpired slot t.sums.total)).forceSettle slot t .expired) := by
  simp only [tabExpires, h]

theorem forceSettle_waits {slot : Nat} {t : Tab} (h : s.canSettle t = false) (r : CloseReason) :
    s.forceSettle slot t r = { s with engine := { s.engine with
      tabs := Table.set ⟨0, .free⟩ s.engine.tabs slot ⟨(s.tabSlot slot).generation, .closing t r⟩
      waiting := s.engine.waiting ++ [slot] } } := if_neg (by rw [h]; decide)

/-- Settles O38. -/
theorem tabsSettleAtCloseAndExpiry : Obligations.TabsSettleAtCloseAndExpiry := by
  unfold Obligations.TabsSettleAtCloseAndExpiry
  intro s u tag slot generation deadline t c a freed record named card account frees records expired
  have settles : ∀ (v : State) (r : CloseReason), (v.tabSlot slot).generation = generation →
      Table.find v.store.cards t.cardSlot = some c → Table.find v.store.accounts t.accountSlot = some a →
      v.settle slot t r = if t.sums.total = 0 then freed v else freed (record v r) := by
    intro v r named card account
    rw [settle_eq card account named, frees, frees, records]
    rfl
  have generationOf : (s.tabSlot slot).generation = generation := congrArg TabSlot.generation named
  refine ⟨settles, fun ready loaded inSlot terminal => ?_, fun takes => ?_⟩
  · have closes {v : State} {answer : Answer} (h : blockTabClose ⟨slot, generation, t.terminal⟩ s = (v, answer)) :
        exec (.tabClose tag (.fit ⟨slot, generation, t.terminal⟩)) s = .next (v.replied 0xC4#8 tag answer) :=
      serve_block ready blockTabClose_blind (whenLoaded_takes loaded) h _
    have own := ownTab_own (s := s) named rfl
    refine ⟨fun empty => ?_, fun owes room => ?_, fun owes full =>
      closes (blockTabClose_full terminal inSlot own (canSettle_of_full owes full))⟩
    · have h := blockTabClose_settles (q := ⟨slot, generation, t.terminal⟩) terminal inSlot own (canSettle_of_empty empty)
      rw [settles s .closed generationOf card account, if_pos empty, if_pos empty] at h
      exact closes h
    · have h := blockTabClose_settles (q := ⟨slot, generation, t.terminal⟩) terminal inSlot own (canSettle_of_room room)
      rw [settles s .closed generationOf card account, if_neg owes, if_neg owes] at h
      exact closes h
  · have expires : exec (.tabIdleExpiry slot) s = .next (u.forceSettle slot t .expired) := by
      rw [expired]
      exact happens_taken takes (tabExpires_opened named)
    have store : u.store = s.store := by simp [expired]
    have engine : u.engine = s.engine := by simp [expired]
    have tab : u.tabSlot slot = s.tabSlot slot := by rw [State.tabSlot, engine, State.tabSlot]
    have settled := settles u .expired (by rw [tab, generationOf]) (by rw [store, card]) (by rw [store, account])
    have forced (can : u.canSettle t = true) : u.forceSettle slot t .expired = u.settle slot t .expired := if_pos can
    refine ⟨fun empty => ?_, fun owes room => ?_, fun owes full => ?_⟩
    · rw [expires, forced (canSettle_of_empty empty), settled, if_pos empty]
    · rw [expires, forced (canSettle_of_room (by rw [engine]; exact room)), settled, if_neg owes]
    · rw [expires, forceSettle_waits (canSettle_of_full owes (by rw [engine]; exact full)), tab, generationOf, engine]

end Sys2Proof.Machine
end

section
/-! The posting queue (R98, R100 to R104) and VOID (R105, R106). -/

namespace Sys2Proof.Machine

variable {s : State}

/-! ## POST.FETCH and POST.REWIND -/

section
variable {done wait : List Posting} (delivered : done.all (fun p => p.delivered) = true)
  (pending : wait.all Posting.isPending = true)

theorem undelivered_of_isPending {p : Posting} (h : p.isPending = true) : p.delivered = false := by
  simpa [Posting.isPending] using h

include delivered in
theorem markDelivered_skips (n : Nat) (ps : List Posting) : markDelivered n (done ++ ps) = done ++ markDelivered n ps := by
  induction done with
  | nil => rfl
  | cons p done ih =>
    rw [List.all_cons, Bool.and_eq_true] at delivered
    cases n with
    | zero => cases ps <;> rfl
    | succ n =>
      rw [List.cons_append, markDelivered, if_pos delivered.1, ih delivered.2]
      rfl

include pending in
theorem markDelivered_pending (n : Nat) : markDelivered n wait =
    (wait.take n).map (fun (p : Posting) => { p with delivered := true }) ++ wait.drop n := by
  induction wait generalizing n with
  | nil => cases n <;> rfl
  | cons p wait ih =>
    rw [List.all_cons, Bool.and_eq_true] at pending
    cases n with
    | zero => rfl
    | succ n =>
      rw [markDelivered, if_neg (by rw [undelivered_of_isPending pending.1]; decide), ih pending.2]
      rfl

include delivered pending

theorem filter_isPending_append : (done ++ wait).filter Posting.isPending = wait := by
  have none : done.filter Posting.isPending = [] := by
    rw [List.filter_eq_nil_iff]
    intro p hp
    simp [Posting.isPending, List.all_eq_true.mp delivered p hp]
  rw [List.filter_append, none, List.filter_eq_self.mpr (List.all_eq_true.mp pending), List.nil_append]

theorem filter_delivered_append : (done ++ wait).filter (fun p => p.delivered) = done := by
  have none : wait.filter (fun p => p.delivered) = [] := by
    rw [List.filter_eq_nil_iff]
    intro p hp
    rw [undelivered_of_isPending (List.all_eq_true.mp pending p hp)]
    decide
  rw [List.filter_append, none, List.filter_eq_self.mpr (List.all_eq_true.mp delivered), List.append_nil]

end

section
variable {done wait : List Posting} (queue : s.engine.postings = done ++ wait)
  (delivered : done.all (fun p => p.delivered) = true) (pending : wait.all Posting.isPending = true)
include queue delivered pending

theorem blockPostFetch_eq : blockPostFetch () s = ({ s with engine := { s.engine with
      postings := done ++ (wait.take 4).map (fun (p : Posting) => { p with delivered := true }) ++ wait.drop 4 } },
    .postings ((wait.take 4).map fun (p : Posting) => { p with delivered := Config.fetchedReadsDelivered })
      (wait.length - 4) (done.length + min 4 wait.length)) := by
  have marked : markDelivered 4 (done ++ wait) =
      (done ++ (wait.take 4).map (fun (p : Posting) => { p with delivered := true })) ++ wait.drop 4 := by
    rw [markDelivered_skips delivered, markDelivered_pending pending, List.append_assoc]
  have taken : (done ++ (wait.take 4).map (fun (p : Posting) => { p with delivered := true })).all
      (fun p => p.delivered) = true := by
    rw [List.all_append, delivered, Bool.true_and, List.all_map]
    exact List.all_eq_true.mpr fun _ _ => rfl
  have left : (wait.drop 4).all Posting.isPending = true :=
    List.all_eq_true.mpr fun p hp => List.all_eq_true.mp pending p (List.mem_of_mem_drop hp)
  have pendings := filter_isPending_append taken left
  have delivereds := filter_delivered_append taken left
  simp only [blockPostFetch, Engine.pendingCount, Engine.deliveredCount, State.setPostings, marked, pendings, delivereds,
    queue, filter_isPending_append delivered pending, List.length_drop, List.length_append, List.length_map,
    List.length_take]

theorem blockPostRewind_eq : blockPostRewind () s = ({ s with engine := { s.engine with
    postings := done.map (fun (p : Posting) => { p with delivered := false }) ++ wait } }, .rewound done.length) := by
  have kept : wait.map (fun (p : Posting) => { p with delivered := false }) = wait := by
    refine (List.map_congr_left fun p hp => ?_).trans (List.map_id wait)
    rw [← undelivered_of_isPending (List.all_eq_true.mp pending p hp)]
    rfl
  simp only [blockPostRewind, Engine.deliveredCount, State.setPostings, queue, List.map_append, kept,
    filter_delivered_append delivered pending]

end

/-- Settles O39. -/
theorem postingsAreFetchedAndRewound : Obligations.PostingsAreFetchedAndRewound := by
  unfold Obligations.PostingsAreFetchedAndRewound
  intro s tag done wait ready queue delivered pending
  exact ⟨serve_block ready blockPostFetch_blind rfl (blockPostFetch_eq queue delivered pending) _,
    serve_block ready blockPostRewind_blind rfl (blockPostRewind_eq queue delivered pending) _⟩

/-! ## Places along the numbering (R100, R103) -/

theorem nextNumber_mod {n : Nat} (low : 1 ≤ n) (high : n ≤ 4294967295) :
    nextNumber n % 4294967295 = (n + 1) % 4294967295 := by
  rw [nextNumber_eq]
  split <;> omega

/-- The number that stands `before.length` steps past the head's. -/
theorem numbered_steps {next : Nat} : ∀ {before rest : List Posting} {n : Nat}, 1 ≤ n → n ≤ 4294967295 →
    numbered next n (before ++ rest) = true →
    ∃ m, numbered next m rest = true ∧ m % 4294967295 = (n + before.length) % 4294967295
  | [], _, n, _, _, h => ⟨n, h, rfl⟩
  | p :: before, rest, n, low, high, h => by
    rw [List.cons_append, numbered, Bool.and_eq_true] at h
    obtain ⟨low', high'⟩ := nextNumber_range high
    obtain ⟨m, rest, steps⟩ := numbered_steps low' high' h.2
    refine ⟨m, rest, steps.trans ?_⟩
    rw [List.length_cons, Nat.add_mod, nextNumber_mod low high, ← Nat.add_mod]
    congr 1
    omega

theorem stepsTo_of_mod {reference n d : Nat} (low : 1 ≤ reference) (high : reference ≤ 4294967295)
    (h : n % 4294967295 = (reference + d) % 4294967295) (hd : d < 4294967295) : stepsTo reference n = d := by
  unfold stepsTo maxNat32
  omega

section
variable {e : Engine} (law : e.Posted)
include law

theorem reference_range : 1 ≤ e.reference ∧ e.reference ≤ 4294967295 := by
  unfold Engine.reference
  cases queue : e.postings with
  | nil => exact law.next
  | cons p ps => exact law.range p.number (List.mem_map_of_mem (by rw [queue]; exact List.mem_cons_self ..))

theorem stepsTo_record {before after : List Posting} {p : Posting} (queue : e.postings = before ++ p :: after)
    (room : e.postings.length ≤ 1024) : stepsTo e.reference p.number = before.length := by
  obtain ⟨low, high⟩ := reference_range law
  obtain ⟨n, numbers⟩ := law.numbers
  rw [← numbered_reference numbers, queue] at numbers
  obtain ⟨m, rest, steps⟩ := numbered_steps low high numbers
  rw [numbered, Bool.and_eq_true, beq_iff_eq] at rest
  rw [queue, List.length_append, List.length_cons] at room
  exact stepsTo_of_mod low high (by rw [rest.1, steps]) (by omega)

theorem stepsTo_next (room : e.postings.length ≤ 1024) : stepsTo e.reference e.nextPosting = e.postings.length := by
  obtain ⟨low, high⟩ := reference_range law
  obtain ⟨n, numbers⟩ := law.numbers
  rw [← numbered_reference numbers, ← List.append_nil e.postings] at numbers
  obtain ⟨m, rest, steps⟩ := numbered_steps low high numbers
  rw [numbered, beq_iff_eq] at rest
  exact stepsTo_of_mod low high (by rw [← rest, steps]) (by omega)

end

/-- The records before a DELIVERED one are DELIVERED. -/
theorem deliveredCount_past {p : Posting} {after : List Posting} (delivered : p.delivered = true) :
    ∀ {before : List Posting}, deliveredFirst (before ++ p :: after) →
      before.length < ((before ++ p :: after).filter fun p => p.delivered).length
  | [], _ => by simp [delivered]
  | q :: before, h => by
    cases first : q.delivered with
    | true =>
      rw [List.cons_append, deliveredFirst_cons_delivered first] at h
      rw [List.cons_append, List.filter_cons_of_pos first]
      exact Nat.succ_lt_succ (deliveredCount_past delivered h)
    | false =>
      rw [List.cons_append, deliveredFirst_cons_pending first, List.all_append, List.all_cons] at h
      simp [Posting.isPending, delivered] at h

/-- The records from a PENDING one on are PENDING. -/
theorem deliveredCount_upTo {p : Posting} {after : List Posting} (pending : p.delivered = false) :
    ∀ {before : List Posting}, deliveredFirst (before ++ p :: after) →
      ((before ++ p :: after).filter fun p => p.delivered).length ≤ before.length
  | [], h => by
    rw [List.nil_append, deliveredFirst_cons_pending pending] at h
    have none : after.filter (fun p => p.delivered) = [] := by
      rw [List.filter_eq_nil_iff]
      intro q hq
      rw [undelivered_of_isPending (List.all_eq_true.mp h q hq)]
      decide
    rw [List.nil_append, List.filter_cons_of_neg (by rw [pending]; decide), none]
  | q :: before, h => by
    rw [List.cons_append]
    cases first : q.delivered with
    | true =>
      rw [List.cons_append, deliveredFirst_cons_delivered first] at h
      rw [List.filter_cons_of_pos first]
      exact Nat.succ_le_succ (deliveredCount_upTo pending h)
    | false =>
      have rest : deliveredFirst (before ++ p :: after) := by
        rw [List.cons_append, deliveredFirst_cons_pending first] at h
        exact deliveredFirst_of_pending h
      rw [List.filter_cons_of_neg (by rw [first]; decide)]
      exact Nat.le_succ_of_le (deliveredCount_upTo pending rest)

/-! ## Serving the waiting list (R98) -/

theorem appendPosting_length (s : State) (p : Posting) :
    (s.appendPosting p).engine.postings.length = s.engine.postings.length + 1 := by
  rw [appendPosting_engine]
  exact List.length_append

theorem settle_length {t : Tab} (owes : t.sums.total ≠ 0) (slot : Nat) (r : CloseReason) :
    (s.settle slot t r).engine.postings.length = s.engine.postings.length + 1 := by
  rw [State.settle, if_neg owes, releaseTab_engine]
  exact appendPosting_length s _

/-- The tabs of a waiting list are CLOSING and owe something. -/
def State.Owing (s : State) (waiting : List Nat) : Prop :=
  ∀ slot ∈ waiting, ∃ t r, (s.tabSlot slot).state = .closing t r ∧ t.sums.total ≠ 0

/-- The waiting tabs settle from the head on into the room. -/
theorem served_go (one : State → Nat → State)
    (settles : ∀ (x : State) (slot : Nat) (t : Tab) (r : CloseReason), (x.tabSlot slot).state = .closing t r →
      one x slot = State.settle { x with engine := { x.engine with waiting := x.engine.waiting.drop 1 } } slot t r) :
    ∀ (waiting : List Nat) (v : State) (n : Nat), v.engine.waiting = waiting → waiting.Nodup → v.Owing waiting →
      Served.go waiting ⟨v, n⟩ = ⟨(waiting.take (1024 - v.engine.postings.length)).foldl one v,
        n + (waiting.take (1024 - v.engine.postings.length)).length⟩
  | [], v, n, _, _, _ => by simp [Served.go]
  | slot :: rest, v, n, queue, distinct, owing => by
    obtain ⟨t, r, closing, owes⟩ := owing slot (List.mem_cons_self ..)
    obtain ⟨fresh, distinct⟩ := List.nodup_cons.mp distinct
    rcases Nat.lt_or_ge v.engine.postings.length 1024 with room | full
    · have settled := settles v slot t r closing
      rw [queue, List.drop_one, List.tail_cons] at settled
      have step : Served.go (slot :: rest) ⟨v, n⟩ = Served.go rest ⟨one v slot, n + 1⟩ := by
        simp only [Served.go, closing, canSettle_of_room room, if_true, settled]
      have length : (one v slot).engine.postings.length = v.engine.postings.length + 1 := by
        rw [settled]
        exact settle_length owes slot r
      have others : (one v slot).Owing rest := by
        intro k hk
        have other : k ≠ slot := fun e => fresh (e ▸ hk)
        rw [settled, settle_tabSlot_other _ t r other]
        exact owing k (List.mem_cons_of_mem _ hk)
      have waiting : (one v slot).engine.waiting = rest := by
        rw [settled]
        exact settle_waiting _ slot t r
      rw [step, served_go one settles rest (one v slot) (n + 1) waiting distinct others, length,
        show 1024 - v.engine.postings.length = 1024 - (v.engine.postings.length + 1) + 1 by omega,
        List.take_succ_cons, List.foldl_cons, List.length_cons]
      congr 1
      omega
    · rw [show 1024 - v.engine.postings.length = 0 by omega]
      simp only [Served.go, closing, canSettle_of_full owes full]
      rfl

theorem owing_of_waitingLaw (h : s.waitingLaw = true) :
    s.engine.waiting.Nodup ∧ s.Owing s.engine.waiting := by
  simp only [State.waitingLaw, Bool.and_eq_true, decide_eq_true_eq] at h
  obtain ⟨⟨⟨_, distinct⟩, owing⟩, _⟩ := h
  refine ⟨distinct, fun slot hslot => ?_⟩
  have owes := List.all_eq_true.mp owing slot hslot
  split at owes
  next t r closing => exact ⟨t, r, closing, of_decide_eq_true owes⟩
  next => cases owes

/-! ## POST.RELEASE -/

section
variable {n : Nat}

theorem blockPostRelease_zero : blockPostRelease 0 s = (s, .refused .range) := by
  simp only [blockPostRelease, if_true]

variable (positive : n ≠ 0)
include positive

theorem blockPostRelease_removes (h : stepsTo s.engine.reference n < s.engine.deliveredCount) :
    blockPostRelease n s = ((s.removePostings (stepsTo s.engine.reference n)).serveWaiting.state,
      .released (stepsTo s.engine.reference n + 1)
        (s.removePostings (stepsTo s.engine.reference n)).engine.pendingCount
        (s.removePostings (stepsTo s.engine.reference n)).engine.deliveredCount
        (s.removePostings (stepsTo s.engine.reference n)).serveWaiting.settled) := by
  simp only [blockPostRelease, if_neg positive, if_pos h]

theorem blockPostRelease_already (h : s.engine.deliveredCount ≤ stepsTo s.engine.reference n)
    (far : 2147483648 ≤ stepsTo s.engine.reference n) :
    blockPostRelease n s = (s, .released 0 s.engine.pendingCount s.engine.deliveredCount 0) := by
  simp only [blockPostRelease, if_neg positive, if_neg (Nat.not_lt.mpr h), if_pos far]

theorem blockPostRelease_range (h : s.engine.deliveredCount ≤ stepsTo s.engine.reference n)
    (near : stepsTo s.engine.reference n < 2147483648) : blockPostRelease n s = (s, .refused .range) := by
  simp only [blockPostRelease, if_neg positive, if_neg (Nat.not_lt.mpr h), if_neg (Nat.not_le.mpr near)]

end

theorem deliveredCount_le (e : Engine) : e.deliveredCount ≤ e.postings.length := List.length_filter_le _ _

theorem postings_room (h : s.roomLaw = true) : s.engine.postings.length ≤ 1024 := by
  simp only [State.roomLaw, Bool.and_eq_true, decide_eq_true_eq] at h
  exact h.1.1.1.2

/-- Settles O40. -/
theorem postReleaseRemovesDeliveredRecords : Obligations.PostReleaseRemovesDeliveredRecords := by
  unfold Obligations.PostReleaseRemovesDeliveredRecords
  intro s u tag ready posted roomLaw
  have law := s.postingLaw_iff.mp posted
  have room := postings_room roomLaw
  obtain ⟨low, high⟩ := reference_range law
  have few := deliveredCount_le s.engine
  have releases {n : Nat} {v : State} {answer : Answer} (h : blockPostRelease n s = (v, answer)) :
      exec (.postRelease tag (.fit n)) s = .next (v.replied 0xC7#8 tag answer) :=
    serve_block ready blockPostRelease_blind rfl h _
  have already {n : Nat} (positive : n ≠ 0) (far : 2147483648 ≤ stepsTo s.engine.reference n) :=
    releases (blockPostRelease_already positive (by omega) far)
  refine ⟨fun before p after queue delivered hu => ?_, fun n h => ?_, fun n first d hn hn' hfirst placed hd => ?_,
    fun n hn hn' h => ?_⟩
  · have steps := stepsTo_record law queue room
    have positive : p.number ≠ 0 :=
      Nat.one_le_iff_ne_zero.mp (law.range p.number (List.mem_map_of_mem (by rw [queue]; simp))).1
    have removed : s.removePostings before.length = u := by
      rw [hu, State.removePostings, queue, List.drop_append, List.drop_eq_nil_of_le (Nat.le_succ _),
        Nat.add_sub_cancel_left]
      rfl
    have count : stepsTo s.engine.reference p.number < s.engine.deliveredCount := by
      have past := deliveredCount_past delivered (queue ▸ law.order)
      rw [steps, Engine.deliveredCount, queue]
      exact past
    have removes := blockPostRelease_removes positive count
    rw [steps, removed] at removes
    have left : u.engine.postings = after := by rw [hu]
    have waiting : u.engine.waiting = s.engine.waiting := by rw [hu]
    have tabs (k : Nat) : u.tabSlot k = s.tabSlot k := by rw [hu]; rfl
    rw [Engine.pendingCount, Engine.deliveredCount, left] at removes
    have freed : after.length < 1024 := by
      rw [queue, List.length_append, List.length_cons] at room
      omega
    refine ⟨fun none => ?_, fun slot t r one closing => ?_, fun one settled waits settles hsettled => ?_⟩
    · have served : u.serveWaiting = ⟨u, 0⟩ := by rw [State.serveWaiting, waiting, none, Served.go]
      rw [served] at removes
      exact releases removes
    · have served : u.serveWaiting =
          ⟨State.settle { u with engine := { u.engine with waiting := [] } } slot t r, 1⟩ := by
        rw [State.serveWaiting, waiting, one]
        simp only [Served.go, tabs, closing, canSettle_of_room (s := u) (by rw [left]; exact freed), if_true]
      rw [served] at removes
      exact releases removes
    · obtain ⟨distinct, owing⟩ := owing_of_waitingLaw waits
      have served := served_go one settles s.engine.waiting u 0 waiting distinct
        fun k hk => by rw [tabs]; exact owing k hk
      rw [left, ← hsettled, Nat.zero_add] at served
      rw [State.serveWaiting, waiting, served] at removes
      exact releases removes
  · by_cases zero : n = 0
    · rw [zero]
      exact releases blockPostRelease_zero
    · have near : s.engine.deliveredCount ≤ stepsTo s.engine.reference n ∧
          stepsTo s.engine.reference n ≤ 1024 := by
        rcases h with h | ⟨p, hp, rfl, pending⟩ | rfl
        · exact absurd h zero
        · obtain ⟨before, after, queue⟩ := List.append_of_mem hp
          rw [stepsTo_record law queue room, Engine.deliveredCount, queue]
          refine ⟨deliveredCount_upTo pending (queue ▸ law.order), ?_⟩
          rw [queue, List.length_append] at room
          omega
        · rw [stepsTo_next law room]
          exact ⟨few, room⟩
      exact releases (blockPostRelease_range zero near.1 (by omega))
  · have steps : stepsTo s.engine.reference n = d := by
      rw [show s.engine.reference = first from hfirst.symm] at low high ⊢
      exact stepsTo_of_mod low high (by omega) hd
    exact ⟨fun count near => releases (blockPostRelease_range (by omega) (by rw [steps]; exact count)
      (by rw [steps]; exact near)), fun far => already (by omega) (by rw [steps]; exact far)⟩
  · obtain ⟨first, hfirst, h⟩ := h
    rw [show first = s.engine.reference from hfirst.symm] at h
    refine already (by omega) ?_
    unfold stepsTo maxNat32
    omega

/-! ## VOID (R105, R106) -/

section
variable {terminal n : Nat}

theorem blockVoid_range (h : 63 < terminal ∨ n = 0) : blockVoid ⟨terminal, n⟩ s = (s, .refused .range) := by
  refine if_pos ?_
  simp only [terminalInRange, Bool.or_eq_true, Bool.not_eq_true', decide_eq_false_iff_not, decide_eq_true_eq]
  omega

variable (hterminal : terminal ≤ 63) (hn : 1 ≤ n)
include hterminal hn

theorem void_inRange : ¬ (!terminalInRange terminal || decide (n = 0)) = true := by
  simp [terminalInRange, hterminal, Nat.one_le_iff_ne_zero.mp hn]

theorem blockVoid_missing (h : ∀ p ∈ s.engine.postings, p.number ≠ n) :
    blockVoid ⟨terminal, n⟩ s = (s, .refused .notFound) := by
  have none : s.engine.postings.find? (fun p => p.number == n) = none := by
    rw [List.find?_eq_none]
    intro p hp
    rw [beq_iff_eq]
    exact h p hp
  unfold blockVoid
  rw [if_neg (void_inRange hterminal hn), none]

variable {p : Posting} (found : s.engine.postings.find? (fun x => x.number == n) = some p)
include found

theorem blockVoid_refuses {answer : Answer} (h : s.voidRefusal p terminal = some answer) :
    blockVoid ⟨terminal, n⟩ s = (s, answer) := by
  unfold blockVoid
  rw [if_neg (void_inRange hterminal hn), found]
  simp only [h]

theorem blockVoid_voids {w t : State} {taken spent used : Nat} {balance : Int}
    (passes : s.voidRefusal p terminal = none) (account : (s.markVoided n).voidAccount p = (w, taken, balance))
    (card : w.voidCard p = (t, spent, used)) :
    blockVoid ⟨terminal, n⟩ s = (t, .voided taken balance spent used) := by
  unfold blockVoid
  rw [if_neg (void_inRange hterminal hn), found]
  simp only [passes, account, card]

end

section
variable {p : Posting} {terminal : Nat}

/-- The judgement of a VOID on the record, its tests in order. -/
theorem voidRefusal_of {answer : Answer}
    (h : p.kind ≠ .charge ∧ answer = .refused .state ∨
      p.kind = .charge ∧ (p.terminal ≠ terminal ∧ answer = .outcome .notOwner ∨
        p.terminal = terminal ∧ (p.voided = true ∧ answer = .outcome .closed ∨
          p.voided = false ∧ (p.delivered = true ∧ answer = .outcome .delivered ∨
            p.delivered = false ∧ (p.voidable = false ∨
              s.store.settings.voidWindow ≤ s.clock.runSeconds - p.acceptedAt) ∧
              answer = .outcome .expired)))) : s.voidRefusal p terminal = some answer := by
  unfold State.voidRefusal
  rcases h with ⟨other, rfl⟩ | ⟨charge, h⟩
  · rw [if_pos other]
  rw [if_neg (not_not_intro charge)]
  rcases h with ⟨other, rfl⟩ | ⟨own, h⟩
  · rw [if_pos other]
  rw [if_neg (not_not_intro own)]
  rcases h with ⟨voided, rfl⟩ | ⟨voided, h⟩
  · rw [if_pos voided]
  rw [if_neg (by rw [voided]; decide)]
  rcases h with ⟨delivered, rfl⟩ | ⟨delivered, late, rfl⟩
  · rw [if_pos delivered]
  · rw [if_neg (by rw [delivered]; decide), if_pos (by simpa using late)]

theorem voidRefusal_none (charge : p.kind = .charge) (own : p.terminal = terminal) (voided : p.voided = false)
    (delivered : p.delivered = false) (voidable : p.voidable = true)
    (window : s.clock.runSeconds - p.acceptedAt < s.store.settings.voidWindow) : s.voidRefusal p terminal = none := by
  unfold State.voidRefusal
  rw [if_neg (not_not_intro charge), if_neg (not_not_intro own), if_neg (by rw [voided]; decide),
    if_neg (by rw [delivered]; decide), if_neg (by simp [voidable, window])]

theorem voidAccount_found {slot : Nat} {a : Account} (h : s.accountByNumber p.account = some (slot, a))
    (range : -10000000 ≤ a.balance) : s.voidAccount p =
      (s.setAccount slot { a with balance := max (a.balance - (p.sums.total : Int)) (-10000000) },
        min p.sums.total (a.balance + 10000000).toNat, max (a.balance - (p.sums.total : Int)) (-10000000)) := by
  have taken : (a.balance - max (a.balance - (p.sums.total : Int)) (-10000000)).toNat =
      min p.sums.total (a.balance + 10000000).toNat := by omega
  simp only [State.voidAccount, h, lowerBalance, taken]

theorem voidAccount_retired (h : s.accountByNumber p.account = none) : s.voidAccount p =
    ({ s with freeCount := s.freeCount + 1 }, 0, Config.retiredBalance s.freeCount) := by
  simp only [State.voidAccount, h]

theorem voidCard_found {slot : Nat} {c : Card} (h : s.cardByUid p.uid = some (slot, c))
    (day : p.shipDay = s.clock.shipDay) : s.voidCard p =
      (s.setCard slot { c with daySpent := c.daySpent - p.sums.total, allowanceUsed := c.allowanceUsed - p.sums.units },
        min c.daySpent p.sums.total, min c.allowanceUsed p.sums.units) := by
  have spent : c.daySpent - (c.daySpent - p.sums.total) = min c.daySpent p.sums.total := by omega
  have used : c.allowanceUsed - (c.allowanceUsed - p.sums.units) = min c.allowanceUsed p.sums.units := by omega
  simp only [State.voidCard, h, if_pos day, spent, used]

theorem voidCard_keeps (h : s.cardByUid p.uid = none ∨ p.shipDay ≠ s.clock.shipDay) : s.voidCard p = (s, 0, 0) := by
  unfold State.voidCard
  split
  next slot c found =>
    refine if_neg fun day => ?_
    rcases h with none | other
    · rw [none] at found
      cases found
    · exact other day
  next => rfl

end

/-- Settles O41. -/
theorem voidsGiveBackWhatTheRecordTook : Obligations.VoidsGiveBackWhatTheRecordTook := by
  unfold Obligations.VoidsGiveBackWhatTheRecordTook
  intro s tag terminal n ready loaded
  have voids {t : State} {answer : Answer} (h : blockVoid ⟨terminal, n⟩ s = (t, answer)) :
      exec (.void tag (.fit ⟨terminal, n⟩)) s = .next (t.replied 0xC1#8 tag answer) :=
    serve_block ready blockVoid_blind (whenLoaded_takes loaded) h _
  refine ⟨fun bad => voids (blockVoid_range bad), fun inTerminal hn none => voids (blockVoid_missing inTerminal hn none),
    fun p inTerminal hn found => ⟨fun answer refuses => voids (blockVoid_refuses inTerminal hn found (voidRefusal_of refuses)),
      ?_⟩⟩
  intro v w t taken spent used balance charge own voided delivered voidable window hv account card
  have passes := voidRefusal_none charge own voided delivered voidable window
  have marked : s.markVoided n = v := hv.symm
  have money : v.voidAccount p = (w, taken, balance) ∧ w.store.cards = s.store.cards ∧ w.clock = s.clock := by
    rcases account with ⟨slot, a, named, range, rfl, rfl, rfl⟩ | ⟨retired, rfl, rfl, rfl⟩
    · subst hv
      exact ⟨voidAccount_found named range, rfl, rfl⟩
    · subst hv
      exact ⟨voidAccount_retired retired, rfl, rfl⟩
  obtain ⟨money, cards, clock⟩ := money
  have byUid : w.cardByUid p.uid = s.cardByUid p.uid := by rw [State.cardByUid, cards, State.cardByUid]
  have counters : w.voidCard p = (t, spent, used) := by
    rcases card with ⟨slot, c, named, day, rfl, rfl, rfl⟩ | ⟨none, rfl, rfl, rfl⟩
    · rw [voidCard_found (byUid.trans named) (day.trans (by rw [clock])), State.setCard, cards]
    · exact voidCard_keeps (none.imp byUid.trans fun other day => other (day.trans (by rw [clock])))
  exact voids (blockVoid_voids inTerminal hn found passes (by rw [marked, money]) counters)

end Sys2Proof.Machine
end

section
/-! The gangway lanes: rules for one lane, LANE.OPEN and LANE.CLOSE, input edges, the brace, the flow window and the
tailgate comparison (R109 to R125). -/

namespace Sys2Proof.Machine

variable {s : State} {n : Nat} {l m : Lane}

/-! ## Rules for one lane -/

theorem lane_setLane (hn : n < 4) (s : State) (l : Lane) : (s.setLane n l).lane n = l :=
  Four.get_set_self s.lanes hn l

theorem setLane_setLane (s : State) (n : Nat) (l m : Lane) : (s.setLane n l).setLane n m = s.setLane n m := by
  have set_set : (s.lanes.set n l).set n m = s.lanes.set n m := by
    rcases n with _ | _ | _ | _ | n <;> rfl
  simp only [State.setLane, set_set]

theorem raise_setLane (s : State) (b : NoticeBody) (n : Nat) (l : Lane) :
    (s.raise b).setLane n l = (s.setLane n l).raise b := by
  rw [State.raise_eq, State.raise_eq]
  rfl

theorem lane_raise (s : State) (b : NoticeBody) (n : Nat) : (s.raise b).lane n = s.lane n := by
  rw [State.lane, State.raise_lanes]
  rfl

section
variable (hn : n < 4) (s : State) (l : Lane)
include hn

theorem gateEffective_setLane : (s.setLane n l).gateEffective n = s.setLane n { l with
    gate := true
    counters := ⟨0, 0, 0, 0, 0⟩
    decoder := .clear
    mark := false
    settling := l.s.level || l.i.level
    flowCount := 0
    flowEnd := some (s.clock.ms + Four.get s.store.settings.flowWindow n * 1000)
    crowdingArmed := true
    armedIn := true
    armedOut := true
    openTime := ⟨s.clock.runSeconds, s.clock.shipTime⟩ } := by
  simp only [State.gateEffective, lane_setLane hn, setLane_setLane]
  rfl

theorem gateLoss_setLane (r : HoldReason) : (s.setLane n l).gateLoss n r = (s.setLane n { l with
    gate := false
    decoder := .clear
    mark := false
    settling := false
    flowEnd := none
    hold := some ⟨l.counters, l.openTime.shipTime, s.clock.shipTime, r⟩ }).raise (.laneHeld n r) := by
  simp only [State.gateLoss, lane_setLane hn, setLane_setLane]
  rfl

variable {l}

theorem tailgate_within (d : Direction)
    (h : (l.counters.difference d).natAbs ≤ s.store.settings.tailgateTolerance) :
    (s.setLane n l).tailgate n d = s.setLane n (l.setArmed d true) := by
  simp only [State.tailgate, lane_setLane hn, setLane_setLane, State.setLane_store, if_neg (Nat.not_lt.mpr h)]

theorem tailgate_unarmed (d : Direction)
    (h : s.store.settings.tailgateTolerance < (l.counters.difference d).natAbs) (armed : l.armed d = false) :
    (s.setLane n l).tailgate n d = s.setLane n l := by
  simp only [State.tailgate, lane_setLane hn, State.setLane_store, if_pos h, armed]
  rfl

theorem tailgate_armed (d : Direction)
    (h : s.store.settings.tailgateTolerance < (l.counters.difference d).natAbs) (armed : l.armed d = true) :
    (s.setLane n l).tailgate n d = (s.setLane n (l.setArmed d false)).raise
      (.tailgate n d (l.counters.difference d)) := by
  simp only [State.tailgate, lane_setLane hn, setLane_setLane, State.setLane_store, if_pos h, armed]
  rfl

end

/-- The tailgate comparison of a direction whose difference is known (R123). -/
theorem tailgate_cases (hn : n < 4) (s : State) (dir : Direction) {d : Int} (h : l.counters.difference dir = d) :
    (d.natAbs ≤ s.store.settings.tailgateTolerance →
      (s.setLane n l).tailgate n dir = s.setLane n (l.setArmed dir true)) ∧
    (s.store.settings.tailgateTolerance < d.natAbs →
      (l.armed dir = false → (s.setLane n l).tailgate n dir = s.setLane n l) ∧
      (l.armed dir = true → (s.setLane n l).tailgate n dir =
        (s.setLane n (l.setArmed dir false)).raise (.tailgate n dir d))) := by
  subst h
  exact ⟨tailgate_within hn s dir, fun beyond => ⟨tailgate_unarmed hn s dir beyond, tailgate_armed hn s dir beyond⟩⟩

/-- The difference does not depend on whether the counters have wrapped (R123). -/
theorem difference_wraps {beams beams' scans scans' : Nat} {d : Int} (hbeams : beams' % 16777216 = beams % 16777216)
    (hscans : scans' % 16777216 = scans % 16777216) (h : ∃ k : Int, d = (beams : Int) - scans + k * 16777216)
    (low : -8388608 ≤ d) (high : d < 8388608) : difference beams' scans' = d := by
  obtain ⟨k, rfl⟩ := h
  simp only [difference, counterModulus]
  omega

/-! ## Time -/

@[simp] theorem advanceTo_ms (s : State) (t : Nat) : (s.advanceTo t).clock.ms = max s.clock.ms t := by
  simp only [State.advanceTo, Clock.advanceTo]
  split
  next h => exact (Nat.max_eq_left h).symm
  next h => exact (Nat.max_eq_right (Nat.le_of_not_le h)).symm

theorem advanceTo_max (s : State) (t : Nat) : s.advanceTo (max s.clock.ms t) = s.advanceTo t := by
  rcases Nat.le_total t s.clock.ms with h | h
  · rw [Nat.max_eq_left h, State.advanceTo, State.advanceTo, Clock.advanceTo_le _ h, Clock.advanceTo_le _ (Nat.le_refl _)]
  · rw [Nat.max_eq_right h]

theorem happens_nothing {event : State → Option State} (h : event s = none) : happens event s = .next s := by
  simp only [happens, h, Option.getD_none, ite_self]

theorem onlyLanes_lane (hn : n < 4) (event : State → Option State) (s : State) : onlyLanes n event s = event s :=
  if_neg (by omega)

/-- An event of a lane happens. -/
theorem happens_lane {event : State → Option State} {t : State} (takes : s.takesEvents = true) (hn : n < 4)
    (h : event s = some t) : happens (onlyLanes n event) s = .next t :=
  happens_taken takes ((onlyLanes_lane hn event s).trans h)

theorem happens_lane_nothing {event : State → Option State} (hn : n < 4) (h : event s = none) :
    happens (onlyLanes n event) s = .next s :=
  happens_nothing ((onlyLanes_lane hn event s).trans h)

/-! ## LANE.OPEN and LANE.CLOSE (R114, R115) -/

theorem blockLaneOpen_range (h : 3 < n) : blockLaneOpen n s = (s, .refused .range) := if_pos h

theorem blockLaneClose_range (h : 3 < n) : blockLaneClose n s = (s, .refused .range) := if_pos h

section
variable (hn : n < 4)
include hn

theorem blockLaneOpen_secured (h : s.store.opState = .secure) : blockLaneOpen n s = (s, .outcome .secured) := by
  rw [blockLaneOpen, if_neg (by omega), if_pos h]

theorem blockLaneOpen_atSea (service : s.store.opState = .service) (h : s.clock.port = .atSea) :
    blockLaneOpen n s = (s, .outcome .atSea) := by
  rw [blockLaneOpen, if_neg (by omega), if_neg (not_secure_of_service service), if_pos h]

theorem blockLaneOpen_eq (service : s.store.opState = .service) (inPort : s.clock.port = .inPort) {t : State}
    (h : s.setSoftGate n = t) :
    blockLaneOpen n s = (t, .laneOpened (t.lane n).softGate (t.lane n).brace.level (t.lane n).gate) := by
  subst h
  rw [blockLaneOpen, if_neg (by omega), if_neg (not_secure_of_service service), if_neg (by rw [inPort]; decide)]

variable (lane : Four.get s.lanes n = l)
include lane

omit hn in
theorem setSoftGate_set (h : l.softGate = true) : s.setSoftGate n = s := by
  have set : (s.lane n).softGate = true := by rw [State.lane, lane, h]
  exact if_pos set

omit hn in
theorem setSoftGate_braceOpen (clear : l.softGate = false) (brace : l.brace.level = false) :
    s.setSoftGate n = s.setLane n { l with softGate := true } := by
  simp only [State.setSoftGate, State.lane, lane, clear, brace]
  rfl

theorem setSoftGate_braceClosed (clear : l.softGate = false) (brace : l.brace.level = true) :
    s.setSoftGate n = s.setLane n { l with
      softGate := true
      gate := true
      counters := ⟨0, 0, 0, 0, 0⟩
      decoder := .clear
      mark := false
      settling := l.s.level || l.i.level
      flowCount := 0
      flowEnd := some (s.clock.ms + Four.get s.store.settings.flowWindow n * 1000)
      crowdingArmed := true
      armedIn := true
      armedOut := true
      openTime := ⟨s.clock.runSeconds, s.clock.shipTime⟩ } := by
  simp only [State.setSoftGate, State.lane, lane, clear, brace, if_true]
  exact gateEffective_setLane hn s _

omit hn in
theorem clearSoftGate_ineffective (h : l.gate = false) (r : HoldReason) :
    s.clearSoftGate n r = s.setLane n { l with softGate := false } := by
  simp only [State.clearSoftGate, State.lane, lane, h]
  rfl

theorem clearSoftGate_effective (h : l.gate = true) (r : HoldReason) :
    s.clearSoftGate n r = (s.setLane n { l with
      softGate := false
      gate := false
      decoder := .clear
      mark := false
      settling := false
      flowEnd := none
      hold := some ⟨l.counters, l.openTime.shipTime, s.clock.shipTime, r⟩ }).raise (.laneHeld n r) := by
  simp only [State.clearSoftGate, State.lane, lane, h, if_true]
  exact gateLoss_setLane hn s _ r

theorem blockLaneClose_ineffective (h : l.gate = false) :
    blockLaneClose n s = (s.setLane n { l with softGate := false }, .laneClosed none) := by
  have gate : (s.lane n).gate = false := by rw [State.lane, lane, h]
  simp only [blockLaneClose, if_neg (show ¬ 3 < n by omega), clearSoftGate_ineffective lane h, gate]
  rfl

theorem blockLaneClose_effective (h : l.gate = true) {record : HoldRecord}
    (hrecord : record = ⟨l.counters, l.openTime.shipTime, s.clock.shipTime, .close⟩) :
    blockLaneClose n s = ((s.setLane n { l with
      softGate := false
      gate := false
      decoder := .clear
      mark := false
      settling := false
      flowEnd := none
      hold := some record }).raise (.laneHeld n .close), .laneClosed (some record)) := by
  subst hrecord
  have gate : (s.lane n).gate = true := by rw [State.lane, lane, h]
  simp only [blockLaneClose, if_neg (show ¬ 3 < n by omega), clearSoftGate_effective hn lane h, gate, if_true,
    lane_raise, lane_setLane hn]

end

/-- Settles O42. -/
theorem lanesOpenAndClose : Obligations.LanesOpenAndClose := by
  unfold Obligations.LanesOpenAndClose
  intro s tag n l ready loaded hn lane
  have opens {k : Nat} {t : State} {answer : Answer} (h : blockLaneOpen k s = (t, answer)) :
      exec (.laneOpen tag (.fit k)) s = .next (t.replied 0xD0#8 tag answer) :=
    serve_block ready blockLaneOpen_blind (whenLoaded_takes loaded) h _
  have closes {k : Nat} {t : State} {answer : Answer} (h : blockLaneClose k s = (t, answer)) :
      exec (.laneClose tag (.fit k)) s = .next (t.replied 0xD1#8 tag answer) :=
    serve_block ready blockLaneClose_blind (whenLoaded_takes loaded) h _
  refine ⟨fun secure => opens (blockLaneOpen_secured hn secure),
    fun service atSea => opens (blockLaneOpen_atSea hn service atSea), fun service inPort => ⟨fun set => ?_,
      fun clear brace => ?_, fun clear brace => ?_⟩,
    fun gate => closes (blockLaneClose_ineffective hn lane gate),
    fun record gate hrecord => closes (blockLaneClose_effective hn lane gate hrecord),
    fun k hk => ⟨opens (blockLaneOpen_range hk), closes (blockLaneClose_range hk)⟩⟩
  · have h := blockLaneOpen_eq hn service inPort (setSoftGate_set lane set)
    rw [State.lane, lane, set] at h
    exact opens h
  · have h := blockLaneOpen_eq hn service inPort (setSoftGate_braceOpen lane clear brace)
    rw [lane_setLane hn, brace] at h
    exact opens h
  · have h := blockLaneOpen_eq hn service inPort (setSoftGate_braceClosed hn lane clear brace)
    rw [lane_setLane hn] at h
    dsimp only at h
    rw [brace] at h
    exact opens h

/-! ## Beam changes at one lane (R110, R118) -/

theorem Lane.settling_kept (gate : m.gate = true) (settling : m.settling = true) :
    m = { m with gate := true, settling := true } := by
  cases m
  simp only at gate settling
  rw [gate, settling]

section
variable (hn : n < 4) (s : State)
include hn

theorem takeBeams_ineffective {e : BeamEvent} (moved : l.moveLevels e = m) (h : m.gate = false) :
    (s.setLane n l).takeBeams n e = s.setLane n m := by
  subst moved
  simp only [State.takeBeams, lane_setLane hn, setLane_setLane, h]
  rfl

theorem takeBeams_settling {e : BeamEvent} (moved : l.moveLevels e = m) (gate : m.gate = true)
    (settling : m.settling = true) :
    (s.setLane n l).takeBeams n e = s.setLane n { m with settling := m.s.level || m.i.level } := by
  subst moved
  simp only [State.takeBeams, lane_setLane hn, setLane_setLane, gate, settling, if_true]
  cases levels : (l.moveLevels e).s.level || (l.moveLevels e).i.level with
  | false => exact if_pos (by rw [← Bool.not_or, levels]; rfl)
  | true =>
    rw [if_neg (by rw [← Bool.not_or, levels]; decide)]
    exact congrArg _ (Lane.settling_kept gate settling)

theorem takeBeams_effective {e : BeamEvent} (moved : l.moveLevels e = m) (gate : m.gate = true)
    (settling : m.settling = false) : (s.setLane n l).takeBeams n e = (s.setLane n m).decodeBeams n e := by
  subst moved
  simp only [State.takeBeams, lane_setLane hn, setLane_setLane, gate, settling, if_true]
  rfl

/-- A transition that counts nothing and sets no mark. -/
theorem decodeBeams_goes {e : BeamEvent} {next : Decoder} (step : l.decoder.step e = goes next) :
    (s.setLane n l).decodeBeams n e = s.setLane n { l with
      decoder := next
      mark := if next = .clear then false else l.mark } := by
  simp only [State.decodeBeams, lane_setLane hn, setLane_setLane, step, goes, Bool.or_false]

/-- A double change that sets the mark. -/
theorem decodeBeams_marks {e : BeamEvent} {next : Decoder} (step : l.decoder.step e = ⟨next, none, true⟩)
    (h : next ≠ .clear) : (s.setLane n l).decodeBeams n e = s.setLane n { l with decoder := next, mark := true } := by
  simp only [State.decodeBeams, lane_setLane hn, setLane_setLane, step, if_neg h, Bool.or_true]

theorem decodeBeams_counts {e : BeamEvent} {p : Passage} (step : l.decoder.step e = ⟨.clear, some p, false⟩) :
    (s.setLane n l).decodeBeams n e = (s.setLane n { l with decoder := .clear, mark := false }).countPassage n
      (if l.mark then .ambiguous else p) := by
  simp only [State.decodeBeams, lane_setLane hn, setLane_setLane, step, if_true]

theorem countPassage_ambiguous : (s.setLane n l).countPassage n .ambiguous = s.setLane n { l with
    counters := { l.counters with ambiguous := (l.counters.ambiguous + 1) % 16777216 }
    flowCount := min (l.flowCount + 1) 65535 } := by
  simp only [State.countPassage, lane_setLane hn, setLane_setLane]
  rfl

theorem countPassage_inbound : (s.setLane n l).countPassage n .inbound = (s.setLane n { l with
    counters := { l.counters with inbound := (l.counters.inbound + 1) % 16777216 }
    flowCount := min (l.flowCount + 1) 65535 }).tailgate n .inward := by
  simp only [State.countPassage, lane_setLane hn, setLane_setLane]
  rfl

theorem countPassage_outbound : (s.setLane n l).countPassage n .outbound = (s.setLane n { l with
    counters := { l.counters with outbound := (l.counters.outbound + 1) % 16777216 }
    flowCount := min (l.flowCount + 1) 65535 }).tailgate n .outward := by
  simp only [State.countPassage, lane_setLane hn, setLane_setLane]
  rfl

theorem takeHeld_setLane {h : Held} (held : l.held = some h) :
    (s.setLane n l).takeHeld n = (s.setLane n { l with held := none }).takeBeams n (.single h.beam) := by
  simp only [State.takeHeld, lane_setLane hn, setLane_setLane, held]

end

/-! ## Input edges (R110, R111) -/

theorem otherBeam_ne (b : Beam) : otherBeam b ≠ b := by cases b <;> decide

theorem ne_otherBeam (b : Beam) : b ≠ otherBeam b := (otherBeam_ne b).symm

section
variable {input : LaneInput} {low : Bool} {level : PinLevel}

theorem exec_laneInputEdge (h : low = true ∧ level = .low ∨ low = false ∧ level = .high) :
    exec (.laneInputEdge n input level) s = .next (s.laneEdge n input low) := by
  rcases h with ⟨rfl, rfl⟩ | ⟨rfl, rfl⟩ <;> rfl

theorem laneEdge_absent (hn : 3 < n) : s.laneEdge n input low = s := if_pos (.inl hn)

variable (lane : Four.get s.lanes n = l)
include lane

theorem laneEdge_same (h : l.pin input = low) : s.laneEdge n input low = s :=
  if_pos (.inr (by rw [State.lane, lane, h]))

variable (hn : n < 4) (moves : l.pin input ≠ low)
include hn moves

theorem laneEdge_taken (takes : s.takesEvents = true) : s.laneEdge n input low = s.inputEdge n input low := by
  rw [State.laneEdge, State.lane, lane, if_neg (by rintro (far | same) <;> [omega; exact moves same]), if_pos takes]

theorem laneEdge_moves (takes : s.takesEvents = false) : s.laneEdge n input low = s.setLane n (l.movePin input low) := by
  rw [State.laneEdge, State.lane, lane, if_neg (by rintro (far | same) <;> [omega; exact moves same]),
    if_neg (by rw [takes]; decide)]

end

section
variable {b : Beam} {low : Bool} (lane : Four.get s.lanes n = l)
include lane

omit lane in
/-- The lane after an edge at a beam. -/
theorem beamEdge_lane (reference : Bool) (href : l.reference b = reference) :
    (l.setBeam b ((l.beam b).edge (l.reference b) low s.clock.ms)).forget b =
      { l.setBeam b { l.beam b with
          pin := low
          since := if low = reference then none else some s.clock.ms } with
        alone := if l.alone = some b then none else l.alone } := by
  subst href
  cases b <;> rfl

/-- No change of the other beam is held, or none of this beam is abandoned. -/
theorem beamEdge_moves (h : (l.beam b).since = none ∨ l.held.map Held.beam ≠ some (otherBeam b)) {reference : Bool}
    (href : l.reference b = reference) : s.beamEdge n b low = s.setLane n { l.setBeam b { l.beam b with
          pin := low
          since := if low = reference then none else some s.clock.ms } with
        alone := if l.alone = some b then none else l.alone } := by
  unfold State.beamEdge
  simp only [State.lane, lane]
  rw [beamEdge_lane reference href]
  refine if_neg ?_
  simp only [Bool.and_eq_true, decide_eq_true_eq]
  rintro ⟨⟨some, _⟩, held⟩
  rcases h with none | other
  · rw [none] at some
    cases some
  · exact other held

/-- The level back abandons the change under way, and the other beam's held change is taken. -/
theorem beamEdge_abandons (hn : n < 4) {t since : Nat} (held : l.held = some ⟨otherBeam b, t⟩)
    (change : (l.beam b).since = some since) (back : low = (l.beam b).level) :
    s.beamEdge n b low = (s.setLane n { l.setBeam b { l.beam b with pin := low, since := none } with
      held := none
      alone := if l.alone = some b then none else l.alone }).takeBeams n (.single (otherBeam b)) := by
  have href : l.reference b = low := by
    rw [Lane.reference, held, back]
    exact if_neg fun h => otherBeam_ne b (Option.some.inj h)
  have taken : ((l.beam b).since.isSome && low == l.reference b && decide (l.held.map Held.beam = some (otherBeam b))) =
      true := by
    rw [href, change, held, beq_self_eq_true]
    exact decide_eq_true rfl
  unfold State.beamEdge
  simp only [State.lane, lane]
  rw [if_pos taken, beamEdge_lane low href, if_pos rfl, takeHeld_setLane (h := ⟨otherBeam b, t⟩) hn]
  cases b <;> exact held

end

/-- Settles O43. -/
theorem inputEdgesBeginAndAbandonChanges : Obligations.InputEdgesBeginAndAbandonChanges := by
  unfold Obligations.InputEdgesBeginAndAbandonChanges
  intro s n l low level hn lane hlevel
  have edge {input : LaneInput} {t : State} (h : s.laneEdge n input low = t) :
      exec (.laneInputEdge n input level) s = .next t := by rw [exec_laneInputEdge hlevel, h]
  refine ⟨fun takes moves => edge ((laneEdge_taken (input := .brace) lane hn moves takes).trans ?_),
    fun b reference takes moves h => edge ((laneEdge_taken (input := .beam b) lane hn moves takes).trans ?_),
    fun takes => ⟨fun moves => edge (laneEdge_moves (input := .brace) lane hn moves takes),
      fun moves => edge (laneEdge_moves (input := .beam .s) lane hn moves takes),
      fun moves => edge (laneEdge_moves (input := .beam .i) lane hn moves takes)⟩,
    fun b t since takes held change moves back => ?_, fun same => edge (laneEdge_same (input := .brace) lane same),
    fun same => edge (laneEdge_same (input := .beam .s) lane same),
    fun same => edge (laneEdge_same (input := .beam .i) lane same), fun k input far => ?_⟩
  · simp only [State.inputEdge, State.lane, lane]
    rfl
  · rcases h with ⟨free, rfl⟩ | ⟨⟨t, held⟩, rfl⟩
    · have unheld : l.held.map Held.beam ≠ some b := by
        rcases free with none | ⟨t, held, _⟩
        · rw [none]
          exact fun h => nomatch h
        · rw [held]
          exact fun h => otherBeam_ne b (Option.some.inj h)
      refine beamEdge_moves lane (free.elim (fun none => .inr ?_) fun ⟨_, _, quiet⟩ => .inl quiet) (if_neg unheld)
      rw [none]
      exact fun h => nomatch h
    · refine beamEdge_moves lane (.inr ?_) (if_pos (by rw [held]; rfl))
      rw [held]
      exact fun h => ne_otherBeam b (Option.some.inj h)
  · have taken := edge ((laneEdge_taken (input := .beam b) lane hn moves takes).trans
      (beamEdge_abandons lane hn held change back))
    refine ⟨taken, fun gate => taken.trans (congrArg _ ?_)⟩
    rw [takeBeams_ineffective hn _ rfl]
    · cases b <;> rfl
    · cases b <;> exact gate
  · rw [exec_laneInputEdge hlevel, laneEdge_absent far]

/-! ## The brace, the flow window and scans (R110, R112, R113, R120 to R123) -/

section
variable (hn : n < 4) (lane : Four.get s.lanes n = l)
include hn lane

omit hn in
theorem takeBrace_plain (h : l.brace.level = false ∧ l.softGate = false ∨ l.brace.level = true ∧ l.gate = false) :
    s.takeBrace n = s.setLane n { l with brace := ⟨!l.brace.level, l.brace.pin, none⟩ } := by
  rcases h with ⟨level, soft⟩ | ⟨level, gate⟩
  · simp only [State.takeBrace, State.lane, lane, Debouncer.flip, level, soft]
    rfl
  · simp only [State.takeBrace, State.lane, lane, Debouncer.flip, level, gate]
    rfl

theorem takeBrace_opensGate (level : l.brace.level = false) (soft : l.softGate = true) :
    s.takeBrace n = s.setLane n { l with
      brace := ⟨true, l.brace.pin, none⟩
      gate := true
      counters := ⟨0, 0, 0, 0, 0⟩
      decoder := .clear
      mark := false
      settling := l.s.level || l.i.level
      flowCount := 0
      flowEnd := some (s.clock.ms + Four.get s.store.settings.flowWindow n * 1000)
      crowdingArmed := true
      armedIn := true
      armedOut := true
      openTime := ⟨s.clock.runSeconds, s.clock.shipTime⟩ } := by
  simp only [State.takeBrace, State.lane, lane, Debouncer.flip, level, soft, Bool.not_false, if_true]
  exact gateEffective_setLane hn s _

theorem takeBrace_losesGate (level : l.brace.level = true) (gate : l.gate = true) :
    s.takeBrace n = (s.setLane n { l with
      brace := ⟨false, l.brace.pin, none⟩
      gate := false
      decoder := .clear
      mark := false
      settling := false
      flowEnd := none
      hold := some ⟨l.counters, l.openTime.shipTime, s.clock.shipTime, .brace⟩ }).raise (.laneHeld n .brace) := by
  simp only [State.takeBrace, State.lane, lane, Debouncer.flip, level, gate, Bool.not_true, Bool.false_eq_true, if_false,
    if_true]
  exact gateLoss_setLane hn s _ .brace

omit hn in
theorem braceTaken_eq {since : Nat} (change : l.brace.since = some since) :
    braceTaken n s = some ((s.advanceTo (since + s.store.settings.debounce)).takeBrace n) := by
  simp only [braceTaken, State.lane, lane, change, Option.map_some, State.stableAt, advanceTo_max]

omit hn in
/-- The flow window closes with the comparison of the lane (R121). -/
theorem flowCloses_eq {e : Nat} (gate : l.gate = true) (flowEnd : l.flowEnd = some e) :
    flowCloses n s = some (((s.advanceTo e).crowding n).setLane n { ((s.advanceTo e).crowding n).lane n with
      flowCount := 0, flowEnd := some (e + Four.get s.store.settings.flowWindow n * 1000) }) := by
  simp only [flowCloses, State.lane, lane, gate, flowEnd]

omit hn in
theorem crowding_below (h : l.flowCount ≤ Four.get s.store.settings.flowLimit n) :
    s.crowding n = s.setLane n { l with crowdingArmed := true } := by
  simp only [State.crowding, State.lane, lane, if_neg (Nat.not_lt.mpr h)]

omit hn in
theorem crowding_unarmed (h : Four.get s.store.settings.flowLimit n < l.flowCount) (armed : l.crowdingArmed = false) :
    s.crowding n = s := by
  simp only [State.crowding, State.lane, lane, if_pos h, armed]
  rfl

omit hn in
theorem crowding_armed (h : Four.get s.store.settings.flowLimit n < l.flowCount) (armed : l.crowdingArmed = true) :
    s.crowding n = (s.setLane n { l with crowdingArmed := false }).raise (.crowding n l.flowCount) := by
  simp only [State.crowding, State.lane, lane, if_pos h, armed, if_true]

end

section
variable (lane : Four.get s.lanes n = l)
include lane

theorem countScan_inward : s.countScan n .inward = (s.setLane n { l with
    counters := { l.counters with scansIn := (l.counters.scansIn + 1) % 16777216 } }).tailgate n .inward := by
  simp only [State.countScan, State.lane, lane, bump, counterModulus]

theorem countScan_outward : s.countScan n .outward = (s.setLane n { l with
    counters := { l.counters with scansOut := (l.counters.scansOut + 1) % 16777216 } }).tailgate n .outward := by
  simp only [State.countScan, State.lane, lane, bump, counterModulus]

end

/-- Settles O45. -/
theorem braceFlowWindowAndTailgate : Obligations.BraceFlowWindowAndTailgate := by
  unfold Obligations.BraceFlowWindowAndTailgate
  intro s u n l hn lane takes
  refine ⟨fun since change hu => ?_, fun e m gate flowEnd hu hm => ?_, fun m d dir beams scans armed arm h hd low high => ?_⟩
  · have brace {t : State} (h : u.takeBrace n = t) : exec (.braceChangeTaken n) s = .next t :=
      happens_lane takes hn ((braceTaken_eq lane change).trans (by rw [← hu, h]))
    have lane : Four.get u.lanes n = l := by rw [hu]; exact lane
    have settings : u.store = s.store := by rw [hu]; rfl
    refine ⟨fun plain => brace (takeBrace_plain lane plain), fun level soft => brace ?_,
      fun level gate => brace (takeBrace_losesGate hn lane level gate)⟩
    rw [← settings]
    exact takeBrace_opensGate hn lane level soft
  · have closes {t : State} (h : u.crowding n = t) : exec (.flowWindowClose n) s = .next (t.setLane n { t.lane n with
        flowCount := 0, flowEnd := some (e + Four.get s.store.settings.flowWindow n * 1000) }) :=
      happens_lane takes hn ((flowCloses_eq lane gate flowEnd).trans (by rw [← hu, h]))
    have lane : Four.get u.lanes n = l := by rw [hu]; exact lane
    have settings : u.store = s.store := by rw [hu]; rfl
    subst hm
    rw [← settings] at closes ⊢
    refine ⟨fun below => ?_, fun above => ⟨fun unarmed => ?_, fun armed => ?_⟩⟩
    · rw [closes (crowding_below lane below), lane_setLane hn, setLane_setLane]
    · rw [closes (crowding_unarmed lane above unarmed), State.lane, lane]
    · rw [closes (crowding_armed lane above armed), lane_raise, lane_setLane hn, raise_setLane, setLane_setLane]
  · rcases h with ⟨rfl, rfl, rfl, rfl, rfl, harm⟩ | ⟨rfl, rfl, rfl, rfl, rfl, harm⟩
    · have x := difference_wraps rfl (Nat.mod_mod _ _) hd low high
      rw [countScan_inward lane, harm, harm]
      exact tailgate_cases hn s .inward x
    · have x := difference_wraps rfl (Nat.mod_mod _ _) hd low high
      rw [countScan_outward lane, harm, harm]
      exact tailgate_cases hn s .outward x

end Sys2Proof.Machine
end

section
/-! Stable beam changes: taken alone, taken together or held, and what the passage decoder makes of them (R110, R111,
R117 to R120, R123). -/

namespace Sys2Proof.Machine

variable {s u : State} {n : Nat} {l m : Lane} {b : Beam}

/-! ## A beam's debouncer among the fields of its lane -/

section
variable (l : Lane) (b : Beam) (d : Debouncer)

@[simp] theorem Lane.setBeam_held : (l.setBeam b d).held = l.held := by cases b <;> rfl
@[simp] theorem Lane.setBeam_alone : (l.setBeam b d).alone = l.alone := by cases b <;> rfl
@[simp] theorem Lane.setBeam_gate : (l.setBeam b d).gate = l.gate := by cases b <;> rfl
@[simp] theorem Lane.setBeam_decoder : (l.setBeam b d).decoder = l.decoder := by cases b <;> rfl
@[simp] theorem Lane.setBeam_mark : (l.setBeam b d).mark = l.mark := by cases b <;> rfl
@[simp] theorem Lane.setBeam_settling : (l.setBeam b d).settling = l.settling := by cases b <;> rfl
@[simp] theorem Lane.setBeam_counters : (l.setBeam b d).counters = l.counters := by cases b <;> rfl
@[simp] theorem Lane.setBeam_flowCount : (l.setBeam b d).flowCount = l.flowCount := by cases b <;> rfl
@[simp] theorem Lane.setBeam_armed (dir : Direction) : (l.setBeam b d).armed dir = l.armed dir := by
  cases b <;> rfl

@[simp] theorem Lane.beam_setBeam_other : (l.setBeam b d).beam (otherBeam b) = l.beam (otherBeam b) := by
  cases b <;> rfl

end

@[simp] theorem Lane.endChange_held (l : Lane) (b : Beam) : (l.endChange b).held = l.held :=
  l.setBeam_held b _

@[simp] theorem Lane.endChange_other (l : Lane) (b : Beam) :
    (l.endChange b).beam (otherBeam b) = l.beam (otherBeam b) := by cases b <;> rfl

theorem Lane.endChange_of_paired (h : l.alone ≠ some b) :
    l.endChange b = l.setBeam b { l.beam b with since := none } := by
  rw [Lane.endChange, Lane.forget, if_neg (by rw [Lane.setBeam_alone]; exact h)]

theorem otherBeam_otherBeam (b : Beam) : otherBeam (otherBeam b) = b := by cases b <;> rfl

theorem Lane.unpaired_eq {t since : Nat} (held : l.held = some ⟨otherBeam b, t⟩)
    (change : (l.beam b).since = some since) : l.unpaired = { l with alone := some b } := by
  simp only [Lane.unpaired, held, Option.bind_some, otherBeam_otherBeam, change, Option.isSome_some, if_true]

/-- An armed flag written as it stands. -/
theorem Lane.setArmed_kept {dir : Direction} {v : Bool} (h : l.armed dir = v) : l.setArmed dir v = l := by
  subst h
  cases dir <;> rfl

/-! ## The tables of R117 -/

theorem step_single_of_mem {d next : Decoder}
    (h : (d, b, next) ∈ ([(.clear, .s, .in1), (.clear, .i, .out1), (.in1, .s, .clear), (.in1, .i, .in2),
          (.in2, .s, .in3), (.in2, .i, .in1), (.in3, .s, .in2), (.spanX, .s, .in3), (.spanX, .i, .out3),
          (.out1, .i, .clear), (.out1, .s, .out2), (.out2, .i, .out3), (.out2, .s, .out1),
          (.out3, .i, .out2)] : List (Decoder × Beam × Decoder))) : d.step (.single b) = goes next := by
  have table : ∀ x ∈ ([(.clear, .s, .in1), (.clear, .i, .out1), (.in1, .s, .clear), (.in1, .i, .in2),
          (.in2, .s, .in3), (.in2, .i, .in1), (.in3, .s, .in2), (.spanX, .s, .in3), (.spanX, .i, .out3),
          (.out1, .i, .clear), (.out1, .s, .out2), (.out2, .i, .out3), (.out2, .s, .out1),
          (.out3, .i, .out2)] : List (Decoder × Beam × Decoder)), x.1.step (.single x.2.1) = goes x.2.2 := by decide
  exact table _ h

theorem step_double_of_mem {d next : Decoder}
    (h : (d, next) ∈ ([(.clear, .spanX), (.in1, .in3), (.in3, .in1), (.out1, .out3),
          (.out3, .out1)] : List (Decoder × Decoder))) : d.step .double = ⟨next, none, true⟩ ∧ next ≠ .clear := by
  have table : ∀ x ∈ ([(.clear, .spanX), (.in1, .in3), (.in3, .in1), (.out1, .out3),
          (.out3, .out1)] : List (Decoder × Decoder)), x.1.step .double = ⟨x.2, none, true⟩ ∧ x.2 ≠ .clear := by decide
  exact table _ h

theorem step_double_ends {d : Decoder} (h : d = .in2 ∨ d = .out2 ∨ d = .spanX) :
    d.step .double = ⟨.clear, some .ambiguous, false⟩ := by
  rcases h with rfl | rfl | rfl <;> rfl

/-! ## Passages counted -/

section
variable (hn : n < 4) {e : BeamEvent}
include hn

theorem decodeBeams_inbound (step : l.decoder.step e = ⟨.clear, some .inbound, false⟩) (mark : l.mark = false) :
    (s.setLane n l).decodeBeams n e = (s.setLane n { l with
      decoder := .clear
      counters := { l.counters with inbound := (l.counters.inbound + 1) % 16777216 }
      flowCount := min (l.flowCount + 1) 65535 }).tailgate n .inward := by
  have unmarked : { l with decoder := .clear, mark := false } = { l with decoder := .clear } := by rw [← mark]
  rw [decodeBeams_counts hn s step, if_neg (by rw [mark]; decide), unmarked]
  exact countPassage_inbound hn s

theorem decodeBeams_outbound (step : l.decoder.step e = ⟨.clear, some .outbound, false⟩) (mark : l.mark = false) :
    (s.setLane n l).decodeBeams n e = (s.setLane n { l with
      decoder := .clear
      counters := { l.counters with outbound := (l.counters.outbound + 1) % 16777216 }
      flowCount := min (l.flowCount + 1) 65535 }).tailgate n .outward := by
  have unmarked : { l with decoder := .clear, mark := false } = { l with decoder := .clear } := by rw [← mark]
  rw [decodeBeams_counts hn s step, if_neg (by rw [mark]; decide), unmarked]
  exact countPassage_outbound hn s

theorem decodeBeams_ambiguous {p : Passage} (step : l.decoder.step e = ⟨.clear, some p, false⟩)
    (h : l.mark = true ∨ p = .ambiguous) : (s.setLane n l).decodeBeams n e = s.setLane n { l with
      decoder := .clear
      mark := false
      counters := { l.counters with ambiguous := (l.counters.ambiguous + 1) % 16777216 }
      flowCount := min (l.flowCount + 1) 65535 } := by
  have counts : (if l.mark then Passage.ambiguous else p) = .ambiguous := by
    rcases h with mark | rfl
    · exact if_pos mark
    · exact ite_self _
  rw [decodeBeams_counts hn s step, counts]
  exact countPassage_ambiguous hn s

end

/-! ## When a stable change is taken and when it is held -/

theorem pairable_setLane (hn : n < 4) {since : Nat} (change : (l.beam b).since = some since) :
    (s.setLane n l).pairable n b =
      (decide (since + s.store.settings.debounce ≤ s.clock.ms) && decide (l.alone ≠ some b)) := by
  simp only [State.pairable, lane_setLane hn, change, State.setLane_store, State.setLane_clock]
  rfl

section
variable {since : Nat} (hn : n < 4) (lane : Four.get s.lanes n = l) (change : (l.beam b).since = some since)
  (hu : u = s.advanceTo (since + s.store.settings.debounce))
include lane hu

theorem lane_later : u.lane n = l := by
  rw [hu]
  exact lane

theorem beamStable_quiet (h : ∀ h, l.held = some h →
      h.beam = otherBeam b ∧ u.clock.ms ≤ h.since + s.store.settings.debounce) :
    s.beamStable n b since = u := by
  have reached : s.advanceTo (s.stableAt since) = u := by rw [State.stableAt, advanceTo_max, hu]
  have time : s.stableAt since = u.clock.ms := by rw [State.stableAt, hu, advanceTo_ms]
  have quiet : u.heldOverdue n b u.clock.ms = false := by
    rw [State.heldOverdue, lane_later lane hu]
    cases held : l.held with
    | none => rfl
    | some x =>
      obtain ⟨other, fresh⟩ := h x held
      have fresh : ¬ x.since + u.store.settings.debounce < u.clock.ms := by
        rw [show u.store = s.store by rw [hu]; rfl]
        exact Nat.not_lt.mpr fresh
      simp only [other, decide_eq_false (otherBeam_ne b), decide_eq_false fresh, Bool.or_self]
  simp only [State.beamStable, reached]
  rw [time, quiet]
  rfl

include hn change

omit hn in
theorem beamTaken_alone (h : l.held = none ∧ (l.beam (otherBeam b)).since = none ∨
      l.alone = some b ∧ ∀ h, l.held = some h →
        h.beam = otherBeam b ∧ u.clock.ms ≤ h.since + s.store.settings.debounce) :
    beamTaken n b s = some ((u.setLane n (l.endChange b)).takeBeams n (.single b)) := by
  have stable : s.beamStable n b since = u := by
    refine beamStable_quiet lane hu fun x held => ?_
    rcases h with ⟨none, _⟩ | ⟨_, fresh⟩
    · rw [none] at held
      cases held
    · exact fresh x held
  simp only [beamTaken, State.lane, lane, change, Option.bind_some, stable]
  rw [show u.lanes.get n = l from lane_later lane hu]
  split
  · rfl
  next paired =>
    obtain ⟨held, quiet⟩ := h.resolve_right fun h => paired h.1
    rw [Lane.endChange_held, held, if_neg (by exact fun h => nomatch h), Lane.endChange_other, if_pos quiet]

variable (paired : l.alone ≠ some b)
include paired

omit hn in
theorem beamTaken_withHeld {t : Nat} (held : l.held = some ⟨otherBeam b, t⟩)
    (fresh : u.clock.ms ≤ t + s.store.settings.debounce) : beamTaken n b s = some
      ((u.setLane n { l.setBeam b { l.beam b with since := none } with held := none }).takeBeams n .double) := by
  have stable : s.beamStable n b since = u := by
    refine beamStable_quiet lane hu fun x h => ?_
    rw [held] at h
    cases h
    exact ⟨rfl, fresh⟩
  simp only [beamTaken, State.lane, lane, change, Option.bind_some, stable]
  rw [show u.lanes.get n = l from lane_later lane hu, if_neg paired, Lane.endChange_of_paired paired, Lane.setBeam_held,
    held, Option.map_some, if_pos rfl, setLane_setLane]

omit hn paired in
theorem beamHeld_withHeld {t : Nat} (held : l.held = some ⟨otherBeam b, t⟩)
    (fresh : u.clock.ms ≤ t + s.store.settings.debounce) : beamHeld n b s = none := by
  have stable : s.beamStable n b since = u := by
    refine beamStable_quiet lane hu fun x h => ?_
    rw [held] at h
    cases h
    exact ⟨rfl, fresh⟩
  simp only [beamHeld, State.lane, lane, change, Option.bind_some, stable]
  rw [show u.lanes.get n = l from lane_later lane hu, if_neg]
  rintro ⟨_, none, _⟩
  rw [Lane.endChange_held, held] at none
  cases none

variable (held : l.held = none) {other : Nat} (under : (l.beam (otherBeam b)).since = some other)
include held under

omit lane change held in
/-- The other beam's change may be taken with this one's when both are stable and it is not to be taken by itself. -/
theorem pairable_other : (u.setLane n (l.endChange b)).pairable n (otherBeam b) =
    (decide (other + s.store.settings.debounce ≤ u.clock.ms) && decide (l.alone ≠ some (otherBeam b))) := by
  rw [pairable_setLane hn ((congrArg Debouncer.since (l.endChange_other b)).trans under),
    Lane.endChange_of_paired paired, Lane.setBeam_alone, show u.store = s.store by rw [hu]; rfl]

omit hn change paired under in
theorem beamStable_unheld : s.beamStable n b since = u := by
  refine beamStable_quiet lane hu fun x h => ?_
  rw [held] at h
  cases h

theorem beamTaken_paired (stable : other + s.store.settings.debounce ≤ u.clock.ms)
    (free : l.alone ≠ some (otherBeam b)) : beamTaken n b s = some
      ((u.setLane n ((l.setBeam b { l.beam b with since := none }).setBeam (otherBeam b)
        { l.beam (otherBeam b) with since := none })).takeBeams n .double) := by
  have pairs := pairable_other hn hu paired under
  rw [decide_eq_true stable, decide_eq_true free] at pairs
  have ended : (l.setBeam b { l.beam b with since := none }).endChange (otherBeam b) =
      (l.setBeam b { l.beam b with since := none }).setBeam (otherBeam b)
        { l.beam (otherBeam b) with since := none } := by
    rw [Lane.endChange_of_paired (by rw [Lane.setBeam_alone]; exact free), Lane.beam_setBeam_other]
  simp only [beamTaken, State.lane, lane, change, Option.bind_some, beamStable_unheld lane hu held]
  rw [show u.lanes.get n = l from lane_later lane hu, if_neg paired, Lane.endChange_held, held,
    if_neg (by exact fun h => nomatch h), Lane.endChange_other, under, if_neg (by exact fun h => nomatch h), pairs,
    Bool.and_self, if_pos rfl, setLane_setLane, Lane.endChange_of_paired paired, ended]

theorem beamHeld_paired (stable : other + s.store.settings.debounce ≤ u.clock.ms)
    (free : l.alone ≠ some (otherBeam b)) : beamHeld n b s = none := by
  have pairs := pairable_other hn hu paired under
  rw [decide_eq_true stable, decide_eq_true free] at pairs
  simp only [beamHeld, State.lane, lane, change, Option.bind_some, beamStable_unheld lane hu held]
  rw [show u.lanes.get n = l from lane_later lane hu, pairs, if_neg (by rintro ⟨_, _, _, h⟩; cases h)]

variable (waits : u.clock.ms < other + s.store.settings.debounce ∨ l.alone = some (otherBeam b))
include waits

omit lane change held in
theorem unpairable : (u.setLane n (l.endChange b)).pairable n (otherBeam b) = false := by
  rw [pairable_other hn hu paired under, Bool.and_eq_false_iff, decide_eq_false_iff_not,
    decide_eq_false_iff_not]
  exact waits.imp Nat.not_le.mpr not_not_intro

theorem beamTaken_waits : beamTaken n b s = none := by
  have alone := unpairable hn hu paired under waits
  simp only [beamTaken, State.lane, lane, change, Option.bind_some, beamStable_unheld lane hu held]
  rw [show u.lanes.get n = l from lane_later lane hu, if_neg paired, Lane.endChange_held, held,
    if_neg (by exact fun h => nomatch h), Lane.endChange_other, under, if_neg (by exact fun h => nomatch h), alone]
  rfl

theorem beamHeld_waits : beamHeld n b s = some (u.setLane n { l.setBeam b { l.beam b with since := none } with
    held := some ⟨b, u.clock.ms⟩ }) := by
  have alone := unpairable hn hu paired under waits
  simp only [beamHeld, State.lane, lane, change, Option.bind_some, beamStable_unheld lane hu held]
  rw [show u.lanes.get n = l from lane_later lane hu,
    if_pos ⟨paired, (l.endChange_held b).trans held, by rw [Lane.endChange_other, under]; exact ⟨fun h => (nomatch h), alone⟩⟩,
    setLane_setLane, Lane.endChange_of_paired paired]
  rfl

end

section
variable {since : Nat} (hn : n < 4) (lane : Four.get s.lanes n = l) (change : (l.beam b).since = some since)
  (hu : u = s.advanceTo (since + s.store.settings.debounce))
include hn lane change hu

omit hn in
/-- No change of the other beam is under way, or this one's is to be taken by itself. -/
theorem beamHeld_alone (held : l.held = none) (h : (l.beam (otherBeam b)).since = none ∨ l.alone = some b) :
    beamHeld n b s = none := by
  have stable : s.beamStable n b since = u := by
    refine beamStable_quiet lane hu fun x h => ?_
    rw [held] at h
    cases h
  simp only [beamHeld, State.lane, lane, change, Option.bind_some, stable]
  rw [show u.lanes.get n = l from lane_later lane hu, Lane.endChange_other, if_neg]
  rintro ⟨paired, _, under, _⟩
  exact h.elim under paired

/-- The held change is overdue: both changes are taken, each alone. -/
theorem beamTaken_overdue {t : Nat} (held : l.held = some ⟨otherBeam b, t⟩)
    (late : t + s.store.settings.debounce < u.clock.ms) (gate : l.gate = false) :
    beamTaken n b s = some (u.setLane n
      { (l.setBeam b { l.beam b with since := none, level := !(l.beam b).level }).setBeam (otherBeam b)
          { l.beam (otherBeam b) with level := !(l.beam (otherBeam b)).level } with
        held := none
        alone := none }) := by
  have reached : s.advanceTo (s.stableAt since) = u := by rw [State.stableAt, advanceTo_max, hu]
  have time : s.stableAt since = u.clock.ms := by rw [State.stableAt, hu, advanceTo_ms]
  have later := lane_later lane hu
  have overdue : u.heldOverdue n b u.clock.ms = true := by
    simp only [State.heldOverdue, later, held, show u.store = s.store by rw [hu]; rfl, decide_eq_true late, Bool.or_true]
  have expired : s.beamStable n b since =
      u.setLane n ({ l with alone := some b, held := none }.moveLevels (.single (otherBeam b))) := by
    simp only [State.beamStable, reached]
    rw [time, overdue, if_pos rfl, State.expireHeld, later, Lane.unpaired_eq held change,
      takeHeld_setLane (h := ⟨otherBeam b, t⟩) hn u (by exact held)]
    exact takeBeams_ineffective hn u rfl ((Lane.moveLevels_gate _ _).trans gate)
  simp only [beamTaken, State.lane, lane, change, Option.bind_some, expired]
  rw [show ∀ x, (u.setLane n x).lanes.get n = x from lane_setLane hn u, if_pos (by cases b <;> rfl), setLane_setLane,
    takeBeams_ineffective hn u rfl (by cases b <;> exact gate)]
  cases b <;> rfl

end

theorem pairingExpires_eq (hn : n < 4) (lane : Four.get s.lanes n = l) {t since : Nat}
    (held : l.held = some ⟨otherBeam b, t⟩) (change : (l.beam b).since = some since) :
    pairingExpires n s = some (((s.advanceTo (t + s.store.settings.debounce)).setLane n { l with
      held := none
      alone := some b }).takeBeams n (.single (otherBeam b))) := by
  have later : (s.advanceTo (t + s.store.settings.debounce)).lane n = l := lane
  simp only [pairingExpires, State.lane, lane, held, Option.map_some, State.expireHeld]
  rw [show (s.advanceTo (t + s.store.settings.debounce)).lanes.get n = l from later, Lane.unpaired_eq held change]
  exact congrArg some (takeHeld_setLane hn _ (l := { l with alone := some b }) held)

/-- The end of a passage, whose direction's comparison is evaluated on the lane as counted. -/
theorem counted_cases (hn : n < 4) (u : State) {dir : Direction} {counted : Bool → Lane} {d : Int} {armed : Bool}
    (lanes : ∀ v, counted v = l.setArmed dir v) (difference : l.counters.difference dir = d)
    (harmed : armed = l.armed dir) :
    (d.natAbs ≤ u.store.settings.tailgateTolerance →
      (u.setLane n l).tailgate n dir = u.setLane n (counted true)) ∧
    (u.store.settings.tailgateTolerance < d.natAbs →
      (armed = false → (u.setLane n l).tailgate n dir = u.setLane n (counted false)) ∧
      (armed = true → (u.setLane n l).tailgate n dir = (u.setLane n (counted false)).raise (.tailgate n dir d))) := by
  subst harmed
  obtain ⟨within, beyond⟩ := tailgate_cases hn u dir difference
  refine ⟨fun h => by rw [within h, lanes], fun h => ⟨fun unarmed => ?_, fun armed => by rw [(beyond h).2 armed, lanes]⟩⟩
  rw [(beyond h).1 unarmed, lanes, Lane.setArmed_kept unarmed]

/-- Settles O44. -/
theorem beamChangesAreTakenAloneOrHeld : Obligations.BeamChangesAreTakenAloneOrHeld := by
  unfold Obligations.BeamChangesAreTakenAloneOrHeld
  intro s u n since b l takes hn lane change hu
  have store : u.store = s.store := by rw [hu]; rfl
  have happened {t : State} (h : beamTaken n b s = some t) : exec (.beamChangeTaken n b) s = .next t :=
    happens_lane takes hn h
  refine ⟨fun m h hm => ?_, fun m paired h => ?_, fun other held paired under waits => ?_, fun held h => ?_,
    fun t held => ⟨fun late gate => ?_, fun v hv => ?_⟩⟩
  · have taken := happened (beamTaken_alone lane change hu h)
    have moved : (l.endChange b).moveLevels (.single b) = m := by
      rw [hm]
      cases b <;> rfl
    have gates : m.gate = l.gate := by simp [hm]
    have settles : m.settling = l.settling := by simp [hm]
    have decodes : m.decoder = l.decoder := by simp [hm]
    have marks : m.mark = l.mark := by simp [hm]
    have counts : m.counters = l.counters := by simp [hm]
    have flows : m.flowCount = l.flowCount := by simp [hm]
    have arms (dir : Direction) : m.armed dir = l.armed dir := by
      rw [hm]
      exact l.setBeam_armed b _ dir
    have effective (gate : l.gate = true) (settled : l.settling = false) :
        exec (.beamChangeTaken n b) s = .next ((u.setLane n m).decodeBeams n (.single b)) := by
      rw [taken, takeBeams_effective hn u moved (gates.trans gate) (settles.trans settled)]
    refine ⟨fun gate => ?_, fun gate settling => ?_, fun next gate settled step => ?_,
      fun d dir beams scans armed counted gate settled mark h hd low high => ?_, fun gate settled mark ends => ?_⟩
    · rw [taken, takeBeams_ineffective hn u moved (gates.trans gate)]
    · rw [taken, takeBeams_settling hn u moved (gates.trans gate) (settles.trans settling)]
    · rw [effective gate settled, decodeBeams_goes hn u ((congrArg (Decoder.step · _) decodes).trans (step_single_of_mem step)), marks]
    · rw [← store]
      rcases h with ⟨rfl, decoder, rfl, rfl, rfl, harmed, hcounted⟩ | ⟨rfl, decoder, rfl, rfl, rfl, harmed, hcounted⟩
      · rw [effective gate settled, decodeBeams_inbound hn (by rw [decodes, decoder]; rfl) (marks.trans mark), counts,
          flows]
        have cases := counted_cases (l := { m with
            decoder := .clear
            counters := { l.counters with inbound := (l.counters.inbound + 1) % 16777216 }
            flowCount := min (l.flowCount + 1) 65535 }) hn u (dir := .inward) hcounted
          (difference_wraps (Nat.mod_mod _ _) rfl hd low high) (harmed.trans (arms .inward).symm)
        exact ⟨fun h => congrArg _ (cases.1 h), fun h => ⟨fun a => congrArg _ ((cases.2 h).1 a),
          fun a => congrArg _ ((cases.2 h).2 a)⟩⟩
      · rw [effective gate settled, decodeBeams_outbound hn (by rw [decodes, decoder]; rfl) (marks.trans mark), counts,
          flows]
        have cases := counted_cases (l := { m with
            decoder := .clear
            counters := { l.counters with outbound := (l.counters.outbound + 1) % 16777216 }
            flowCount := min (l.flowCount + 1) 65535 }) hn u (dir := .outward) hcounted
          (difference_wraps (Nat.mod_mod _ _) rfl hd low high) (harmed.trans (arms .outward).symm)
        exact ⟨fun h => congrArg _ (cases.1 h), fun h => ⟨fun a => congrArg _ ((cases.2 h).1 a),
          fun a => congrArg _ ((cases.2 h).2 a)⟩⟩
    · have step : ∃ p, m.decoder.step (.single b) = ⟨.clear, some p, false⟩ := by
        rw [decodes]
        rcases ends with ⟨rfl, out⟩ | ⟨rfl, inn⟩
        · exact ⟨.outbound, by rw [out]; rfl⟩
        · exact ⟨.inbound, by rw [inn]; rfl⟩
      obtain ⟨p, step⟩ := step
      rw [effective gate settled, decodeBeams_ambiguous hn step (.inl (marks.trans mark)), counts, flows]
  · have double : ∃ x : Lane, x.moveLevels .double = m ∧ beamTaken n b s = some ((u.setLane n x).takeBeams n .double) ∧
        beamHeld n b s = none := by
      rcases h with ⟨t, held, fresh, hm⟩ | ⟨other, held, under, stable, free, hm⟩
      · refine ⟨_, ?_, beamTaken_withHeld lane change hu paired held fresh,
          beamHeld_withHeld lane change hu held fresh⟩
        rw [hm]
        cases b <;> rfl
      · refine ⟨_, ?_, beamTaken_paired hn lane change hu paired held under stable free,
          beamHeld_paired hn lane change hu paired held under stable free⟩
        rw [hm]
        cases b <;> rfl
    have same : m.gate = l.gate ∧ m.settling = l.settling ∧ m.decoder = l.decoder ∧ m.counters = l.counters ∧
        m.flowCount = l.flowCount := by
      rcases h with ⟨t, held, fresh, hm⟩ | ⟨other, held, under, stable, free, hm⟩ <;> simp [hm]
    obtain ⟨gates, settles, decodes, counts, flows⟩ := same
    obtain ⟨x, moved, taken, notHeld⟩ := double
    have taken := happened taken
    have effective (gate : l.gate = true) (settled : l.settling = false) :
        exec (.beamChangeTaken n b) s = .next ((u.setLane n m).decodeBeams n .double) := by
      rw [taken, takeBeams_effective hn u moved (gates.trans gate) (settles.trans settled)]
    refine ⟨happens_lane_nothing hn notHeld, fun gate => ?_, fun gate settling => ?_, fun next gate settled step => ?_,
      fun gate settled ends => ?_⟩
    · rw [taken, takeBeams_ineffective hn u moved (gates.trans gate)]
    · rw [taken, takeBeams_settling hn u moved (gates.trans gate) (settles.trans settling)]
    · obtain ⟨step, spans⟩ := step_double_of_mem step
      rw [effective gate settled, decodeBeams_marks hn u ((congrArg (Decoder.step · _) decodes).trans step) spans]
    · have step := (congrArg (Decoder.step · .double) decodes).trans (step_double_ends ends)
      rw [effective gate settled, decodeBeams_ambiguous hn step (.inr rfl), counts, flows]
  · exact ⟨happens_lane_nothing hn (beamTaken_waits hn lane change hu paired held under waits),
      happens_lane takes hn (beamHeld_waits hn lane change hu paired held under waits)⟩
  · exact happens_lane_nothing hn (beamHeld_alone lane change hu held h)
  · exact happened (beamTaken_overdue hn lane change hu held late gate)
  · subst hv
    have taken := happens_lane (event := pairingExpires n) takes hn (pairingExpires_eq hn lane held change)
    refine ⟨taken, fun gate => taken.trans (congrArg _ ?_)⟩
    rw [takeBeams_ineffective hn _ rfl]
    · cases b <;> rfl
    · cases b <;> exact gate

end Sys2Proof.Machine
end

section
/-! Presence: the presence move, the tabs of a departing card, GANGWAY.CARD and PRESENCE.SET (R97, R131 to R138). -/

namespace Sys2Proof.Machine

variable {s v : State}

/-! ## The tabs of a departing card (R97) -/

/-- One step of the settlement is determined on an OPEN tab. -/
theorem departsBy_opened {one : Departed → Nat → Departed} (departs : departsBy one) {d : Departed} {n generation deadline : Nat}
    {t : Tab} (opened : d.state.tabSlot n = ⟨generation, .opened t deadline⟩) : one d n = d.tab n := by
  obtain ⟨settles, closes⟩ := departs d n generation deadline t opened
  obtain ⟨settles', closes'⟩ := departed_tab_departs d n generation deadline t opened
  by_cases can : t.sums.total = 0 ∨ d.state.engine.postings.length < 1024
  · rw [settles can, settles' can]
  · obtain ⟨owes, full⟩ := not_or.mp can
    rw [closes owes (Nat.not_lt.mp full), closes' owes (Nat.not_lt.mp full)]

theorem forceSettle_tabSlot_other (s : State) {slot k : Nat} (t : Tab) (r : CloseReason) (h : k ≠ slot) :
    (s.forceSettle slot t r).tabSlot k = s.tabSlot k := by
  unfold State.forceSettle
  split
  · exact settle_tabSlot_other s t r h
  · exact State.tabSlot_setTabSlot_other s _ h

theorem departed_tabSlot_other (d : Departed) {slot k : Nat} (h : k ≠ slot) :
    (d.tab slot).state.tabSlot k = d.state.tabSlot k := by
  unfold Departed.tab
  split
  · split <;> exact forceSettle_tabSlot_other _ _ _ h
  · rfl

/-- The settlement of distinct OPEN tabs is determined. -/
theorem departsBy_fold {one : Departed → Nat → Departed} (departs : departsBy one) : ∀ (slots : List Nat) (d : Departed),
    slots.Nodup → (∀ n ∈ slots, ∃ t deadline, (d.state.tabSlot n).state = .opened t deadline) →
    slots.foldl one d = slots.foldl Departed.tab d
  | [], _, _, _ => rfl
  | n :: slots, d, distinct, opened => by
    obtain ⟨fresh, distinct⟩ := List.nodup_cons.mp distinct
    obtain ⟨t, deadline, here⟩ := opened n (List.mem_cons_self ..)
    have named : d.state.tabSlot n = ⟨(d.state.tabSlot n).generation, .opened t deadline⟩ := by rw [← here]
    rw [List.foldl_cons, List.foldl_cons, departsBy_opened departs named]
    refine departsBy_fold departs slots _ distinct fun k hk => ?_
    have other : k ≠ n := fun e => fresh (e ▸ hk)
    rw [departed_tabSlot_other d other]
    exact opened k (List.mem_cons_of_mem _ hk)

theorem openTabsOf_nodup (h : s.Canonical) (cardSlot : Nat) : (s.openTabsOf cardSlot).Nodup := by
  refine (List.Sublist.map Prod.fst List.filter_sublist).nodup ?_
  exact List.pairwise_map.mpr (((Table.rising_iff _).mp h.tabsRising).imp fun lt => Nat.ne_of_lt lt)

theorem opened_of_mem_openTabsOf (h : s.Canonical) {cardSlot n : Nat} (hn : n ∈ s.openTabsOf cardSlot) :
    ∃ t deadline, (s.tabSlot n).state = .opened t deadline := by
  obtain ⟨e, he, rfl⟩ := List.mem_map.mp hn
  obtain ⟨mem, names⟩ := List.mem_filter.mp he
  rw [State.tabSlot_of_mem h mem]
  split at names
  next t deadline opened => exact ⟨t, deadline, opened⟩
  next => cases names

/-- The settlement of a departing card's tabs, by any step that settles as R97 says. -/
theorem settleDeparted_eq (h : s.Canonical) {one : Departed → Nat → Departed} (departs : departsBy one) {cardSlot : Nat}
    {slots : List Nat} (hslots : s.openSlots cardSlot slots) (same : v.engine = s.engine) :
    v.settleDeparted cardSlot = slots.foldl one ⟨v, 0, 0⟩ := by
  have listed : slots = s.openTabsOf cardSlot := hslots
  have tabs (n : Nat) : v.tabSlot n = s.tabSlot n := by rw [State.tabSlot, same, State.tabSlot]
  have listed' : v.openTabsOf cardSlot = slots := by rw [State.openTabsOf, same, listed, State.openTabsOf]
  rw [State.settleDeparted, listed']
  refine (departsBy_fold departs slots _ (listed ▸ openTabsOf_nodup h cardSlot) fun n hn => ?_).symm
  rw [tabs]
  exact opened_of_mem_openTabsOf h (listed ▸ hn)

theorem settleDeparted_cards (s : State) (slot : Nat) : (s.settleDeparted slot).state.store.cards = s.store.cards := by
  have only := settleDeparted_moneyOnly s slot
  unfold MoneyOnly at only
  rw [only]

theorem settleDeparted_clock (s : State) (slot : Nat) : (s.settleDeparted slot).state.clock = s.clock := by
  have only := settleDeparted_moneyOnly s slot
  unfold MoneyOnly at only
  rw [only]

/-! ## The presence move (R131) -/

/-- Two presences stand in the same column only where they are ABOARD and UNVERIFIED. -/
theorem column_eq_iff {p q : Presence} (moves : p ≠ q) (settable : p ≠ .unverified) :
    q.column = p.column ↔ q = .unverified ∧ p = .aboard := by
  cases p <;> cases q <;> first | contradiction | decide

section
variable {slot : Nat} {c : Card} {p : Presence} {lane : Option Nat}

theorem relocate_eq (moves : p ≠ c.presence) (settable : p ≠ .unverified) : s.relocate slot c p lane = { s with
    store := { s.store with cards := Table.put s.store.cards slot { c with
      presence := p
      departure := if p = Presence.ashore then some ⟨s.clock.runSeconds, s.clock.shipTime, lane⟩ else none } }
    tracker := ⟨if c.presence = Presence.unverified ∧ p = Presence.aboard then s.tracker.counts
        else (s.tracker.counts.uncount c.config.cls c.presence).count c.config.cls p,
      if p = Presence.ashore then s.tracker.ashore ++ [slot]
      else if c.presence = Presence.ashore then s.tracker.ashore.filter fun x => x != slot
      else s.tracker.ashore⟩ } := by
  have counts : (if c.presence.column = p.column then s.tracker.counts
      else (s.tracker.counts.uncount c.config.cls c.presence).count c.config.cls p) =
      if c.presence = Presence.unverified ∧ p = Presence.aboard then s.tracker.counts
        else (s.tracker.counts.uncount c.config.cls c.presence).count c.config.cls p :=
    if_congr (column_eq_iff moves settable) rfl rfl
  have ashore : (if p = Presence.ashore then
        (if c.presence = Presence.ashore then s.tracker.ashore.filter fun x => x != slot else s.tracker.ashore) ++ [slot]
      else if c.presence = Presence.ashore then s.tracker.ashore.filter fun x => x != slot else s.tracker.ashore) =
      if p = Presence.ashore then s.tracker.ashore ++ [slot]
      else if c.presence = Presence.ashore then s.tracker.ashore.filter fun x => x != slot else s.tracker.ashore := by
    split
    next leaves => rw [if_neg fun e => moves (leaves.trans e.symm)]
    next => rfl
  simp only [State.relocate, State.setCard, counts, ashore]

theorem movePresence_same (h : c.presence = p) : s.movePresence slot c p lane = ⟨s, 0, 0⟩ := if_pos h

theorem movePresence_leaves (off : c.presence.aboardShip = true) (new : p.aboardShip = false) :
    s.movePresence slot c p lane = (s.relocate slot c p lane).settleDeparted slot := by
  have moves : c.presence ≠ p := fun e => by rw [e, new] at off; cases off
  simp only [State.movePresence, if_neg moves, off, new]
  rfl

theorem movePresence_plain (moves : c.presence ≠ p) (h : c.presence.aboardShip = false ∨ p.aboardShip = true) :
    s.movePresence slot c p lane = ⟨s.relocate slot c p lane, 0, 0⟩ := by
  have stays : (c.presence.aboardShip && !p.aboardShip) = false := by rcases h with h | h <;> simp [h]
  simp only [State.movePresence, if_neg moves, stays]
  rfl

end

theorem aboardShip_of {p : Presence} (h : p = .aboard ∨ p = .unverified) : p.aboardShip = true := by
  rcases h with rfl | rfl <;> rfl

theorem not_aboardShip_of {p : Presence} (h : p = .expected ∨ p = .ashore ∨ p = .missed) : p.aboardShip = false := by
  rcases h with rfl | rfl | rfl <;> rfl

theorem cardView_of_find {slot : Nat} {x : Card} (h : Table.find s.store.cards slot = some x) (c : Card) :
    s.cardView slot c = ⟨slot, x.config.cls, x.presence⟩ := by
  simp only [State.cardView, h]

/-! ## PRESENCE.SET (R138) -/

theorem settablePresence_none {code : Nat} (h : code = 3 ∨ 4 < code) : settablePresence code = none := by
  rcases h with rfl | far
  · rfl
  · obtain ⟨k, rfl⟩ := Nat.exists_eq_add_of_lt far
    rw [show 4 + k + 1 = k + 5 by omega]
    rfl

theorem settablePresence_of_mem {code : Nat} {p : Presence}
    (h : (code, p) ∈ ([(0, .expected), (1, .aboard), (2, .ashore), (4, .missed)] : List (Nat × Presence))) :
    settablePresence code = some p ∧ p ≠ .unverified := by
  have table : ∀ x ∈ ([(0, .expected), (1, .aboard), (2, .ashore), (4, .missed)] : List (Nat × Presence)),
    settablePresence x.1 = some x.2 ∧ x.2 ≠ .unverified := by decide
  exact table _ h

section
variable {uid code : Nat}

theorem blockPresenceSet_range (h : settablePresence code = none) :
    blockPresenceSet ⟨uid, code⟩ s = (s, .refused .range) := by
  simp only [blockPresenceSet, h]

variable {p : Presence} (settable : settablePresence code = some p)
include settable

theorem blockPresenceSet_missing (h : s.cardByUid uid = none) :
    blockPresenceSet ⟨uid, code⟩ s = (s, .refused .notFound) := by
  simp only [blockPresenceSet, settable, h]

theorem blockPresenceSet_moves {slot : Nat} {c : Card} {d : Departed} (h : s.cardByUid uid = some (slot, c))
    (moves : s.movePresence slot c p none = d) :
    blockPresenceSet ⟨uid, code⟩ s = (d.state, .presenceSet slot c.presence p d.settled d.waiting) := by
  subst moves
  simp only [blockPresenceSet, settable, h]

end

theorem canonical_of_atWork (h : s.atWork = true) : s.Canonical := s.tablesLaw_iff.mp (s.atWork_iff.mp h).2.2

/-- Settles O47. -/
theorem presenceIsSet : Obligations.PresenceIsSet := by
  unfold Obligations.PresenceIsSet
  intro s tag uid code work
  have sets {t : State} {answer : Answer} (h : blockPresenceSet ⟨uid, code⟩ s = (t, answer)) :
      exec (.presenceSet tag (.fit ⟨uid, code⟩)) s = .next (t.replied 0xD8#8 tag answer) :=
    serve_block (ready_of_atWork work) blockPresenceSet_blind (whenLoaded_takes (loaded_of_atWork work)) h _
  refine ⟨fun bad => sets (blockPresenceSet_range (settablePresence_none bad)), fun p hp => ?_⟩
  obtain ⟨settable, known⟩ := settablePresence_of_mem hp
  refine ⟨fun none => sets (blockPresenceSet_missing settable none), fun slot c found => ⟨fun same => ?_,
    fun v moves hv => ?_⟩⟩
  · subst same
    exact sets (blockPresenceSet_moves settable found (movePresence_same rfl))
  · have relocated : s.relocate slot c p none = v := (relocate_eq moves known).trans hv.symm
    refine ⟨fun stays => ?_, fun one slots d leaves off departs hslots hd => ?_⟩
    · have plain : c.presence.aboardShip = false ∨ p.aboardShip = true :=
        stays.symm.imp not_aboardShip_of fun aboard => aboardShip_of (.inl aboard)
      have moved := movePresence_plain (s := s) (slot := slot) (lane := none) moves.symm plain
      rw [relocated] at moved
      exact sets (blockPresenceSet_moves settable found moved)
    · have away : p.aboardShip = false := by cases p <;> first | rfl | contradiction
      have moved := movePresence_leaves (s := s) (slot := slot) (lane := none) (aboardShip_of off) away
      have same : v.engine = s.engine := by rw [hv]
      rw [relocated, settleDeparted_eq (canonical_of_atWork work) departs hslots same, ← hd] at moved
      exact sets (blockPresenceSet_moves settable found moved)

/-! ## GANGWAY.CARD (R132 to R137) -/

section
variable {n uid issue : Nat}

theorem blockGangwayCard_range (h : 3 < n ∨ 15 < issue) : blockGangwayCard ⟨n, uid, issue⟩ s = (s, .refused .range) :=
  if_pos h

variable (hn : n ≤ 3) (hissue : issue ≤ 15)
include hn hissue

theorem blockGangwayCard_shut (h : (Four.get s.lanes n).gate = false) :
    blockGangwayCard ⟨n, uid, issue⟩ s = (s, .scanRefused .laneShut none) := by
  unfold blockGangwayCard
  rw [if_neg (show ¬ (3 < n ∨ 15 < issue) by omega), if_pos (by rw [State.lane, h]; rfl)]

variable (gate : (Four.get s.lanes n).gate = true)
include gate

theorem blockGangwayCard_unknown (h : s.present uid issue = .unknown) :
    blockGangwayCard ⟨n, uid, issue⟩ s = (s, .scanRefused .unknownCard none) := by
  unfold blockGangwayCard
  rw [if_neg (show ¬ (3 < n ∨ 15 < issue) by omega), if_neg (by rw [State.lane, gate]; decide), h]

theorem blockGangwayCard_superseded (h : s.present uid issue = .superseded) : blockGangwayCard ⟨n, uid, issue⟩ s =
    (s.raise (.supersededCard uid issue), .scanRefused .superseded none) := by
  unfold blockGangwayCard
  rw [if_neg (show ¬ (3 < n ∨ 15 < issue) by omega), if_neg (by rw [State.lane, gate]; decide), h]

theorem blockGangwayCard_current {slot : Nat} {c : Card} (h : s.present uid issue = .current slot c) :
    blockGangwayCard ⟨n, uid, issue⟩ s = s.scan n slot c := by
  unfold blockGangwayCard
  rw [if_neg (show ¬ (3 < n ∨ 15 < issue) by omega), if_neg (by rw [State.lane, gate]; decide), h]

end

theorem countScan_store (s : State) (n : Nat) (dir : Direction) : (s.countScan n dir).store = s.store := by
  have only := countScan_lanesOnly s n dir
  unfold LanesOnly at only
  rw [only]

section
variable {n slot : Nat} {c : Card} {role : LaneRole} (hrole : Four.get s.store.settings.laneRole n = role)
include hrole

theorem scan_boards (board : role = .board ∨ role = .both) (off : c.presence.aboardShip = false) :
    s.scan n slot c = s.boardScan n slot c := by
  have boarding : boards role c.presence = true := by
    rcases board with rfl | rfl <;> simp [boards, off]
  rw [State.scan, hrole, if_pos boarding, State.scanBoarding, if_neg (by rw [off]; decide)]

theorem scan_boardsAgain (board : role = .board) (aboard : c.presence.aboardShip = true) :
    s.scan n slot c = s.boardRepeat n slot c := by
  subst board
  rw [State.scan, hrole, if_pos (show boards .board c.presence = true from rfl), State.scanBoarding, if_pos aboard]

theorem scan_leaves (h : role = .leave ∨ role = .both ∧ c.presence.aboardShip = true) :
    s.scan n slot c = s.scanLeaving n slot c := by
  have leaving : boards role c.presence = false := by
    rcases h with rfl | ⟨rfl, aboard⟩
    · rfl
    · simp [boards, aboard]
  rw [State.scan, hrole, if_neg (by rw [leaving]; decide)]

end

section
variable {n slot : Nat} {c : Card}

theorem boardScan_eq {t : State} {x : Card} (moved : s.movePresence slot c .aboard none = ⟨t, 0, 0⟩)
    (card : Table.find t.store.cards slot = some x) : s.boardScan n slot c = (t.countScan n .inward,
      .scanned .accepted ⟨slot, x.config.cls, x.presence⟩ .inward none) := by
  have view : (t.countScan n .inward).cardView slot c = ⟨slot, x.config.cls, x.presence⟩ :=
    cardView_of_find (by rw [countScan_store, card]) c
  simp only [State.boardScan, moved, view]

theorem boardRepeat_eq (card : Table.find s.store.cards slot = some c) : s.boardRepeat n slot c =
    ((s.raise (.presenceMismatch c.uid n)).countScan n .inward,
      .scanned .boardRepeat ⟨slot, c.config.cls, c.presence⟩ .inward none) := by
  have view : ((s.raise (.presenceMismatch c.uid n)).countScan n .inward).cardView slot c =
      ⟨slot, c.config.cls, c.presence⟩ := cardView_of_find (by rw [countScan_store, State.raise_store, card]) c
  simp only [State.boardRepeat, view]

theorem scanLeaving_aboard (aboard : c.presence = .aboard ∨ c.presence = .unverified) : s.scanLeaving n slot c =
    if s.needsEscort c then (s, .escort (s.cardView slot c) (s.adultDepartureAge c.config.account))
    else s.leaveScan n slot c := by
  rcases aboard with h | h <;> simp only [State.scanLeaving, h]

theorem leaveScan_eq {d : Departed} {m : State} {x : Card} (moved : s.movePresence slot c .ashore (some n) = d)
    (marked : d.state.markGuest c = m) (card : Table.find m.store.cards slot = some x) :
    s.leaveScan n slot c = (m.countScan n .outward,
      .scanned .accepted ⟨slot, x.config.cls, x.presence⟩ .outward (some (d.settled, d.waiting))) := by
  have view : (m.countScan n .outward).cardView slot c = ⟨slot, x.config.cls, x.presence⟩ :=
    cardView_of_find (by rw [countScan_store, card]) c
  simp only [State.leaveScan, moved, marked, view]

theorem leaveRepeat_eq {m : State} {x : Card} (marked : (s.raise (.presenceMismatch c.uid n)).markGuest c = m)
    (card : Table.find m.store.cards slot = some x) : s.leaveRepeat n slot c = (m.countScan n .outward,
      .scanned .leaveRepeat ⟨slot, x.config.cls, x.presence⟩ .outward none) := by
  have view : (m.countScan n .outward).cardView slot c = ⟨slot, x.config.cls, x.presence⟩ :=
    cardView_of_find (by rw [countScan_store, card]) c
  simp only [State.leaveRepeat, marked, view]

theorem markGuest_other (h : c.config.cls ≠ .guest) : s.markGuest c = s := if_neg h

theorem markGuest_guest (h : c.config.cls = .guest) {k : Nat} {a : Account}
    (account : s.accountByNumber c.config.account = some (k, a)) :
    s.markGuest c = s.setAccount k { a with lastAdultDeparture := some s.clock.runSeconds } := by
  simp only [State.markGuest, if_pos h, State.markAdultDeparture, account]

theorem needsEscort_false (h : c.config.cls ≠ .child ∨ s.store.settings.escortWindow = 0 ∨
      ∃ k a t, s.accountByNumber c.config.account = some (k, a) ∧ a.lastAdultDeparture = some t ∧
        s.clock.runSeconds - t < s.store.settings.escortWindow) : s.needsEscort c = false := by
  rcases h with other | free | ⟨k, a, t, account, last, recent⟩
  · simp [State.needsEscort, other]
  · simp [State.needsEscort, free]
  · have young : ¬ s.store.settings.escortWindow ≤ s.clock.runSeconds - t := Nat.not_le.mpr recent
    simp [State.needsEscort, State.adultDepartureAge, account, last, young]

theorem adultDepartureAge_eq {k : Nat} {a : Account} (account : s.accountByNumber c.config.account = some (k, a)) :
    s.adultDepartureAge c.config.account = a.lastAdultDeparture.map fun t => s.clock.runSeconds - t := by
  rw [State.adultDepartureAge, account]
  rfl

theorem needsEscort_true {k : Nat} {a : Account} (child : c.config.cls = .child)
    (window : s.store.settings.escortWindow ≠ 0) (account : s.accountByNumber c.config.account = some (k, a))
    (h : ∀ t, a.lastAdultDeparture = some t → s.store.settings.escortWindow ≤ s.clock.runSeconds - t) :
    s.needsEscort c = true := by
  simp only [State.needsEscort, child, window, adultDepartureAge_eq account, decide_true, ne_eq, not_false_eq_true,
    Bool.true_and]
  cases last : a.lastAdultDeparture with
  | none => rfl
  | some t => exact decide_eq_true (h t last)

end

/-- Settles O46. -/
theorem gangwayScansMoveTheCard : Obligations.GangwayScansMoveTheCard := by
  unfold Obligations.GangwayScansMoveTheCard
  intro s tag n uid issue role work
  have canonical := canonical_of_atWork work
  have scans {t : State} {answer : Answer} (h : blockGangwayCard ⟨n, uid, issue⟩ s = (t, answer)) :
      exec (.gangwayCard tag (.fit ⟨n, uid, issue⟩)) s = .next (t.replied 0xD3#8 tag answer) :=
    serve_block (ready_of_atWork work) blockGangwayCard_blind (whenLoaded_takes (loaded_of_atWork work)) h _
  refine ⟨fun bad => scans (blockGangwayCard_range bad),
    fun hn hissue gate => scans (blockGangwayCard_shut hn hissue gate), fun hn hissue gate hrole =>
      ⟨fun none => scans (blockGangwayCard_unknown hn hissue gate (present_missing none issue)), fun slot c found =>
        ⟨fun later => scans (blockGangwayCard_unknown hn hissue gate (present_later found later)),
          fun earlier => scans (blockGangwayCard_superseded hn hissue gate (present_superseded found earlier)),
          fun current => ?_⟩⟩⟩
  subst current
  have scans {t : State} {answer : Answer} (h : s.scan n slot c = (t, answer)) :=
    scans ((blockGangwayCard_current hn hissue gate (present_current found)).trans h)
  have card : Table.find s.store.cards slot = some c := Table.find_of_mem canonical.cards (Table.mem_of_seek found)
  have view := cardView_of_find card c
  have boardsFrom (board : role = .board ∨ role = .both) (off : c.presence = .expected ∨ c.presence = .ashore ∨
      c.presence = .missed) : s.scan n slot c = ((s.relocate slot c .aboard none).countScan n .inward,
        .scanned .accepted ⟨slot, c.config.cls, .aboard⟩ .inward none) := by
    have away := not_aboardShip_of off
    have moves : c.presence ≠ .aboard := fun e => by rw [e] at away; cases away
    rw [scan_boards hrole board away]
    exact boardScan_eq (movePresence_plain moves (.inr rfl)) (Table.find_put_self _ slot _)
  refine ⟨fun board off => ?_, fun board off => ?_, fun board aboard => ?_,
    fun v m one slots d leave aboard escorted hv departs hslots hd hm => ?_, fun k a leave aboard child window account h => ?_,
    fun o leave h => ?_, fun leave ashore other => ?_, fun k a leave ashore guest account => ?_⟩
  · have relocated := relocate_eq (s := s) (slot := slot) (c := c) (p := .aboard) (lane := none)
      (by rcases off with e | e <;> rw [e] <;> decide) (by decide)
    rw [if_neg (by decide), if_neg (by rcases off with e | e <;> rw [e] <;> decide), if_neg (by decide),
      if_neg (by rcases off with e | e <;> rw [e] <;> decide)] at relocated
    rw [← relocated]
    exact scans (boardsFrom board (off.imp_right .inr))
  · have relocated := relocate_eq (s := s) (slot := slot) (c := c) (p := .aboard) (lane := none)
      (by rw [off]; decide) (by decide)
    rw [if_neg (by decide), if_neg (by rw [off]; decide), if_neg (by decide), if_pos off, off] at relocated
    rw [← relocated]
    exact scans (boardsFrom board (.inr (.inl off)))
  · exact scans ((scan_boardsAgain hrole board (aboardShip_of aboard)).trans (boardRepeat_eq card))
  · have moves : Presence.ashore ≠ c.presence := by rcases aboard with e | e <;> rw [e] <;> decide
    have relocated := relocate_eq (s := s) (slot := slot) (lane := some n) moves (by decide)
    rw [if_pos rfl, if_neg (by rcases aboard with e | e <;> rw [e] <;> decide), if_pos rfl, ← hv] at relocated
    have moved := movePresence_leaves (s := s) (slot := slot) (p := .ashore) (lane := some n) (aboardShip_of aboard) rfl
    rw [relocated] at moved
    have settled : v.settleDeparted slot = d := by
      rw [settleDeparted_eq canonical departs hslots (show v.engine = s.engine by rw [hv]), hd]
    have clock : d.state.clock = s.clock := by rw [← settled, settleDeparted_clock, hv]
    have cards : d.state.store.cards = v.store.cards := by rw [← settled, settleDeparted_cards]
    have marked : d.state.markGuest c = m ∧ m.store.cards = v.store.cards := by
      rcases hm with ⟨other, rfl⟩ | ⟨guest, k, a, account, rfl⟩
      · exact ⟨markGuest_other other, cards⟩
      · refine ⟨?_, cards⟩
        rw [markGuest_guest guest account, clock]
        rfl
    have left := leaveScan_eq (moved.trans settled) marked.1
      (by rw [marked.2, hv]; exact Table.find_put_self _ slot _)
    have leaving := scan_leaves (slot := slot) hrole (leave.imp_right fun both => ⟨both, aboardShip_of aboard⟩)
    rw [scanLeaving_aboard aboard, needsEscort_false escorted, if_neg (by decide), left] at leaving
    exact scans leaving
  · have leaving := scan_leaves (slot := slot) hrole (leave.imp_right fun both => ⟨both, aboardShip_of aboard⟩)
    rw [scanLeaving_aboard aboard, needsEscort_true child window account h, if_pos rfl, view, child,
      adultDepartureAge_eq account] at leaving
    exact scans leaving
  · have leaving := scan_leaves (slot := slot) (c := c) hrole (.inl leave)
    rw [← view]
    rcases h with ⟨e, rfl⟩ | ⟨e, rfl⟩
    · exact scans (leaving.trans (by simp only [State.scanLeaving, e]))
    · exact scans (leaving.trans (by simp only [State.scanLeaving, e]))
  · have leaving := scan_leaves (slot := slot) (c := c) hrole (.inl leave)
    have again : s.scanLeaving n slot c = s.leaveRepeat n slot c := by simp only [State.scanLeaving, ashore]
    rw [again, leaveRepeat_eq (markGuest_other other) (by rw [State.raise_store]; exact card), ashore] at leaving
    exact scans leaving
  · have leaving := scan_leaves (slot := slot) (c := c) hrole (.inl leave)
    have again : s.scanLeaving n slot c = s.leaveRepeat n slot c := by simp only [State.scanLeaving, ashore]
    have account : (s.raise (.presenceMismatch c.uid n)).accountByNumber c.config.account = some (k, a) := by
      rw [State.accountByNumber, State.raise_store]
      exact account
    have marked : (s.raise (.presenceMismatch c.uid n)).markGuest c = { s.raise (.presenceMismatch c.uid n) with
        store := { s.store with accounts := Table.put s.store.accounts k { a with
          lastAdultDeparture := some s.clock.runSeconds } } } := by
      simp only [markGuest_guest guest account, State.setAccount, State.raise_store, State.raise_clock]
    rw [again, leaveRepeat_eq marked card, guest, ashore] at leaving
    exact scans leaving

end Sys2Proof.Machine
end

section
/-! SAIL: the gates lost, and the ASHORE cards that become MISSED (R113, R116, R125, R140, R149). -/

namespace Sys2Proof.Machine

variable {s t : State}

/-! ## Notices in a row -/

theorem raise_link (s : State) (b : NoticeBody) : s.raise b = s.setLink (s.raise b).link := by
  rw [State.raise_eq]
  rfl

theorem raise_setLink (s : State) (b : NoticeBody) (l : Link) : (s.raise b).setLink l = s.setLink l := by
  rw [raise_link]
  rfl

/-- A notice takes the link and the clock's seconds and ship time, and nothing else. -/
theorem raise_link_congr (link : t.link = s.link) (seconds : t.clock.runSeconds = s.clock.runSeconds)
    (shipTime : t.clock.shipTime = s.clock.shipTime) (b : NoticeBody) : (t.raise b).link = (s.raise b).link := by
  rw [State.raise_eq, State.raise_eq, State.setLink_link, State.setLink_link, link, seconds, shipTime]

section
variable (notice : Nat → NoticeBody)

theorem raises_link : ∀ (ns : List Nat) (s : State),
    ns.foldl (fun x n => State.raise x (notice n)) s =
      s.setLink (ns.foldl (fun x n => State.raise x (notice n)) s).link
  | [], _ => rfl
  | n :: ns, s => by
    rw [List.foldl_cons, raises_link ns (s.raise (notice n))]
    exact raise_setLink s (notice n) _

theorem raises_link_congr : ∀ (ns : List Nat) {s t : State}, t.link = s.link →
    t.clock.runSeconds = s.clock.runSeconds → t.clock.shipTime = s.clock.shipTime →
    (ns.foldl (fun x n => State.raise x (notice n)) t).link = (ns.foldl (fun x n => State.raise x (notice n)) s).link
  | [], _, _, link, _, _ => link
  | n :: ns, s, t, link, seconds, shipTime => by
    refine raises_link_congr ns (raise_link_congr link seconds shipTime (notice n)) ?_ ?_
    · rw [State.raise_clock, State.raise_clock, seconds]
    · rw [State.raise_clock, State.raise_clock, shipTime]

theorem raises_setLane : ∀ (ns : List Nat) (s : State) (k : Nat) (l : Lane),
    ns.foldl (fun x n => State.raise x (notice n)) (s.setLane k l) =
      (ns.foldl (fun x n => State.raise x (notice n)) s).setLane k l
  | [], _, _, _ => rfl
  | n :: ns, s, k, l => by
    rw [List.foldl_cons, ← raise_setLane, raises_setLane ns]
    rfl

end

/-! ## The four soft gates cleared (R116) -/

/-- A lane whose soft gate is cleared; an effective gate is lost with its hold record (R113, R125). -/
def Lane.shutAt (shipTime : Option Nat) (r : HoldReason) (l : Lane) : Lane :=
  if l.gate then { l with
    softGate := false
    gate := false
    decoder := .clear
    mark := false
    settling := false
    flowEnd := none
    hold := some ⟨l.counters, l.openTime.shipTime, shipTime, r⟩ }
  else { l with softGate := false }

theorem clearSoftGate_eq {n : Nat} (hn : n < 4) (s : State) (r : HoldReason) : s.clearSoftGate n r =
    (if (s.lane n).gate then s.raise (.laneHeld n r) else s).setLane n ((s.lane n).shutAt s.clock.shipTime r) := by
  cases gate : (s.lane n).gate with
  | false =>
    have shut : (s.lane n).shutAt s.clock.shipTime r = { s.lane n with softGate := false } :=
      if_neg (by rw [gate]; decide)
    rw [shut, if_neg (by decide)]
    exact clearSoftGate_ineffective rfl gate r
  | true =>
    have shut : (s.lane n).shutAt s.clock.shipTime r = { s.lane n with
        softGate := false
        gate := false
        decoder := .clear
        mark := false
        settling := false
        flowEnd := none
        hold := some ⟨(s.lane n).counters, (s.lane n).openTime.shipTime, s.clock.shipTime, r⟩ } := if_pos gate
    rw [shut, if_pos rfl, raise_setLane]
    exact clearSoftGate_effective hn rfl gate r

/-- Clearing the soft gates of distinct lanes. -/
theorem clearSoftGates_eq (r : HoldReason) : ∀ (ns : List Nat) (s : State), ns.Nodup → (∀ n ∈ ns, n < 4) →
    ns.foldl (fun x n => State.clearSoftGate x n r) s =
      { (ns.filter fun n => (s.lanes.get n).gate).foldl (fun x n => State.raise x (.laneHeld n r)) s with
        lanes := ns.foldl (fun (f : Four Lane) n => f.set n ((f.get n).shutAt s.clock.shipTime r)) s.lanes }
  | [], _, _, _ => rfl
  | n :: ns, s, distinct, small => by
    obtain ⟨fresh, distinct⟩ := List.nodup_cons.mp distinct
    have hn : n < 4 := small n (List.mem_cons_self ..)
    have rest : ∀ k ∈ ns, k < 4 := fun k hk => small k (List.mem_cons_of_mem _ hk)
    have gates : (ns.filter fun k => ((s.lanes.set n ((s.lane n).shutAt s.clock.shipTime r)).get k).gate) =
        ns.filter fun k => (s.lanes.get k).gate := by
      refine List.filter_congr fun k hk => ?_
      have other : k ≠ n := fun e => fresh (e ▸ hk)
      rw [Four.get_set_other _ (rest k hk) other]
    rw [List.foldl_cons, clearSoftGate_eq hn, clearSoftGates_eq r ns _ distinct rest, raises_setLane, List.filter_cons]
    cases gate : (s.lanes.get n).gate with
    | false =>
      rw [show (s.lane n).gate = false from gate]
      simp only [Bool.false_eq_true, if_false, State.setLane_lanes, State.setLane_clock, gates]
      rfl
    | true =>
      rw [show (s.lane n).gate = true from gate]
      simp only [if_true, State.setLane_lanes, State.setLane_clock, State.raise_lanes, State.raise_clock, gates]
      rfl

theorem closeLanes_eq (s : State) (r : HoldReason) {gates : List Nat} {shut : Lane → Lane}
    (hgates : gates = (([0, 1, 2, 3] : List Nat).filter fun n => (Four.get s.lanes n).gate))
    (hshut : ∀ l, shut l = l.shutAt s.clock.shipTime r) : s.closeLanes r = { s with
      lanes := ⟨shut s.lanes.l0, shut s.lanes.l1, shut s.lanes.l2, shut s.lanes.l3⟩
      link := (gates.foldl (fun (x : State) n => x.raise (.laneHeld n r)) s).link } := by
  have small : ∀ n ∈ ([0, 1, 2, 3] : List Nat), n < 4 := by decide
  rw [State.closeLanes, clearSoftGates_eq r _ s (by decide) small, ← hgates,
    raises_link (fun n => .laneHeld n r) gates s]
  simp only [hshut]
  rfl

/-! ## The ASHORE cards become MISSED (R140) -/

/-- A card as the ship leaves: MISSED in place of ASHORE (R140). -/
def Card.sailed (c : Card) : Card :=
  if c.presence = Presence.ashore then { c with presence := Presence.missed, departure := none } else c

theorem missCard_eq {slot : Nat} {c : Card} (found : s.store.cards.find slot = some c) (ashore : c.presence = .ashore) :
    s.missCard slot = s.relocate slot c .missed none := by
  rw [State.missCard, found]
  simp only
  rw [movePresence_plain (by rw [ashore]; decide) (.inl (not_aboardShip_of (.inr (.inl ashore))))]

/-- Every card of the ashore list becomes MISSED, and the Presence Tracker follows. -/
theorem missFold : ∀ (ls : List Nat) (s : State), s.Tracked → s.tracker.ashore = ls →
    (ls.foldl State.missCard s).Tracked ∧ (ls.foldl State.missCard s).tracker.ashore = [] ∧
      ls.foldl State.missCard s = { s with
        store := { s.store with cards := (ls.foldl State.missCard s).store.cards }
        tracker := (ls.foldl State.missCard s).tracker } ∧
      ∀ k, (ls.foldl State.missCard s).store.cards.find k = (s.store.cards.find k).map Card.sailed
  | [], s, tracked, list => by
    refine ⟨tracked, list, rfl, fun k => ?_⟩
    rw [List.foldl_nil]
    cases found : s.store.cards.find k with
    | none => rfl
    | some c =>
      have aboard : c.presence ≠ .ashore := fun ashore => by
        have listed := (tracked.list.mem k).mpr ⟨c, found, ashore⟩
        rw [list] at listed
        cases listed
      rw [Option.map_some, Card.sailed, if_neg aboard]
  | slot :: rest, s, tracked, list => by
    obtain ⟨c, found, ashore⟩ := (tracked.list.mem slot).mp (by rw [list]; exact List.mem_cons_self ..)
    have moves : c.presence ≠ .missed := by rw [ashore]; decide
    have fresh : slot ∉ rest := by
      have nodup := tracked.list.nodup
      rw [list] at nodup
      exact (List.nodup_cons.mp nodup).1
    have relocated := relocate_eq (s := s) (slot := slot) (lane := none) moves.symm (by decide)
    rw [if_neg (by decide), if_pos ashore, list] at relocated
    have left : (slot :: rest).filter (fun x => x != slot) = rest := by
      rw [List.filter_cons_of_neg (by simp), List.filter_eq_self]
      intro x hx
      simpa using fun e : x = slot => fresh (e ▸ hx)
    have tracked' : (s.relocate slot c .missed none).Tracked :=
      ⟨relocate_canonical tracked.canonical, relocate_tally tracked found, relocate_list tracked found moves⟩
    have list' : (s.relocate slot c .missed none).tracker.ashore = rest := by
      rw [relocated]
      exact left
    obtain ⟨final, empty, frame, cards⟩ := missFold rest _ tracked' list'
    rw [List.foldl_cons, missCard_eq found ashore]
    refine ⟨final, empty, frame, fun k => (cards k).trans ?_⟩
    have put : (s.relocate slot c .missed none).store.cards =
        Table.put s.store.cards slot { c with presence := .missed, departure := none } := by rw [relocated]
    rw [put]
    by_cases here : k = slot
    · subst here
      rw [Table.find_put_self, found, Option.map_some, Option.map_some, Card.sailed, Card.sailed, if_pos ashore]
      rfl
    · rw [Table.find_put_other _ _ here]

/-- Two tables with rising keys that find the same are the same. -/
theorem Table.eq_of_find {α : Type} {t u : Table α} (ht : Table.rising t = true) (hu : Table.rising u = true)
    (h : ∀ k, Table.find t k = Table.find u k) : t = u := by
  have nodup {x : Table α} (hx : Table.rising x = true) : x.Nodup :=
    ((Table.rising_iff x).mp hx).imp fun {a b} (lt : a.1 < b.1) (e : a = b) => by
      subst e
      exact Nat.lt_irrefl _ lt
  have same : t.Perm u := (List.perm_ext_iff_of_nodup (nodup ht) (nodup hu)).mpr fun ⟨k, v⟩ => by
    rw [Table.mem_iff_find ht, Table.mem_iff_find hu, h k]
  exact same.eq_of_pairwise (fun a b _ _ ab ba => absurd ab (Nat.lt_asymm ba)) ((Table.rising_iff t).mp ht)
    ((Table.rising_iff u).mp hu)

theorem missAshore_eq (tracked : s.Tracked) : s.tracker.ashore.foldl State.missCard s = { s with
    store := { s.store with cards := Table.mapEntries Card.sailed s.store.cards }
    tracker := ⟨PresenceCounts.ofCards (Table.mapEntries Card.sailed s.store.cards), []⟩ } := by
  obtain ⟨final, empty, frame, found⟩ := missFold _ s tracked rfl
  have cards : (s.tracker.ashore.foldl State.missCard s).store.cards = Table.mapEntries Card.sailed s.store.cards :=
    Table.eq_of_find final.canonical.cards (Table.rising_mapEntries tracked.canonical.cards) fun k => by
      rw [found, Table.find_mapEntries]
  have counts := of_decide_eq_true ((State.countLaw_iff _).mpr final.counts)
  have tracker : (s.tracker.ashore.foldl State.missCard s).tracker =
      ⟨PresenceCounts.ofCards (Table.mapEntries Card.sailed s.store.cards), []⟩ := by
    rw [← cards, ← counts, ← empty]
  rw [frame, cards, tracker]

/-- The cards of a class in the ashore list are the ASHORE cards of that class. -/
theorem ashoreOf_eq (tracked : s.Tracked) (cls : CardClass) : s.ashoreOf cls = (s.store.cards.filter fun e =>
    decide (e.2.presence = .ashore) && decide (e.2.config.cls = cls)).length := by
  have keys : ((s.store.cards.filter fun e => decide (e.2.presence = .ashore) && decide (e.2.config.cls = cls)).map
      Prod.fst).Nodup :=
    List.pairwise_map.mpr ((((Table.rising_iff _).mp tracked.canonical.cards).sublist List.filter_sublist).imp
      fun lt => Nat.ne_of_lt lt)
  rw [State.ashoreOf, ← List.length_map Prod.fst]
  refine ((List.perm_ext_iff_of_nodup (tracked.list.nodup.filter _) keys).mpr fun slot => ?_).length_eq
  simp only [List.mem_filter, Option.any_eq_true, decide_eq_true_eq, List.mem_map, Bool.and_eq_true, tracked.list.mem]
  constructor
  · rintro ⟨⟨c, found, ashore⟩, d, again, cls⟩
    cases found.symm.trans again
    exact ⟨(slot, c), ⟨Table.mem_of_find found, ashore, cls⟩, rfl⟩
  · rintro ⟨⟨_, c⟩, ⟨mem, ashore, cls⟩, rfl⟩
    have found := Table.find_of_mem tracked.canonical.cards mem
    exact ⟨⟨c, found, ashore⟩, c, found, cls⟩

/-! ## SAIL -/

theorem blockSail_atSea (h : s.clock.port = .atSea) : blockSail () s = (s, .refused .state) := by
  simp only [blockSail, h]

theorem blockSail_inPort (h : s.clock.port = .inPort) : blockSail () s =
    (((({ s with clock := { s.clock with port := .atSea, region := 0 } } : State).closeLanes .sail).missAshore,
      .sailed (s.ashoreOf .guest) (s.ashoreOf .child) (s.ashoreOf .crew) (s.ashoreOf .security) s.effectiveLanes)) := by
  simp only [blockSail, h]

/-- Settles O49. -/
theorem sailLeavesNobodyAshore : Obligations.SailLeavesNobodyAshore := by
  unfold Obligations.SailLeavesNobodyAshore
  intro s tag work
  have sails {t : State} {answer : Answer} (h : blockSail () s = (t, answer)) :
      exec (.sail tag (.fit ()) .whole) s = .next (t.replied 0xE3#8 tag answer) :=
    serve_block (ready_of_atWork work) blockSail_blind (whenLoaded_takes (loaded_of_atWork work)) h _
  refine ⟨fun atSea => sails (blockSail_atSea atSea),
    fun count gates shut cards inPort tables ashore counted hcount hgates hshut hcards => ?_⟩
  have canonical := s.tablesLaw_iff.mp tables
  have tracked : s.Tracked :=
    ⟨canonical, s.countLaw_iff.mp counted, (s.ashoreLaw_iff canonical.cards).mp ashore⟩
  have classes (k : CardClass) : s.ashoreOf k = count k := (ashoreOf_eq tracked k).trans (hcount k).symm
  have sailed : Table.mapEntries Card.sailed s.store.cards = cards := hcards.symm
  have lanes : s.effectiveLanes = gates.length := by rw [hgates]; rfl
  have closed := closeLanes_eq { s with clock := { s.clock with port := .atSea, region := 0 } } .sail hgates hshut
  have link : (gates.foldl (fun (x : State) n => x.raise (.laneHeld n .sail))
      { s with clock := { s.clock with port := .atSea, region := 0 } }).link =
      (gates.foldl (fun (x : State) n => x.raise (.laneHeld n .sail)) s).link :=
    raises_link_congr (fun n => .laneHeld n .sail) gates rfl rfl rfl
  rw [link] at closed
  have sailing := blockSail_inPort inPort
  rw [closed, classes, classes, classes, classes, lanes] at sailing
  have missed : ∀ (f : Four Lane) (l : Link), State.missAshore { s with
      lanes := f, clock := { s.clock with port := .atSea, region := 0 }, link := l } = State.raise { s with
        store := { s.store with cards := cards }
        tracker := ⟨PresenceCounts.ofCards cards, []⟩
        lanes := f, clock := { s.clock with port := .atSea, region := 0 }, link := l }
      (.missedAtSail (count .guest) (count .child) (count .crew) (count .security)) := by
    intro f l
    rw [← classes, ← classes, ← classes, ← classes, ← sailed, State.missAshore]
    exact congrArg (State.raise · _) (missAshore_eq (s := { s with
      lanes := f, clock := { s.clock with port := .atSea, region := 0 }, link := l })
      ⟨⟨canonical.cards, canonical.accounts, canonical.doors, canonical.categories, canonical.regions, canonical.tiers,
        canonical.tabs, canonical.terminalTabs, canonical.channels, canonical.buses, canonical.readers⟩,
        tracked.counts, tracked.list⟩)
  rw [missed] at sailing
  have told := raise_link_congr (s := gates.foldl (fun (x : State) n => x.raise (.laneHeld n .sail)) s)
    (t := { s with
        store := { s.store with cards := cards }
        tracker := ⟨PresenceCounts.ofCards cards, []⟩
        lanes := ⟨shut s.lanes.l0, shut s.lanes.l1, shut s.lanes.l2, shut s.lanes.l3⟩
        clock := { s.clock with port := .atSea, region := 0 }
        link := (gates.foldl (fun (x : State) n => x.raise (.laneHeld n .sail)) s).link }) rfl
    (by rw [raises_link (fun n => .laneHeld n .sail) gates s]; rfl)
    (by rw [raises_link (fun n => .laneHeld n .sail) gates s]; rfl)
    (.missedAtSail (count .guest) (count .child) (count .crew) (count .security))
  rw [raise_link, told] at sailing
  exact sails sailing

end Sys2Proof.Machine
end

section
/-! MODE.SET: the lockdown and the return to SERVICE (R57, R113, R116, R125, R150, R151). -/

namespace Sys2Proof.Machine

variable {s t : State}

/-! ## Doors by what their channel shows -/

/-- The doors whose channel satisfies a test, in ascending door id. -/
def State.doorsWhere (s : State) (p : Channel → Bool) : List Nat :=
  (s.doorUnit.channels.filter fun e => p e.2).map Prod.fst

theorem State.Canonical.channelsRising (h : s.Canonical) : s.doorUnit.channels.rising = true := by
  have channels := h.channels
  rw [Table.canonical, Bool.and_eq_true] at channels
  exact channels.1

theorem mem_doorsWhere {p : Channel → Bool} (h : s.Canonical) (start : p Channel.start = false) {d : Nat} :
    d ∈ s.doorsWhere p ↔ p (s.channel d) = true := by
  unfold State.doorsWhere
  simp only [List.mem_map, List.mem_filter]
  constructor
  · rintro ⟨e, ⟨he, holds⟩, rfl⟩
    rw [State.channel_of_mem h he]
    exact holds
  · intro holds
    exact ⟨_, ⟨State.channel_mem (by rintro e; rw [e, start] at holds; cases holds), holds⟩, rfl⟩

theorem doorsWhere_ascending (p : Channel → Bool) (h : s.Canonical) : (s.doorsWhere p).Pairwise (· < ·) :=
  List.pairwise_map.mpr ((((Table.rising_iff _).mp h.channelsRising).sublist List.filter_sublist).imp fun lt => lt)

theorem nodup_of_ascending {ds : List Nat} (h : ds.Pairwise (· < ·)) : ds.Nodup := h.imp fun lt => Nat.ne_of_lt lt

/-- Ascending lists of the same doors are the same. -/
theorem eq_of_ascending {ds es : List Nat} (hd : ds.Pairwise (· < ·)) (he : es.Pairwise (· < ·))
    (h : ∀ d, d ∈ ds ↔ d ∈ es) : ds = es :=
  ((List.perm_ext_iff_of_nodup (nodup_of_ascending hd) (nodup_of_ascending he)).mpr h).eq_of_pairwise
    (fun _ _ _ _ ab ba => absurd ab (Nat.lt_asymm ba)) hd he

theorem releasedDoors_ascending (h : s.Canonical) : s.releasedDoors.Pairwise (· < ·) :=
  doorsWhere_ascending (fun c => c.state.isReleased && !c.relatchOwed) h

theorem mem_releasedDoors (h : s.Canonical) {d : Nat} : d ∈ s.releasedDoors ↔
    (s.channel d).state.isReleased = true ∧ (s.channel d).relatchOwed = false := by
  refine (mem_doorsWhere (p := fun c => c.state.isReleased && !c.relatchOwed) h rfl).trans ?_
  rw [Bool.and_eq_true, Bool.not_eq_true']

/-! ## The relatches called for at a lockdown (R57) -/

/-- The channel of a door whose RELATCH order is placed. -/
def Channel.relatched (c : Channel) : Channel := { c with state := .relatching .awaitingFetch, relatchOwed := false }

/-- The channel of a RELEASED door whose relatch is owed. -/
def Channel.owing (c : Channel) : Channel :=
  match c.state with
  | .released _ confirm => { c with state := .released none confirm, relatchOwed := true }
  | _ => c

theorem ChannelState.exists_of_isReleased {x : ChannelState} (h : x.isReleased = true) :
    ∃ timer confirm, x = .released timer confirm := by
  cases x with
  | released timer confirm => exact ⟨timer, confirm, rfl⟩
  | _ => cases h

section
variable {l : Lockdown} {d : Nat} (released : (l.state.channel d).state.isReleased = true)
include released

theorem visit_room (room : l.state.scheduler.orders.length < 64) : l.visit d =
    ⟨(l.state.placeOrder .relatch d).setChannel d (l.state.channel d).relatched, l.placed + 1⟩ := by
  obtain ⟨timer, confirm, state⟩ := ChannelState.exists_of_isReleased released
  have room : l.state.orderRoom = true := decide_eq_true room
  simp only [Lockdown.visit, state, callRelatch_room _ room, room, if_true]
  rfl

theorem visit_full (full : 64 ≤ l.state.scheduler.orders.length) : l.visit d =
    ⟨l.state.setChannel d (l.state.channel d).owing, l.placed⟩ := by
  obtain ⟨timer, confirm, state⟩ := ChannelState.exists_of_isReleased released
  have full : l.state.orderRoom = false := decide_eq_false (Nat.not_lt.mpr full)
  simp only [Lockdown.visit, state, callRelatch_full _ full, full, Channel.owing]
  rfl

end

/-- What a lockdown that has visited these doors has done: RELATCH orders for the first while there was room, and
relatches owed for the rest. -/
structure Visited (ds : List Nat) (l r : Lockdown) : Prop where
  frame : r.state = { l.state with
    doorUnit := { l.state.doorUnit with channels := r.state.doorUnit.channels }
    scheduler := { l.state.scheduler with orders := l.state.scheduler.orders ++
      (ds.take (64 - l.state.scheduler.orders.length)).map fun d => ⟨.relatch, d, l.state.clock.runSeconds⟩ } }
  placed : r.placed = l.placed + (ds.take (64 - l.state.scheduler.orders.length)).length
  channel : ∀ e, r.state.channel e =
    if e ∈ ds.take (64 - l.state.scheduler.orders.length) then (l.state.channel e).relatched
    else if e ∈ ds.drop (64 - l.state.scheduler.orders.length) then (l.state.channel e).owing
    else l.state.channel e

theorem visit_fold : ∀ (ds : List Nat) (l : Lockdown), ds.Nodup →
    (∀ d ∈ ds, (l.state.channel d).state.isReleased = true) → Visited ds l (ds.foldl Lockdown.visit l)
  | [], l, _, _ => by
    refine ⟨?_, ?_, fun e => ?_⟩
    · simp
    · simp
    · simp
  | d :: ds, l, distinct, released => by
    obtain ⟨fresh, distinct⟩ := List.nodup_cons.mp distinct
    have here := released d (List.mem_cons_self ..)
    have others : ∀ k ∈ ds, k ≠ d := fun k hk e => fresh (e ▸ hk)
    rw [List.foldl_cons]
    rcases Nat.lt_or_ge l.state.scheduler.orders.length 64 with room | full
    · rw [visit_room here room]
      have visited := visit_fold ds
        ⟨(l.state.placeOrder .relatch d).setChannel d (l.state.channel d).relatched, l.placed + 1⟩ distinct
        fun k hk => by
          rw [State.channel_setChannel_other _ _ (others k hk), State.channel_placeOrder]
          exact released k (List.mem_cons_of_mem _ hk)
      have length : ((l.state.placeOrder .relatch d).setChannel d (l.state.channel d).relatched).scheduler.orders.length =
          l.state.scheduler.orders.length + 1 := List.length_append
      obtain ⟨frame, placed, channel⟩ := visited
      rw [length] at frame placed channel
      have left : 64 - l.state.scheduler.orders.length = 64 - (l.state.scheduler.orders.length + 1) + 1 := by omega
      refine ⟨?_, ?_, fun e => ?_⟩
      · rw [left, List.take_succ_cons, List.map_cons, List.append_cons]
        exact frame
      · rw [left, List.take_succ_cons, List.length_cons, placed]
        exact Nat.succ_add_eq_add_succ ..
      · rw [left, List.take_succ_cons, List.drop_succ_cons, channel e]
        by_cases same : e = d
        · subst same
          rw [if_neg fun h => fresh (List.mem_of_mem_take h), if_neg fun h => fresh (List.mem_of_mem_drop h),
            State.channel_setChannel_self, if_pos (List.mem_cons_self ..)]
        · rw [State.channel_setChannel_other _ _ same, State.channel_placeOrder]
          simp only [List.mem_cons, same, false_or]
    · rw [visit_full here full]
      have visited := visit_fold ds ⟨l.state.setChannel d (l.state.channel d).owing, l.placed⟩ distinct
        fun k hk => by
          rw [State.channel_setChannel_other _ _ (others k hk)]
          exact released k (List.mem_cons_of_mem _ hk)
      obtain ⟨frame, placed, channel⟩ := visited
      have none : 64 - l.state.scheduler.orders.length = 0 := by omega
      have none' : 64 - (l.state.setChannel d (l.state.channel d).owing).scheduler.orders.length = 0 := none
      rw [none'] at frame placed channel
      refine ⟨?_, ?_, fun e => ?_⟩
      · rw [none]
        exact frame
      · rw [none]
        exact placed
      · rw [none, channel e]
        simp only [List.take_zero, List.not_mem_nil, if_false, List.drop_zero]
        by_cases same : e = d
        · subst same
          rw [if_neg fresh, State.channel_setChannel_self, if_pos (List.mem_cons_self ..)]
        · rw [State.channel_setChannel_other _ _ same]
          simp only [List.mem_cons, same, false_or]

/-! ## MODE.SET SECURE (R57, R150) -/

theorem cancelRequests_frame (s : State) : s.cancelRequests = { s with
    doorUnit := { s.doorUnit with channels := s.cancelRequests.doorUnit.channels }
    scheduler := { s.scheduler with buses := s.cancelRequests.scheduler.buses } } := by
  have cancels : ∀ (ds : List Nat) (x : State),
      ds.foldl (fun x d => State.setChannel x d (x.channel d).cancelled) x = { x with
        doorUnit := { x.doorUnit with
          channels := (ds.foldl (fun x d => State.setChannel x d (x.channel d).cancelled) x).doorUnit.channels } } := by
    intro ds
    induction ds with
    | nil => exact fun _ => rfl
    | cons d ds ih =>
      intro x
      rw [List.foldl_cons, ih]
      rfl
  rw [cancelRequests_eq, cancels]
  rfl

/-- What the lockdown of the doors leaves, over a loaded part (R57). -/
structure Locked (s : State) (l : Lockdown) (released placed owing : List Nat) : Prop where
  frame : l.state = { s with
    doorUnit := { s.doorUnit with channels := l.state.doorUnit.channels }
    scheduler := { s.scheduler with
      buses := l.state.scheduler.buses
      orders := s.scheduler.orders ++ placed.map fun d => ⟨.relatch, d, s.clock.runSeconds⟩ } }
  count : l.placed = placed.length
  bus : ∀ b, l.state.bus b = (s.bus b).emptied
  channel : ∀ d, l.state.channel d =
    if d ∈ placed then (s.channel d).relatched
    else if d ∈ owing then (s.channel d).owing
    else if (s.channel d).state = .pending then (s.channel d).cancelled
    else s.channel d
  mem : ∀ d, d ∈ released ↔ (s.channel d).state.isReleased = true ∧ (s.channel d).relatchOwed = false
  all : released = placed ++ owing
  owed : l.state.owingDoors.length = s.owingDoors.length + owing.length

theorem lockDoors_locked (h : s.Canonical) (loaded : s.loaded = true) : Locked s s.lockDoors s.releasedDoors
    (s.releasedDoors.take (64 - s.scheduler.orders.length))
    (s.releasedDoors.drop (64 - s.scheduler.orders.length)) := by
  have canonical : s.cancelRequests.Canonical :=
    (DoorEffect.cancel loaded).run.keeps (fun _ _ => Effect.canonical) h
  have locked : s.lockDoors.state.Canonical := (lockDoors_run loaded).keeps (fun _ _ => Effect.canonical) h
  have mem (d : Nat) := mem_releasedDoors h (d := d)
  have cancelled {d : Nat} (released : (s.channel d).state.isReleased = true) :
      s.cancelRequests.channel d = s.channel d := by
    rw [cancelRequests_channel h, if_neg fun pending => by rw [pending] at released; cases released]
  have same : s.cancelRequests.releasedDoors = s.releasedDoors := by
    refine eq_of_ascending (releasedDoors_ascending canonical) (releasedDoors_ascending h) fun d => ?_
    rw [mem, mem_releasedDoors canonical]
    by_cases released : (s.channel d).state.isReleased = true
    · rw [cancelled released]
    · refine iff_of_false (fun ⟨after, _⟩ => released ?_) fun ⟨before, _⟩ => released before
      rw [cancelRequests_channel h] at after
      split at after
      · unfold Channel.cancelled at after
        dsimp only at after
        split at after <;> cases after
      · exact after
  have orders : s.cancelRequests.scheduler.orders = s.scheduler.orders := by rw [cancelRequests_frame]
  have clock : s.cancelRequests.clock = s.clock := by rw [cancelRequests_frame]
  have visited : Visited s.releasedDoors ⟨s.cancelRequests, 0⟩ s.lockDoors := by
    have folded := visit_fold s.releasedDoors ⟨s.cancelRequests, 0⟩ (nodup_of_ascending (releasedDoors_ascending h))
      fun d hd => by rw [show (State.channel _ d) = s.channel d from cancelled ((mem d).mp hd).1]; exact ((mem d).mp hd).1
    rw [State.lockDoors, same]
    exact folded
  obtain ⟨frame, placed, channel⟩ := visited
  rw [orders] at frame placed channel
  have channel (d : Nat) : s.lockDoors.state.channel d =
      if d ∈ s.releasedDoors.take (64 - s.scheduler.orders.length) then (s.channel d).relatched
      else if d ∈ s.releasedDoors.drop (64 - s.scheduler.orders.length) then (s.channel d).owing
      else if (s.channel d).state = .pending then (s.channel d).cancelled
      else s.channel d := by
    rw [channel d]
    split
    next placed => rw [cancelled ((mem d).mp (List.mem_of_mem_take placed)).1]
    next =>
      split
      next owing => rw [cancelled ((mem d).mp (List.mem_of_mem_drop owing)).1]
      next => exact cancelRequests_channel h d
  refine ⟨?_, placed.trans (Nat.zero_add _), fun b => ?_, channel, mem, (List.take_append_drop ..).symm, ?_⟩
  · rw [clock] at frame
    rw [frame, cancelRequests_frame]
  · rw [State.bus, frame]
    exact cancelRequests_bus h b
  · have distinct : (s.owingDoors ++ s.releasedDoors.drop (64 - s.scheduler.orders.length)).Nodup := by
      refine List.nodup_append'.mpr ⟨nodup_of_ascending (doorsWhere_ascending (fun c => c.relatchOwed) h),
        ((nodup_of_ascending (releasedDoors_ascending h)).sublist (List.drop_sublist _ _)), fun d owed hd => ?_⟩
      have owes : (s.channel d).relatchOwed = true := (mem_doorsWhere (p := fun c => c.relatchOwed) h rfl).mp owed
      rw [((mem d).mp (List.mem_of_mem_drop hd)).2] at owes
      cases owes
    have after : s.lockDoors.state.owingDoors.Nodup :=
      nodup_of_ascending (doorsWhere_ascending (fun c => c.relatchOwed) locked)
    rw [← List.length_append]
    refine ((List.perm_ext_iff_of_nodup after distinct).mpr fun d => ?_).length_eq
    rw [List.mem_append]
    refine (mem_doorsWhere (p := fun c => c.relatchOwed) locked rfl).trans ?_
    refine Iff.trans ?_ (or_congr_left (mem_doorsWhere (p := fun c => c.relatchOwed) h rfl).symm)
    rw [channel d]
    have disjoint : d ∈ s.releasedDoors.take (64 - s.scheduler.orders.length) →
        d ∉ s.releasedDoors.drop (64 - s.scheduler.orders.length) := fun first last =>
      (List.disjoint_take_drop (nodup_of_ascending (releasedDoors_ascending h)) (Nat.le_refl _)) first last
    split
    next placed =>
      refine iff_of_false nofun ?_
      rintro (owes | owing)
      · rw [((mem d).mp (List.mem_of_mem_take placed)).2] at owes
        cases owes
      · exact disjoint placed owing
    next =>
      split
      next owing =>
        refine iff_of_true ?_ (.inr owing)
        obtain ⟨timer, confirm, state⟩ := ChannelState.exists_of_isReleased ((mem d).mp (List.mem_of_mem_drop owing)).1
        simp only [Channel.owing, state]
      next aside =>
        rw [or_iff_left aside]
        split <;> rfl

/-! ## MODE.SET -/

theorem blockSecure_again (h : s.store.mode = .secure) : blockSecure () s = (s, .outcome .accepted) := by
  simp only [blockSecure, h]

theorem blockSecure_locks (h : s.store.mode = .service) : blockSecure () s =
    ((s.setMode .secure .secure).lockDoors.state.closeLanes .secure,
      .lockdown s.standingRequests (s.setMode .secure .secure).lockDoors.placed
        (s.setMode .secure .secure).lockDoors.state.owingDoors.length s.effectiveLanes) := by
  simp only [blockSecure, h]

theorem blockModeCode_other {code : Nat} (h : 1 < code) : blockModeCode code s = (s, .refused .range) :=
  if_pos (by omega)

theorem blockModeCode_again (h : s.store.mode = .service) : blockModeCode 0 s = (s, .outcome .accepted) := by
  simp only [blockModeCode, h]
  rfl

theorem blockModeCode_reopens (h : s.store.mode = .secure) : blockModeCode 0 s = ({ s with
    store := { s.store with opState := .service, mode := .service }
    doorUnit := { s.doorUnit with auditPointer := 0 } }, .outcome .accepted) := by
  simp only [blockModeCode, h]
  rfl

/-- Settles O50. -/
theorem modeSetLocksDownAndReopens : Obligations.ModeSetLocksDownAndReopens := by
  unfold Obligations.ModeSetLocksDownAndReopens
  intro s tag work
  have ready := ready_of_atWork work
  have takes := whenLoaded_takes (loaded_of_atWork work)
  have locks {t : State} {answer : Answer} (h : blockSecure () s = (t, answer)) :
      exec (.modeSetSecure tag .whole) s = .next (t.replied 0xE4#8 tag answer) :=
    serve_block ready blockSecure_blind takes h _
  have serves {code : Nat} {t : State} {answer : Answer} (h : blockModeCode code s = (t, answer)) :
      exec (.modeSetService tag (.fit code)) s = .next (t.replied 0xE4#8 tag answer) :=
    serve_block ready blockModeCode_blind takes h _
  refine ⟨fun secure => locks (blockSecure_again secure), fun service => serves (blockModeCode_again service),
    fun secure => serves (blockModeCode_reopens secure), fun code other => serves (blockModeCode_other other),
    fun released placed owing gates shut service tables hreleased hplaced howing hgates hshut => ?_⟩
  have canonical : (s.setMode .secure .secure).Canonical := { s.tablesLaw_iff.mp tables with }
  have locked := lockDoors_locked canonical rfl
  rw [show (s.setMode .secure .secure).releasedDoors = released from hreleased.symm,
    show released.take (64 - (s.setMode .secure .secure).scheduler.orders.length) = placed from hplaced.symm,
    show released.drop (64 - (s.setMode .secure .secure).scheduler.orders.length) = owing from howing.symm] at locked
  obtain ⟨frame, count, bus, channel, mem, all, owed⟩ := locked
  generalize hl : (s.setMode .secure .secure).lockDoors = l at *
  have lanes : l.state.lanes = s.lanes := by rw [frame]; rfl
  have clock : l.state.clock = s.clock := by rw [frame]; rfl
  have closed := closeLanes_eq l.state .secure (gates := gates) (shut := shut) (by rw [lanes, hgates])
    (by rw [clock]; exact hshut)
  rw [raises_link_congr (fun n => .laneHeld n .secure) gates (s := s) (by rw [frame]; rfl) (by rw [clock]) (by rw [clock]),
    lanes] at closed
  have secured := blockSecure_locks service
  rw [hl, count, owed, show s.effectiveLanes = gates.length by rw [hgates]; rfl] at secured
  have owes : (s.setMode .secure .secure).owingDoors.length =
      (s.doorUnit.channels.filter fun e => e.2.relatchOwed).length := List.length_map ..
  rw [owes] at secured
  refine ⟨l.state.closeLanes .secure, locks secured, ?_, fun b => ?_, fun d c hc => ?_⟩
  · rw [closed]
    conv_lhs => rw [frame]
    rfl
  · rw [closed]
    exact bus b
  · have final : (l.state.closeLanes .secure).channel d = l.state.channel d := by rw [closed]; rfl
    rw [final, channel d]
    replace hc : (s.setMode .secure .secure).channel d = c := hc.symm
    have hmem := mem d
    rw [hc] at hmem ⊢
    rw [all, List.mem_append] at hmem
    have aside (h : ¬ (c.state.isReleased = true ∧ c.relatchOwed = false)) : d ∉ placed ∧ d ∉ owing :=
      not_or.mp fun listed => h (hmem.mp listed)
    refine ⟨fun pending latched => ?_, fun pending loose => ?_, fun timer confirm state free => ⟨fun placed => ?_,
      fun unplaced => ?_⟩, fun idle h => ?_⟩
    · obtain ⟨unplaced, free⟩ := aside (by rw [pending]; exact nofun)
      rw [if_neg unplaced, if_neg free, if_pos pending, Channel.cancelled, if_pos latched]
    · obtain ⟨unplaced, free⟩ := aside (by rw [pending]; exact nofun)
      rw [if_neg unplaced, if_neg free, if_pos pending, Channel.cancelled, if_neg loose]
    · rw [if_pos placed, Channel.relatched, free]
    · have owes : d ∈ owing := (hmem.mpr ⟨by rw [state]; rfl, free⟩).resolve_left unplaced
      refine ⟨owes, ?_⟩
      rw [if_neg unplaced, if_pos owes, Channel.owing, state]
    · obtain ⟨unplaced, free⟩ := aside (by
        rintro ⟨released, free⟩
        rcases h with owes | other
        · rw [free] at owes
          cases owes
        · rw [released] at other
          cases other)
      rw [if_neg unplaced, if_neg free, if_neg idle]

end Sys2Proof.Machine
end

section
/-! The door channel: one write after another, DOOR.REPORT and the timers of a channel (R46 to R55). -/

namespace Sys2Proof.Machine

variable {s : State}

/-! ## One write after another -/

theorem Table.erase_put {α : Type} (t : Table α) (k : Nat) (v : α) :
    Table.erase (Table.put t k v) k = Table.erase t k := by
  induction t with
  | nil => simp [Table.put, Table.erase]
  | cons e t ih =>
    obtain ⟨j, x⟩ := e
    by_cases before : k < j
    · simp [Table.put, before, Table.erase]
    · by_cases here : k = j
      · simp [Table.put, here, Table.erase]
      · rw [Table.put, if_neg before, if_neg here, Table.erase, List.filter_cons_of_pos (by simpa using Ne.symm here),
          Table.erase, List.filter_cons_of_pos (by simpa using Ne.symm here)]
        exact congrArg _ ih

/-- A write over an entry that is no default replaces it. -/
theorem Table.set_set_of_ne {α : Type} [DecidableEq α] {d : α} (t : Table α) (k : Nat) {v : α} (w : α) (h : v ≠ d) :
    Table.set d (Table.set d t k v) k w = Table.set d t k w := by
  rw [Table.set, Table.set, if_neg h, Table.set, Table.put_put, Table.erase_put]

/-- A write over an entry of a table with rising keys replaces it. -/
theorem Table.set_set {α : Type} [DecidableEq α] {d : α} {t : Table α} (rising : Table.rising t = true) (k : Nat) (v w : α) :
    Table.set d (Table.set d t k v) k w = Table.set d t k w := by
  by_cases h : v = d
  · subst h
    have erased := Table.rising_erase rising k
    rw [Table.set, Table.set, if_pos rfl, Table.set]
    split
    · simp only [Table.erase, List.filter_filter, Bool.and_self]
    · refine Table.eq_of_find (Table.rising_put erased k w) (Table.rising_put rising k w) fun j => ?_
      by_cases same : j = k
      · rw [same, Table.find_put_self, Table.find_put_self]
      · rw [Table.find_put_other _ _ same, Table.find_put_other _ _ same, Table.find_erase_other _ same]
  · exact Table.set_set_of_ne t k w h

theorem setChannel_setChannel (s : State) (d : Nat) {c : Channel} (e : Channel) (h : c ≠ Channel.start) :
    (s.setChannel d c).setChannel d e = s.setChannel d e := by
  unfold State.setChannel
  rw [Table.set_set_of_ne _ _ _ h]

/-! ## Transitions of a channel at a report (R48 to R55) -/

section
variable {door : Nat} {c : Channel} (reported : c ≠ Channel.start)
include reported

theorem openDoor_setChannel (s : State) : (s.setChannel door c).openDoor door = s.setChannel door { c with
    state := .opened (s.clock.ms + s.store.settings.ajarTime * 1000), relatchOwed := false } := by
  rw [State.openDoor, setChannel_setChannel _ _ _ reported, State.channel_setChannel_self]
  rfl

theorem secureDoor_setChannel (s : State) : (s.setChannel door c).secureDoor door = s.setChannel door { c with
    state := .secured, relatchOwed := false } := by
  rw [State.secureDoor, setChannel_setChannel _ _ _ reported, State.channel_setChannel_self]

theorem callRelatch_setChannel_room (s : State) (v : ChannelState) (room : s.scheduler.orders.length < 64) :
    (s.setChannel door c).callRelatch door v = { s with scheduler := { s.scheduler with
        orders := s.scheduler.orders ++ ([⟨.relatch, door, s.clock.runSeconds⟩] : List Order) } }.setChannel door
      { c with state := .relatching .awaitingFetch, relatchOwed := false } := by
  have room : (s.setChannel door c).orderRoom = true := decide_eq_true room
  rw [callRelatch_room v room, State.channel_setChannel_self]
  exact setChannel_setChannel (s.placeOrder .relatch door) door _ reported

theorem callRelatch_setChannel_full (s : State) (v : ChannelState) (full : 64 ≤ s.scheduler.orders.length) :
    (s.setChannel door c).callRelatch door v = s.setChannel door { c with state := v, relatchOwed := true } := by
  have full : (s.setChannel door c).orderRoom = false := decide_eq_false (Nat.not_lt.mpr full)
  rw [callRelatch_full v full, State.channel_setChannel_self, setChannel_setChannel _ _ _ reported]

/-- A report of OPEN at a door that is neither PENDING nor open already opens it. -/
theorem reportOpen_opens (h : c.state = .unknown ∨ c.state = .secured ∨ c.state = .fault ∨
      (∃ x, c.state = .relatching x) ∨ ∃ x y, c.state = .released x y) :
    (s.setChannel door c).reportOpen door = s.setChannel door { c with
      state := .opened (s.clock.ms + s.store.settings.ajarTime * 1000), relatchOwed := false } := by
  rw [State.reportOpen, State.channel_setChannel_self, openDoor_setChannel reported]
  rcases h with e | e | e | ⟨x, e⟩ | ⟨x, y, e⟩ <;> simp only [e]

theorem reportOpen_pending (h : c.state = .pending) {b : Nat} (bus : (s.doorConfig door).bus = b) :
    (s.setChannel door c).reportOpen door = (s.setBus b { s.bus b with
      queue := (s.bus b).queue.filter fun d => d != door }).setChannel door { c with
        state := .opened (s.clock.ms + s.store.settings.ajarTime * 1000), relatchOwed := false } := by
  subst bus
  rw [State.reportOpen, State.channel_setChannel_self]
  simp only [h]
  exact openDoor_setChannel reported (s.setBus (s.doorConfig door).bus { s.bus (s.doorConfig door).bus with
    queue := (s.bus (s.doorConfig door).bus).queue.filter fun d => d != door })

/-- A report of CLOSED and LATCHED secures a door that waits for nothing more. -/
theorem reportLatched_secures (idle : c.state ≠ .pending) (h : c.state.isReleased = false ∨ c.relatchOwed = true ∨
      ∃ x, c.state = .released x .satisfied) :
    (s.setChannel door c).reportLatched door = s.setChannel door { c with state := .secured, relatchOwed := false } := by
  rw [State.reportLatched, State.channel_setChannel_self, secureDoor_setChannel reported]
  cases e : c.state with
  | pending => exact absurd e idle
  | released x y =>
    have settled : y = .satisfied ∨ c.relatchOwed = true := by
      rw [e] at h
      rcases h with other | owed | ⟨_, same⟩
      · cases other
      · exact .inr owed
      · cases same
        exact .inl rfl
    exact if_pos settled
  | _ => rfl

omit reported in
theorem reportUnlatched_relatches (h : c.state = .secured ∨ c.state = .ajar ∨ (∃ x, c.state = .opened x) ∨
      c.state = .unknown ∧ c.relatchOwed = false) :
    (s.setChannel door c).reportUnlatched door = (s.setChannel door c).callRelatch door .unknown := by
  rw [State.reportUnlatched, State.channel_setChannel_self]
  rcases h with e | e | ⟨x, e⟩ | ⟨e, free⟩
  · simp only [e]
  · simp only [e]
  · simp only [e]
  · simp only [e, free]
    rfl

theorem reportUnlatched_released {x : Option Nat} {y : StrikeConfirm} (h : c.state = .released x y) :
    (s.setChannel door c).reportUnlatched door = s.setChannel door { c with state := .released x .satisfied } := by
  rw [State.reportUnlatched, State.channel_setChannel_self]
  simp only [h, State.setChannelState, State.channel_setChannel_self]
  rw [setChannel_setChannel _ _ _ reported]

end

section
variable {door : Nat} {c : Channel}

theorem reportOpen_stays (h : c.state = .ajar ∨ ∃ t, c.state = .opened t) :
    (s.setChannel door c).reportOpen door = s.setChannel door c := by
  rw [State.reportOpen, State.channel_setChannel_self]
  rcases h with e | ⟨t, e⟩ <;> simp only [e]

theorem reportLatched_stays
    (h : c.state = .pending ∨ ∃ x y, c.state = .released x y ∧ y ≠ .satisfied ∧ c.relatchOwed = false) :
    (s.setChannel door c).reportLatched door = s.setChannel door c := by
  rw [State.reportLatched, State.channel_setChannel_self]
  rcases h with e | ⟨x, y, e, waits, free⟩
  · simp only [e]
  · simp only [e]
    exact if_neg (by simp [waits, free])

theorem reportUnlatched_stays (h : c.state = .pending ∨ c.state = .fault ∨ (∃ x, c.state = .relatching x) ∨
      c.state = .unknown ∧ c.relatchOwed = true) :
    (s.setChannel door c).reportUnlatched door = s.setChannel door c := by
  rw [State.reportUnlatched, State.channel_setChannel_self]
  rcases h with e | e | ⟨x, e⟩ | ⟨e, owed⟩
  · simp only [e]
  · simp only [e]
  · simp only [e]
  · simp only [e, owed, if_true]

end

/-! ## DOOR.REPORT -/

/-- A report for a configured door: the fields are taken, the channel moves, and its state is answered. -/
theorem blockDoorReport_moves {q : DoorReportReq} {contact : Contact} {latch : Latch} {dnd poll : Bool} {c d : Channel}
    {t : State} (room : q.door ≤ 4095) (configured : (s.doorConfig q.door).configured = true)
    (hcontact : contactOf q.contact = some contact) (hlatch : latchOf q.latch = some latch)
    (hdnd : flagOf q.dnd = some dnd) (hpoll : isPollReplyOf q.cause = some poll)
    (hc : c = { s.channel q.door with
      dnd := dnd
      pollOutstanding := if poll then false else (s.channel q.door).pollOutstanding
      missCount := if poll then 0 else (s.channel q.door).missCount })
    (moves : (s.setChannel q.door { c with lastReport := some (contact, latch) }).reportTransition q.door contact latch =
      t) (after : t.channel q.door = d) :
    blockDoorReport q s = (t, .doorReport d.state d.relatchOwed) := by
  have taken : s.takeReport q.door contact latch dnd poll = t := by
    rw [← moves, hc]
    cases poll <;> rfl
  subst after
  simp only [blockDoorReport, hcontact, hlatch, hdnd, hpoll, if_neg (show ¬ doorCount ≤ q.door from Nat.not_le.mpr
    (Nat.lt_succ_of_le room)), configured, taken]
  rfl

/-- Settles O27. -/
theorem doorReportsMoveTheChannel : Obligations.DoorReportsMoveTheChannel := by
  unfold Obligations.DoorReportsMoveTheChannel
  intro s tag door dndCode causeCode dnd poll c ready loaded room configured hdnd hpoll hc
  have reports {contactCode latchCode : Nat} {contact : Contact} {latch : Latch} {d : Channel} {t : State}
      (hcontact : contactOf contactCode = some contact) (hlatch : latchOf latchCode = some latch)
      (moves : (s.setChannel door { c with lastReport := some (contact, latch) }).reportTransition door contact latch =
        t) (after : t.channel door = d) :
      exec (.doorReport tag (.fit ⟨door, contactCode, latchCode, dndCode, causeCode⟩)) s =
        .next (t.replied 0xB1#8 tag (.doorReport d.state d.relatchOwed)) :=
    serve_block ready blockDoorReport_blind (whenLoaded_takes loaded) (blockDoorReport_moves
      (q := ⟨door, contactCode, latchCode, dndCode, causeCode⟩) room configured hcontact hlatch hdnd hpoll hc moves after) _
  have reported (contact : Contact) (latch : Latch) : { c with lastReport := some (contact, latch) } ≠ Channel.start :=
    fun e => by cases congrArg Channel.lastReport e
  refine ⟨fun latchCode latch hlatch => ⟨fun st hst h => ?_, fun st hst h => ?_, fun st b hst h bus => ?_⟩,
    fun h => ?_, fun ⟨idle, h⟩ => ?_, fun st h => ?_, fun h => ⟨fun free => ?_, fun full => ?_⟩⟩
  · subst hst
    exact reports (contactCode := 0) (d := { c with lastReport := some (.opened, latch) }) rfl hlatch
      (reportOpen_stays (c := { c with lastReport := some (.opened, latch) }) h)
      (State.channel_setChannel_self ..)
  · subst hst
    exact reports (contactCode := 0) rfl hlatch (reportOpen_opens (reported _ _) h) (State.channel_setChannel_self ..)
  · subst hst
    exact reports (contactCode := 0) rfl hlatch (reportOpen_pending (reported _ _) h bus) (State.channel_setChannel_self ..)
  · exact reports (contactCode := 1) (latchCode := 0) (d := { c with lastReport := some (.closed, .latched) }) rfl rfl
      (reportLatched_stays (c := { c with lastReport := some (.closed, .latched) }) h) (State.channel_setChannel_self ..)
  · exact reports (contactCode := 1) (latchCode := 0) rfl rfl (reportLatched_secures (reported _ _) idle h)
      (State.channel_setChannel_self ..)
  · rcases h with ⟨hst, h⟩ | ⟨x, y, state, rfl⟩
    · subst hst
      exact reports (contactCode := 1) (latchCode := 1) (d := { c with lastReport := some (.closed, .unlatched) }) rfl rfl
        (reportUnlatched_stays (c := { c with lastReport := some (.closed, .unlatched) }) h)
        (State.channel_setChannel_self ..)
    · exact reports (contactCode := 1) (latchCode := 1) rfl rfl (reportUnlatched_released (reported _ _) state)
        (State.channel_setChannel_self ..)
  · exact reports (contactCode := 1) (latchCode := 1) rfl rfl
      ((reportUnlatched_relatches (c := { c with lastReport := some (.closed, .unlatched) }) h).trans
      (callRelatch_setChannel_room (reported _ _) s .unknown free)) (State.channel_setChannel_self ..)
  · exact reports (contactCode := 1) (latchCode := 1) rfl rfl
      ((reportUnlatched_relatches (c := { c with lastReport := some (.closed, .unlatched) }) h).trans
      (callRelatch_setChannel_full (reported _ _) s .unknown full)) (State.channel_setChannel_self ..)

/-! ## Timers of a channel (R47, R52 to R54) -/

section
variable {door t : Nat} (loaded : s.loaded = true)
include loaded

theorem relatchExpires_eq {confirm : StrikeConfirm} (h : (s.channel door).state = .released (some t) confirm) :
    relatchExpires door s = some ((s.advanceTo t).callRelatch door (.released none confirm)) := by
  simp only [relatchExpires, loaded, h]

theorem strikeConfirmExpires_eq {timer : Option Nat} (h : (s.channel door).state = .released timer (.running t)) :
    strikeConfirmExpires door s = some ((s.advanceTo t).faultDoor door .strikeConfirm) := by
  simp only [strikeConfirmExpires, loaded, h]

theorem ajarExpires_eq (h : (s.channel door).state = .opened t) : ajarExpires door s =
    some (((s.advanceTo t).setChannelState door .ajar).raise (.doorAjar door s.store.settings.ajarTime)) := by
  simp only [ajarExpires, loaded, h]

theorem relatchConfirmExpires_eq (h : (s.channel door).state = .relatching (.running t)) :
    relatchConfirmExpires door s = some ((s.advanceTo t).faultDoor door .relatchConfirm) := by
  simp only [relatchConfirmExpires, loaded, h]

end

/-- Settles O29. -/
theorem channelTimersMoveTheirDoor : Obligations.ChannelTimersMoveTheirDoor := by
  unfold Obligations.ChannelTimersMoveTheirDoor
  intro s u door t takes loaded hu
  subst hu
  refine ⟨fun confirm state => ⟨fun room => ?_, fun full => ?_⟩,
    fun timer state => happens_taken takes (strikeConfirmExpires_eq loaded state),
    fun state => happens_taken takes (ajarExpires_eq loaded state),
    fun state => happens_taken takes (relatchConfirmExpires_eq loaded state), fun past => ?_, fun future => ?_⟩
  · have room : (s.advanceTo t).orderRoom = true := decide_eq_true room
    have expires := relatchExpires_eq loaded state
    rw [callRelatch_room _ room] at expires
    exact happens_taken takes expires
  · have full : (s.advanceTo t).orderRoom = false := decide_eq_false (Nat.not_lt.mpr full)
    have expires := relatchExpires_eq loaded state
    rw [callRelatch_full _ full] at expires
    exact happens_taken takes expires
  · rw [State.advanceTo, Clock.advanceTo_le _ past]
  · rw [advanceTo_ms, Nat.max_eq_right (Nat.le_of_lt future)]

end Sys2Proof.Machine
end

section
/-! DOOR.CARD: SECURITY cards, grants by the channel, and the metered refusals (R28 to R40, R56, R58, R59). -/

namespace Sys2Proof.Machine

variable {s w v : State}

/-! ## The reader (R28) -/

theorem raise_setReader (s : State) (b : NoticeBody) (d : Nat) (r : Reader) :
    (s.raise b).setReader d r = (s.setReader d r).raise b := by
  rw [State.raise_eq, State.raise_eq]
  rfl

theorem reader_setReader_self (s : State) (d : Nat) (r : Reader) : (s.setReader d r).reader d = r :=
  Table.get_set_self ..

theorem setReader_setReader (h : s.Canonical) (d : Nat) (r q : Reader) :
    (s.setReader d r).setReader d q = s.setReader d q := by
  have readers := h.readers
  rw [Table.canonical, Bool.and_eq_true] at readers
  unfold State.setReader
  rw [Table.set_set readers.1]

section
variable {door uid issue t : Nat}

theorem decideAt_free (h : (s.reader door).blockedUntil = none) :
    s.decideAt door uid issue = s.decideCard door uid issue := by
  simp only [State.decideAt, h]

/-- A block that has run out is cleared first. -/
theorem decideAt_runOut (h : (s.reader door).blockedUntil = some t) (past : t ≤ s.clock.runSeconds) :
    s.decideAt door uid issue = (s.setReader door ⟨(s.reader door).history, none⟩).decideCard door uid issue := by
  simp only [State.decideAt, h, if_neg (Nat.not_lt.mpr past)]

end

/-! ## The card presented -/

section
variable {door uid slot : Nat} {c : Card} (found : s.cardByUid uid = some (slot, c))
include found

theorem decideCard_security (h : c.config.cls = .security) :
    s.decideCard door uid c.issue = s.grantSecurity door slot c := by
  simp only [State.decideCard, present_current found, if_pos h]

theorem decideBlocked_security (h : c.config.cls = .security) :
    s.decideBlocked door uid c.issue = s.grantSecurity door slot c := by
  simp only [State.decideBlocked, present_current found, if_pos h]

theorem decideCard_grants (h : c.config.cls ≠ .security) (passes : s.doorRefusal c door = none) :
    s.decideCard door uid c.issue = s.grantCard door slot c := by
  simp only [State.decideCard, present_current found, if_neg h, passes]

theorem decideCard_refuses (h : c.config.cls ≠ .security) {o : JobOutcome} (refuses : s.doorRefusal c door = some o) :
    s.decideCard door uid c.issue = s.refuseAt door o (some (s.cardView slot c)) := by
  simp only [State.decideCard, present_current found, if_neg h, refuses]

end

/-! ## Check 10: a card granted while ASHORE (R38) -/

/-- An ASHORE card becomes UNVERIFIED and leaves the ashore list (R131). -/
theorem relocate_unverified {slot : Nat} {c : Card} (ashore : c.presence = .ashore) :
    s.relocate slot c .unverified none = { s with
      store := { s.store with cards := Table.put s.store.cards slot { c with
        presence := .unverified
        departure := none } }
      tracker := ⟨(s.tracker.counts.uncount c.config.cls .ashore).count c.config.cls .unverified,
        s.tracker.ashore.filter fun x => x != slot⟩ } := by
  have columns : ¬ c.presence.column = Presence.unverified.column := by rw [ashore]; decide
  simp only [State.relocate, if_neg columns, if_pos ashore, if_neg (show ¬ Presence.unverified = .ashore by decide)]
  rw [ashore]
  rfl

theorem presenceNote_aboard {slot door : Nat} {c : Card} (h : c.presence ≠ .ashore) : s.presenceNote slot c door = s :=
  if_neg h

theorem presenceNote_ashore {slot door : Nat} {c : Card} (h : c.presence = .ashore) : s.presenceNote slot c door =
    State.raise { s with
      store := { s.store with cards := Table.put s.store.cards slot { c with
        presence := .unverified
        departure := none } }
      tracker := ⟨(s.tracker.counts.uncount c.config.cls .ashore).count c.config.cls .unverified,
        s.tracker.ashore.filter fun x => x != slot⟩ } (.presence c.uid door) := by
  rw [State.presenceNote, if_pos h,
    movePresence_plain (by rw [h]; decide) (.inl (not_aboardShip_of (.inr (.inl h)))), relocate_unverified h]

theorem raise_channel (s : State) (b : NoticeBody) (d : Nat) : (s.raise b).channel d = s.channel d := by
  rw [State.channel, State.raise_doorUnit]
  rfl

/-! ## SECURITY cards (R30) -/

/-- Settles O23. -/
theorem securityCardsAreGrantedUnmetered : Obligations.SecurityCardsAreGrantedUnmetered := by
  unfold Obligations.SecurityCardsAreGrantedUnmetered
  intro s u v tag door uid slot c work room configured found issue security hu hv
  have canonical := canonical_of_atWork work
  have card : Table.find s.store.cards slot = some c := Table.find_of_mem canonical.cards (Table.mem_of_seek found)
  have decided : s.decideAt door uid c.issue = u.grantSecurity door slot c := by
    rcases hu with ⟨none | ⟨t, blocked, running⟩, rfl⟩ | ⟨⟨t, blocked, past⟩, rfl⟩
    · rw [decideAt_free none, decideCard_security found security]
    · rw [decideAt_blocked blocked running, decideBlocked_security found security]
    · rw [decideAt_runOut blocked past]
      exact decideCard_security (s := s.setReader door ⟨(s.reader door).history, none⟩) found security
  have same : u.store = s.store ∧ u.tracker = s.tracker ∧ u.channel door = s.channel door := by
    rcases hu with ⟨_, rfl⟩ | ⟨_, rfl⟩ <;> exact ⟨rfl, rfl, rfl⟩
  obtain ⟨store, tracker, channel⟩ := same
  have noticed : (if (u.channel door).dnd || decide (u.store.mode = .secure) then u.raise (.override c.uid door) else u) =
      v := by
    rw [store, channel]
    rcases hv with ⟨dnd, mode, rfl⟩ | ⟨dnd | mode, rfl⟩
    · simp [dnd, mode]
    · simp [dnd]
    · simp [mode]
  have after : v.store = s.store ∧ v.tracker = s.tracker ∧ v.channel door = s.channel door := by
    rcases hv with ⟨_, _, rfl⟩ | ⟨_, rfl⟩
    · exact ⟨store, tracker, channel⟩
    · rw [State.raise_store, State.raise_tracker, raise_channel]
      exact ⟨store, tracker, channel⟩
  obtain ⟨store, tracker, channel⟩ := after
  have granted : s.decideAt door uid c.issue = (v.presenceNote slot c door,
      .doorCard .grant ((v.presenceNote slot c door).channel door).state
        (some ((v.presenceNote slot c door).cardView slot c)) none) := by
    rw [decided, State.grantSecurity, noticed]
  have cards {t : State} {answer : Answer} (h : s.decideAt door uid c.issue = (t, answer)) :
      exec (.doorCard tag (.fit ⟨door, uid, c.issue⟩)) s = .next (t.replied 0xB0#8 tag answer) :=
    serve_block (ready_of_atWork work) blockDoorCard_blind (whenLoaded_takes (loaded_of_atWork work))
      ((blockDoorCard_configured room issue configured).trans h) _
  refine ⟨fun aboard => ?_, fun ashore => ?_⟩
  · rw [presenceNote_aboard aboard, channel, cardView_of_find (by rw [store, card]), security] at granted
    exact cards granted
  · have view : (v.presenceNote slot c door).cardView slot c = ⟨slot, .security, .unverified⟩ := by
      rw [presenceNote_ashore ashore, cardView_of_find (by rw [State.raise_store]; exact Table.find_put_self _ slot _),
        security]
    have state : (v.presenceNote slot c door).channel door = s.channel door := by
      rw [presenceNote_ashore ashore, raise_channel]
      exact channel
    rw [view, state, presenceNote_ashore ashore, store, tracker, security] at granted
    exact cards granted

/-! ## Checks 5 to 8 (R31 to R35) -/

section
variable {c : Card} {door : Nat}

theorem insideHours_iff {hours : Option Span2} {shipTime : Option Nat} : insideHours hours shipTime = true ↔
    ∃ h x, hours = some h ∧ shipTime = some x ∧ (if h.first < h.second then h.first ≤ x / 60 ∧ x / 60 < h.second
      else h.first ≤ x / 60 ∨ x / 60 < h.second) := by
  unfold insideHours
  split
  next h x =>
    by_cases lt : h.first < h.second <;> simp [lt]
  next other =>
    refine iff_of_false nofun ?_
    rintro ⟨h, x, hours, time, _⟩
    exact other h x hours time

theorem insideSection_iff {sect : Option Span2} : insideSection sect door = true ↔
    ∃ p, sect = some p ∧ p.first ≤ door ∧ door ≤ p.second := by
  cases sect with
  | none => simp [insideSection]
  | some p => simp [insideSection]

theorem classRefusal_passes (h : door ∈ c.config.cabins ∨ ∃ p h x, c.config.cls = .crew ∧ c.config.section_ = some p ∧
      p.first ≤ door ∧ door ≤ p.second ∧ c.config.hours = some h ∧ s.clock.shipTime = some x ∧
      (if h.first < h.second then h.first ≤ x / 60 ∧ x / 60 < h.second
        else h.first ≤ x / 60 ∨ x / 60 < h.second) ∧ (s.channel door).dnd = false) :
    s.classRefusal c door = none := by
  rcases h with own | ⟨p, h, x, crew, sect, low, high, hours, time, inside, quiet⟩
  · exact if_pos (List.contains_iff_mem.mpr own)
  · have within : insideSection c.config.section_ door = true := insideSection_iff.mpr ⟨p, sect, low, high⟩
    have onTime : insideHours c.config.hours s.clock.shipTime = true := insideHours_iff.mpr ⟨h, x, hours, time, inside⟩
    unfold State.classRefusal
    split
    · rfl
    · rw [within, onTime, quiet]
      rfl

/-- A card past checks 5 to 7 goes on to the class rules. -/
theorem doorRefusal_class (service : s.store.mode = .service) (boarded : c.presence ≠ .expected)
    (here : c.presence ≠ .missed) (first : c.config.firstDay ≤ s.clock.shipDay)
    (last : s.clock.shipDay ≤ c.config.lastDay) : s.doorRefusal c door = s.classRefusal c door := by
  rw [State.doorRefusal, if_neg (by rw [service]; decide), if_neg boarded, if_neg here, if_neg (by omega)]

end

/-! ## Grants by the channel (R36, R37, R56, R58, R59) -/

section
variable {door slot : Nat} {c : Card}

theorem grantCard_notes {g : GrantResult} (grants : s.grantAt door = g) (h : g.outcome ≠ .busFull) :
    s.grantCard door slot c = (g.state.presenceNote slot c door, .doorCard g.outcome g.channel
      (some ((g.state.presenceNote slot c door).cardView slot c)) g.position) := by
  subst grants
  simp only [State.grantCard, if_neg h]

theorem grantCard_busFull {g : GrantResult} (grants : s.grantAt door = g) (h : g.outcome = .busFull) :
    s.grantCard door slot c = (g.state, .doorCard .busFull g.channel (some (g.state.cardView slot c)) g.position) := by
  subst grants
  simp only [State.grantCard, h, if_true]

theorem grantAt_pending (h : (s.channel door).state = .pending) : s.grantAt door = ⟨s, .grantPending, .pending, none⟩ := by
  simp only [State.grantAt, h]

theorem grantAt_open {st : ChannelState} (state : (s.channel door).state = st) (h : st = .ajar ∨ ∃ t, st = .opened t) :
    s.grantAt door = ⟨s, .grantOpen, st, none⟩ := by
  rcases h with rfl | ⟨t, rfl⟩ <;> simp only [State.grantAt, state]

theorem grantAt_released {timer : Option Nat} {confirm : StrikeConfirm} {st : ChannelState}
    (state : (s.channel door).state = .released timer confirm)
    (h : st = .released (some (s.clock.ms + s.store.settings.relatchTime * 1000)) confirm) :
    s.grantAt door = ⟨s.setChannel door { s.channel door with state := st, relatchOwed := false }, .grantOpen, st, none⟩ := by
  subst h
  simp only [State.grantAt, state]

theorem grantAt_requests {st : ChannelState} (state : (s.channel door).state = st)
    (h : st = .unknown ∨ st = .secured ∨ st = .fault ∨ ∃ x, st = .relatching x) :
    s.grantAt door = s.strikeRequest door := by
  rcases h with rfl | rfl | rfl | ⟨x, rfl⟩ <;> simp only [State.grantAt, state]

variable {b : Nat} {queue history : List Nat} (number : (s.doorConfig door).bus = b) (bus : s.bus b = ⟨queue, history⟩)
include number bus

theorem strikeRequest_full (h : 8 ≤ queue.length) :
    s.strikeRequest door = ⟨s, .busFull, (s.channel door).state, none⟩ := by
  subst number
  simp only [State.strikeRequest, bus, busQueueRoom, if_neg (Nat.not_lt.mpr h)]

/-- The state once the request has joined the queue of its bus. -/
theorem strikeRequest_joins (h : queue.length < 8) : s.strikeRequest door =
    ⟨((s.setBus b ⟨queue ++ [door], history⟩).setChannel door { s.channel door with
      state := .pending, relatchOwed := false }).consider b, .grantQueued, .pending, some (queue.length + 1)⟩ := by
  subst number
  simp only [State.strikeRequest, bus, busQueueRoom, if_pos h, State.channel_setBus]

end

section
variable {door b : Nat} {queue history : List Nat} {c : Channel}

theorem bus_joined (s : State) :
    ((s.setBus b ⟨queue ++ [door], history⟩).setChannel door c).bus b = ⟨queue ++ [door], history⟩ := by
  rw [State.bus_setChannel, State.bus_setBus_self]

theorem mayRelease_joined (s : State) : ((s.setBus b ⟨queue ++ [door], history⟩).setChannel door c).mayRelease b =
    (decide ((history.filter fun t => decide (s.clock.ms - t < s.store.settings.busWindow)).length <
      s.store.settings.busBudget) && decide (s.scheduler.orders.length < 64)) := by
  have queued : (queue ++ [door]).isEmpty = false := by simp
  rw [State.mayRelease, State.countedReleases, bus_joined, queued]
  rfl

/-- A bus that may not release keeps the request. -/
theorem consider_keeps (h : 64 ≤ s.scheduler.orders.length ∨ s.store.settings.busBudget ≤ (history.filter fun t =>
      decide (s.clock.ms - t < s.store.settings.busWindow)).length) :
    ((s.setBus b ⟨queue ++ [door], history⟩).setChannel door c).consider b =
      (s.setBus b ⟨queue ++ [door], history⟩).setChannel door c := by
  have held : ((s.setBus b ⟨queue ++ [door], history⟩).setChannel door c).mayRelease b = false := by
    rw [mayRelease_joined, Bool.and_eq_false_iff, decide_eq_false_iff_not, decide_eq_false_iff_not]
    exact h.symm.imp Nat.not_lt.mpr Nat.not_lt.mpr
  rw [State.consider, bus_joined, List.length_append, List.length_singleton, State.considerFor, held]
  rfl

/-- A bus that may release does so at once (R60). -/
theorem consider_releases (reported : c ≠ Channel.start) (room : s.scheduler.orders.length < 64)
    (budget : (history.filter fun t => decide (s.clock.ms - t < s.store.settings.busWindow)).length <
      s.store.settings.busBudget) :
    ((s.setBus b ⟨[] ++ [door], history⟩).setChannel door c).consider b = State.setChannel { s with scheduler := {
        buses := Table.set ⟨[], []⟩ s.scheduler.buses b
          ⟨[], (if history.length < 8 then history else history.drop 1) ++ [s.clock.ms]⟩
        orders := s.scheduler.orders ++ ([⟨.strike, door, s.clock.runSeconds⟩] : List Order)
        latestBus := b } } door { c with
      state := .released (some (s.clock.ms + s.store.settings.relatchTime * 1000)) .awaitingFetch } := by
  have may : ((s.setBus b ⟨[] ++ [door], history⟩).setChannel door c).mayRelease b = true := by
    rw [mayRelease_joined, decide_eq_true budget, decide_eq_true room]
    rfl
  have joined : (⟨[] ++ [door], history⟩ : Bus) ≠ Bus.start := fun e => by cases congrArg Bus.queue e
  have queue : (((s.setBus b ⟨[] ++ [door], history⟩).setChannel door c).bus b).queue = door :: [] := by
    rw [bus_joined]
    rfl
  rw [State.consider, bus_joined, List.nil_append, List.length_singleton, State.considerFor,
    show [door] = [] ++ [door] from rfl, may, if_pos rfl, State.considerFor, release_eq queue, bus_joined,
    State.channel_setChannel_self]
  unfold State.setChannel State.setBus
  simp only [Table.set_set_of_ne _ _ _ reported, Table.set_set_of_ne _ _ _ joined]
  rfl

end

/-- Settles O24. -/
theorem cardsAreGrantedByTheChannel : Obligations.CardsAreGrantedByTheChannel := by
  unfold Obligations.CardsAreGrantedByTheChannel
  intro s w tag door uid slot b c queue history note seen work service room configured hw found issue other hnote first
    last rules number bus
  have canonical := canonical_of_atWork work
  have card : Table.find s.store.cards slot = some c := Table.find_of_mem canonical.cards (Table.mem_of_seek found)
  have cleared : s.decideAt door uid c.issue = w.decideCard door uid c.issue ∧ w.store = s.store ∧
      w.tracker = s.tracker ∧ w.clock = s.clock ∧ w.doorUnit = s.doorUnit ∧ w.scheduler = s.scheduler := by
    rcases hw with ⟨none, rfl⟩ | ⟨⟨t, blocked, past⟩, rfl⟩
    · exact ⟨decideAt_free none, rfl, rfl, rfl, rfl, rfl⟩
    · exact ⟨decideAt_runOut blocked past, rfl, rfl, rfl, rfl, rfl⟩
  obtain ⟨decided, store, tracker, clock, doorUnit, scheduler⟩ := cleared
  have channel : w.channel door = s.channel door := by rw [State.channel, doorUnit]; rfl
  have wbus : w.bus b = ⟨queue, history⟩ := by rw [State.bus, scheduler]; exact bus
  have wnumber : (w.doorConfig door).bus = b := by rw [State.doorConfig, store]; exact number
  have present : c.presence ≠ .expected ∧ c.presence ≠ .missed := by
    rcases hnote with ⟨e | e, _⟩ | ⟨e, _⟩ <;> rw [e] <;> decide
  have passes : w.doorRefusal c door = none := by
    rw [doorRefusal_class (by rw [store, service]) present.1 present.2 (by rw [clock]; exact first)
      (by rw [clock]; exact last)]
    refine classRefusal_passes ?_
    rw [clock, channel]
    exact rules
  have noted {v : State} (store : v.store.cards = s.store.cards) (tracker : v.tracker = s.tracker) :
      v.presenceNote slot c door = note v ∧ (note v).cardView slot c = ⟨slot, c.config.cls, seen⟩ := by
    rcases hnote with ⟨aboard, rfl, same⟩ | ⟨ashore, rfl, moves⟩
    · rw [same, presenceNote_aboard (by rcases aboard with e | e <;> rw [e] <;> decide)]
      exact ⟨rfl, cardView_of_find (by rw [store, card]) c⟩
    · rw [moves, presenceNote_ashore ashore, store, tracker]
      refine ⟨rfl, ?_⟩
      rw [cardView_of_find (by rw [State.raise_store]; exact Table.find_put_self s.store.cards slot _)]
  have cards {t : State} {answer : Answer} (h : w.grantCard door slot c = (t, answer)) :
      exec (.doorCard tag (.fit ⟨door, uid, c.issue⟩)) s = .next (t.replied 0xB0#8 tag answer) := by
    have current : w.cardByUid uid = some (slot, c) := by rw [State.cardByUid, store]; exact found
    exact serve_block (ready_of_atWork work) blockDoorCard_blind (whenLoaded_takes (loaded_of_atWork work))
      ((blockDoorCard_configured room issue configured).trans
        (decided.trans ((decideCard_grants current other passes).trans h))) _
  have grants {v : State} {o : JobOutcome} {st : ChannelState} {position : Option Nat}
      (h : w.grantAt door = ⟨v, o, st, position⟩) (granted : o ≠ .busFull) (store : v.store.cards = s.store.cards)
      (tracker : v.tracker = s.tracker) : exec (.doorCard tag (.fit ⟨door, uid, c.issue⟩)) s =
        .next ((note v).replied 0xB0#8 tag (.doorCard o st (some ⟨slot, c.config.cls, seen⟩) position)) := by
    obtain ⟨same, view⟩ := noted store tracker
    have granted := grantCard_notes (slot := slot) (c := c) h granted
    rw [same, view] at granted
    exact cards granted
  have wcards : w.store.cards = s.store.cards := by rw [store]
  refine ⟨fun pending => ?_, fun st state h => ?_, fun timer confirm st state hst => ?_,
    fun st state h => ⟨fun full => ?_, fun room held => ?_, fun empty free budget => ?_⟩⟩
  · exact grants (grantAt_pending (channel ▸ pending)) nofun wcards tracker
  · exact grants (grantAt_open (channel ▸ state) h) nofun wcards tracker
  · rw [← clock, ← store] at hst
    rw [← channel] at state ⊢
    exact grants (grantAt_released state hst) nofun wcards tracker
  · have granted := grantCard_busFull (slot := slot) (c := c)
      ((grantAt_requests (channel ▸ state) h).trans (strikeRequest_full wnumber wbus full)) rfl
    rw [cardView_of_find (by rw [store, card]), channel, state] at granted
    exact cards granted
  · rw [← scheduler, ← store, ← clock] at held
    rw [← channel]
    have joined := strikeRequest_joins wnumber wbus room
    rw [consider_keeps held] at joined
    exact grants ((grantAt_requests (channel ▸ state) h).trans joined) nofun wcards tracker
  · subst empty
    rw [← scheduler] at free
    rw [← clock, ← store] at budget
    have joined := strikeRequest_joins wnumber wbus (by decide)
    have pending : { w.channel door with state := .pending, relatchOwed := false } ≠ Channel.start :=
      fun e => by cases congrArg Channel.state e
    rw [consider_releases pending free budget] at joined
    rw [← channel, ← scheduler, ← clock, ← store]
    exact grants ((grantAt_requests (channel ▸ state) h).trans joined) nofun wcards tracker

/-! ## Metered refusals (R39, R40) -/

section
variable {door : Nat} {h : List Nat} (hh : h = (s.reader door).history.dropWhile (fun x =>
  decide (s.store.settings.refusalWindow ≤ s.clock.runSeconds - x)) ++ [s.clock.runSeconds])
include hh

theorem refusalsWith_eq : s.refusalsWith (s.reader door).history = h := by
  have aged : (fun t => !s.youngRefusal t) = fun x =>
      decide (s.store.settings.refusalWindow ≤ s.clock.runSeconds - x) := by
    funext t
    rw [State.youngRefusal, ← decide_not]
    exact decide_eq_decide.mpr Nat.not_lt
  rw [State.refusalsWith, aged, hh]

variable {t : State} (ht : h.length < s.store.settings.refusalLimit ∧ t = s.setReader door ⟨h, (s.reader door).blockedUntil⟩ ∨
  s.store.settings.refusalLimit ≤ h.length ∧
    t = (s.setReader door ⟨[], some (s.clock.runSeconds + s.store.settings.blockTime)⟩).raise
      (.readerBlocked door s.store.settings.blockTime))
include ht

theorem enterRefusal_eq : s.enterRefusal door = t := by
  unfold State.enterRefusal
  dsimp only
  rw [refusalsWith_eq hh]
  rcases ht with ⟨few, rfl⟩ | ⟨many, rfl⟩
  · exact if_neg (Nat.not_le.mpr few)
  · exact if_pos many

theorem refuseAt_eq {o : JobOutcome} (entered : o.entered = true) (card : Option CardView) :
    s.refuseAt door o card = (t, .doorCard o (s.channel door).state card none) := by
  have channel : t.channel door = s.channel door := by
    rcases ht with ⟨_, rfl⟩ | ⟨_, rfl⟩
    · rfl
    · rw [raise_channel]
      rfl
  simp only [State.refuseAt, entered, if_true, enterRefusal_eq hh ht, channel]

end

section
variable {c : Card} {door : Nat} {o : JobOutcome}

/-- The class rules, in their order (R34, R35). -/
theorem classRefusal_refuses (away : door ∉ c.config.cabins)
    (h : (c.config.cls ≠ .crew ∨ c.config.section_ = none ∨
          ∃ p, c.config.section_ = some p ∧ (door < p.first ∨ p.second < door)) ∧ o = .notThisDoor ∨
        c.config.cls = .crew ∧ (∃ p, c.config.section_ = some p ∧ p.first ≤ door ∧ door ≤ p.second) ∧
          ((c.config.hours = none ∨ s.clock.shipTime = none ∨
              ∃ n x, c.config.hours = some n ∧ s.clock.shipTime = some x ∧
                (if n.first < n.second then x / 60 < n.first ∨ n.second ≤ x / 60
                  else n.second ≤ x / 60 ∧ x / 60 < n.first)) ∧ o = .hours ∨
            (∃ n x, c.config.hours = some n ∧ s.clock.shipTime = some x ∧
                (if n.first < n.second then n.first ≤ x / 60 ∧ x / 60 < n.second
                  else n.first ≤ x / 60 ∨ x / 60 < n.second)) ∧ (s.channel door).dnd = true ∧ o = .privacy)) :
    s.classRefusal c door = some o := by
  rw [State.classRefusal, if_neg (by rw [List.contains_iff_mem]; exact away)]
  rcases h with ⟨outside, rfl⟩ | ⟨crew, within, h⟩
  · split
    next crew =>
      have out : insideSection c.config.section_ door = false := by
        rw [Bool.eq_false_iff]
        intro inside
        obtain ⟨p, sect, low, high⟩ := insideSection_iff.mp inside
        rcases outside with other | none | ⟨q, sect', off⟩
        · exact other crew
        · rw [none] at sect
          cases sect
        · cases sect.symm.trans sect'
          omega
      rw [out]
      rfl
    next => rfl
  · rw [if_pos crew, insideSection_iff.mpr within]
    rcases h with ⟨closed, rfl⟩ | ⟨open_, quiet, rfl⟩
    · have out : insideHours c.config.hours s.clock.shipTime = false := by
        rw [Bool.eq_false_iff]
        intro inside
        obtain ⟨n, x, hours, time, now⟩ := insideHours_iff.mp inside
        rcases closed with none | none | ⟨m, y, hours', time', off⟩
        · rw [none] at hours
          cases hours
        · rw [none] at time
          cases time
        · cases hours.symm.trans hours'
          cases time.symm.trans time'
          split at off <;> simp_all <;> omega
      rw [out]
      rfl
    · rw [insideHours_iff.mpr open_, quiet]
      rfl

end

/-- Settles O25. -/
theorem doorRefusalsAreMetered : Obligations.DoorRefusalsAreMetered := by
  unfold Obligations.DoorRefusalsAreMetered
  intro s t v tag door uid issue slot c h work room hissue configured blocked hh ht
  have canonical := canonical_of_atWork work
  have cards {u : State} {answer : Answer} (h : s.decideAt door uid issue = (u, answer)) :
      exec (.doorCard tag (.fit ⟨door, uid, issue⟩)) s = .next (u.replied 0xB0#8 tag answer) :=
    serve_block (ready_of_atWork work) blockDoorCard_blind (whenLoaded_takes (loaded_of_atWork work))
      ((blockDoorCard_configured room hissue configured).trans h) _
  obtain ⟨w, decided, store, clock, doorUnit, free, history, rewrites⟩ : ∃ w : State,
      s.decideAt door uid issue = w.decideCard door uid issue ∧ w.store = s.store ∧ w.clock = s.clock ∧
        w.doorUnit = s.doorUnit ∧ (w.reader door).blockedUntil = none ∧
        (w.reader door).history = (s.reader door).history ∧ ∀ r, w.setReader door r = s.setReader door r := by
    rcases blocked with none | ⟨x, some, past⟩
    · exact ⟨s, decideAt_free none, rfl, rfl, rfl, none, rfl, fun _ => rfl⟩
    · refine ⟨_, decideAt_runOut some past, rfl, rfl, rfl, ?_, ?_, setReader_setReader canonical door _⟩
      · rw [reader_setReader_self]
      · rw [reader_setReader_self]
  have channel : w.channel door = s.channel door := by rw [State.channel, doorUnit]; rfl
  have byUid (k : Nat) : w.cardByUid k = s.cardByUid k := by rw [State.cardByUid, store]; rfl
  have hh' : h = (w.reader door).history.dropWhile (fun x =>
      decide (w.store.settings.refusalWindow ≤ w.clock.runSeconds - x)) ++ [w.clock.runSeconds] := by
    rw [history, store, clock]
    exact hh
  have entered (hv : v = s) : h.length < w.store.settings.refusalLimit ∧
        t = w.setReader door ⟨h, (w.reader door).blockedUntil⟩ ∨
      w.store.settings.refusalLimit ≤ h.length ∧
        t = (w.setReader door ⟨[], some (w.clock.runSeconds + w.store.settings.blockTime)⟩).raise
          (.readerBlocked door w.store.settings.blockTime) := by
    rw [free, rewrites, rewrites, store, clock]
    rw [hv] at ht
    exact ht
  refine ⟨fun hv h => ?_, fun hv found earlier => ?_, fun o hv found current other h => ?_⟩
  · have unknown : w.present uid issue = .unknown := by
      rcases h with none | ⟨found, later⟩
      · exact present_missing ((byUid uid).trans none) issue
      · exact present_later ((byUid uid).trans found) later
    have refused := refuseAt_eq hh' (entered hv) (o := .unknownCard) rfl none
    rw [channel] at refused
    refine cards (decided.trans ?_)
    simp only [State.decideCard, unknown, refused]
  · have superseded : w.present uid issue = .superseded := present_superseded ((byUid uid).trans found) earlier
    have reader : (w.raise (.supersededCard uid issue)).reader door = w.reader door := by
      rw [State.reader, State.raise_readers]
      rfl
    have refused := refuseAt_eq (s := w.raise (.supersededCard uid issue)) (door := door) (h := h) (t := t)
      (by rw [reader, State.raise_store, State.raise_clock]; exact hh')
      (by
        rw [reader, State.raise_store, State.raise_clock, raise_setReader, raise_setReader, free, rewrites, rewrites, store,
          clock, ← raise_setReader, ← raise_setReader, ← hv]
        exact ht) (o := .superseded) rfl none
    rw [raise_channel, channel] at refused
    refine cards (decided.trans ?_)
    simp only [State.decideCard, superseded, refused]
  · subst current
    have card : Table.find w.store.cards slot = some c := by
      rw [store]
      exact Table.find_of_mem canonical.cards (Table.mem_of_seek found)
    have refuses : w.doorRefusal c door = some o ∧ o.entered = true := by
      rcases h with ⟨secure, rfl⟩ | ⟨service, h⟩
      · exact ⟨if_pos (by rw [store, secure]), rfl⟩
      · have service : ¬ w.store.mode = .secure := by
          rw [store, service]
          decide
        rcases h with ⟨presence, rfl⟩ | ⟨presence, rfl⟩ | ⟨boarded, here, h⟩
        · exact ⟨by rw [State.doorRefusal, if_neg service, if_pos presence], rfl⟩
        · exact ⟨by rw [State.doorRefusal, if_neg service, if_neg (by rw [presence]; decide), if_pos presence], rfl⟩
        · rcases h with ⟨days, rfl⟩ | ⟨first, last, away, h⟩
          · exact ⟨by rw [State.doorRefusal, if_neg service, if_neg boarded, if_neg here, clock, if_pos days], rfl⟩
          · refine ⟨?_, ?_⟩
            · rw [State.doorRefusal, if_neg service, if_neg boarded, if_neg here, if_neg (by rw [clock]; omega)]
              refine classRefusal_refuses away ?_
              rw [clock, channel]
              exact h
            · rcases h with ⟨_, rfl⟩ | ⟨_, _, ⟨_, rfl⟩ | ⟨_, _, rfl⟩⟩ <;> rfl
    have refused := refuseAt_eq hh' (entered hv) refuses.2 (some (w.cardView slot c))
    rw [channel, cardView_of_find card] at refused
    have decides := decideCard_refuses (s := w) (door := door) ((byUid uid).trans found) other refuses.1
    rw [cardView_of_find card] at decides
    exact cards (decided.trans (decides.trans refused))

end Sys2Proof.Machine
end

section
/-! The release of buses, one by one and in the rotation (R59, R60). -/

namespace Sys2Proof.Machine

variable {s t : State}

/-! ## When a bus may release (R59) -/

theorem mayRelease_iff {b : Nat} : s.mayRelease b = true ↔ (s.bus b).queue ≠ [] ∧
    ((s.bus b).history.filter fun t => decide (s.clock.ms - t < s.store.settings.busWindow)).length <
      s.store.settings.busBudget ∧ s.scheduler.orders.length < 64 := by
  rw [State.mayRelease, Bool.and_eq_true, Bool.and_eq_true, Bool.not_eq_true', decide_eq_true_eq, State.orderRoom,
    decide_eq_true_eq, List.isEmpty_eq_false_iff, and_assoc]
  rfl

theorem queue_of_mayRelease {b : Nat} (may : s.mayRelease b = true) : ∃ door rest, (s.bus b).queue = door :: rest := by
  obtain ⟨queue, _⟩ := mayRelease_iff.mp may
  exact List.exists_cons_of_ne_nil queue

theorem not_mayRelease_of_empty {b : Nat} (h : (s.bus b).queue = []) : s.mayRelease b = false := by
  rw [Bool.eq_false_iff]
  exact fun may => (mayRelease_iff.mp may).1 h

theorem not_mayRelease_of_full (h : 64 ≤ s.scheduler.orders.length) (b : Nat) : s.mayRelease b = false := by
  rw [Bool.eq_false_iff]
  exact fun may => Nat.not_lt.mpr h (mayRelease_iff.mp may).2.2

/-! ## What a release leaves (R50, R59) -/

section
variable {b door : Nat} {rest : List Nat} (queue : (s.bus b).queue = door :: rest)
include queue

theorem release_orders : (s.release b).scheduler.orders =
    s.scheduler.orders ++ [⟨.strike, door, s.clock.runSeconds⟩] := by
  rw [release_eq queue]
  rfl

theorem release_bus_self : (s.release b).bus b = ⟨rest, appendRelease (s.bus b).history s.clock.ms⟩ := by
  rw [release_eq queue]
  exact State.bus_setBus_self ..

theorem release_bus_other {k : Nat} (other : k ≠ b) : (s.release b).bus k = s.bus k := by
  rw [release_eq queue]
  exact State.bus_setBus_other _ _ other

theorem release_channel_other {d : Nat} (other : d ≠ door) : (s.release b).channel d = s.channel d := by
  rw [release_eq queue]
  exact State.channel_setChannel_other _ _ other

/-- The queues only get shorter. -/
theorem mem_of_mem_release {k d : Nat} (h : d ∈ ((s.release b).bus k).queue) : d ∈ (s.bus k).queue := by
  by_cases same : k = b
  · rw [same, release_bus_self queue] at h
    rw [same, queue]
    exact List.mem_cons_of_mem _ h
  · rw [release_bus_other queue same] at h
    exact h

end

/-! ## A bus considered (R60) -/

/-- While it may, a bus releases, and then it is considered again. -/
theorem consider_may {b : Nat} (may : s.mayRelease b = true) : s.consider b = (s.release b).consider b := by
  obtain ⟨door, rest, queue⟩ := queue_of_mayRelease may
  rw [State.consider, State.consider, queue, release_bus_self queue]
  exact if_pos may

theorem consider_rests {b : Nat} (may : s.mayRelease b = false) : s.consider b = s := by
  rw [State.consider]
  cases (s.bus b).queue with
  | nil => rfl
  | cons door rest => exact if_neg (by rw [may]; decide)

theorem consider_stops {b : Nat} : ∀ {n : Nat} {s : State}, (s.bus b).queue.length = n →
    (s.consider b).mayRelease b = false
  | 0, s, h => by
    have rests := not_mayRelease_of_empty (List.length_eq_zero_iff.mp h)
    rw [consider_rests rests]
    exact rests
  | n + 1, s, h => by
    rcases Bool.eq_false_or_eq_true (s.mayRelease b) with may | rests
    · obtain ⟨door, rest, queue⟩ := queue_of_mayRelease may
      rw [consider_may may]
      refine consider_stops (n := n) ?_
      rw [queue, List.length_cons] at h
      rw [release_bus_self queue]
      exact Nat.succ.inj h
    · rw [consider_rests rests]
      exact rests

/-! ## The rotation (R60) -/

theorem mem_rotation {latest b : Nat} : b ∈ rotation latest ↔ b < 16 := by
  simp only [rotation, List.mem_map, List.mem_range, busCount]
  constructor
  · rintro ⟨k, _, rfl⟩
    exact Nat.mod_lt _ (by decide)
  · intro small
    exact ⟨(b + 16 - (latest + 1) % 16) % 16, Nat.mod_lt _ (by decide), by omega⟩

/-- The first of the rotation that passes a test. -/
theorem find_rotation {latest k : Nat} {p : Nat → Bool} (small : k < 16) (passes : p ((latest + 1 + k) % 16) = true)
    (before : ∀ j, j < k → p ((latest + 1 + j) % 16) = false) :
    (rotation latest).find? p = some ((latest + 1 + k) % 16) := by
  have first : (List.range 16).find? (p ∘ fun k => (latest + 1 + k) % 16) = some k := by
    refine List.find?_range_eq_some.mpr ⟨passes, List.mem_range.mpr small, fun j lt => ?_⟩
    rw [Function.comp_apply, before j lt]
    rfl
  exact (List.find?_map ..).trans (congrArg (Option.map _) first)

/-- None in the rotation may release. -/
theorem find_rotation_none {latest : Nat} {p : Nat → Bool} : (rotation latest).find? p = none ↔ ∀ b, b < 16 → p b = false := by
  simp only [List.find?_eq_none, mem_rotation, Bool.not_eq_true]

theorem rotateFor_may {n b : Nat} (h : (rotation s.scheduler.latestBus).find? s.mayRelease = some b) :
    s.rotateFor (n + 1) = (s.release b).rotateFor n := by
  rw [State.rotateFor, h]

theorem rotateFor_rests {n : Nat} (h : ∀ b, b < 16 → s.mayRelease b = false) : s.rotateFor n = s := by
  cases n with
  | zero => rfl
  | succ n => rw [State.rotateFor, find_rotation_none.mpr h]

/-- One release more in the order queue. -/
theorem release_orders_length {b : Nat} (may : s.mayRelease b = true) :
    (s.release b).scheduler.orders.length = s.scheduler.orders.length + 1 := by
  obtain ⟨door, rest, queue⟩ := queue_of_mayRelease may
  rw [release_orders queue, List.length_append]
  rfl

/-- The room of the order queue bounds the releases. -/
theorem rotateFor_succ : ∀ {n : Nat} {s : State}, 64 ≤ s.scheduler.orders.length + n →
    s.rotateFor (n + 1) = s.rotateFor n
  | 0, _, enough => rotateFor_rests fun b _ => not_mayRelease_of_full enough b
  | n + 1, s, enough => by
    cases found : (rotation s.scheduler.latestBus).find? s.mayRelease with
    | none => rw [rotateFor_rests (find_rotation_none.mp found), rotateFor_rests (find_rotation_none.mp found)]
    | some b =>
      rw [rotateFor_may found, rotateFor_may found]
      exact rotateFor_succ (by rw [release_orders_length (List.find?_some found)]; omega)

theorem rotateFor_stops : ∀ {n : Nat} {s : State}, 64 ≤ s.scheduler.orders.length + n →
    ∀ b, b < 16 → (s.rotateFor n).mayRelease b = false
  | 0, _, enough, b, _ => not_mayRelease_of_full enough b
  | n + 1, s, enough, b, small => by
    cases found : (rotation s.scheduler.latestBus).find? s.mayRelease with
    | none =>
      rw [rotateFor_rests (find_rotation_none.mp found)]
      exact find_rotation_none.mp found b small
    | some k =>
      rw [rotateFor_may found]
      exact rotateFor_stops (by rw [release_orders_length (List.find?_some found)]; omega) b small

theorem considerAll_stops {b : Nat} (small : b < 16) : s.considerAll.mayRelease b = false :=
  rotateFor_stops (Nat.le_add_left ..) b small

theorem considerAll_rests (h : ∀ b, b < 16 → s.mayRelease b = false) : s.considerAll = s := rotateFor_rests h

theorem considerAll_may {b : Nat} (h : (rotation s.scheduler.latestBus).find? s.mayRelease = some b) :
    s.considerAll = (s.release b).considerAll := by
  rw [State.considerAll, orderQueueRoom, rotateFor_may h]
  exact (rotateFor_succ (by rw [release_orders_length (List.find?_some h)]; omega)).symm

/-! ## The age-out of a counted release (R60) -/

theorem windowAgesOut_may {b : Nat} (may : s.mayRelease b = true) : windowAgesOut b s = some (s.consider b) := if_pos may

theorem windowAgesOut_ages {b t : Nat} {before after : List Nat} (rests : s.mayRelease b = false)
    (history : (s.bus b).history = before ++ t :: after)
    (aged : ∀ x ∈ before, s.store.settings.busWindow ≤ s.clock.ms - x)
    (young : s.clock.ms - t < s.store.settings.busWindow) :
    windowAgesOut b s = some ((s.advanceTo (t + s.store.settings.busWindow)).consider b) := by
  have oldest : (s.bus b).history.find? s.counts = some t := by
    refine List.find?_eq_some_iff_append.mpr ⟨decide_eq_true young, before, after, history, fun x hx => ?_⟩
    rw [Bool.not_eq_true']
    exact decide_eq_false (Nat.not_lt.mpr (aged x hx))
  rw [windowAgesOut, rests, oldest]
  rfl

theorem windowAgesOut_nothing {b : Nat} (rests : s.mayRelease b = false)
    (aged : ∀ x ∈ (s.bus b).history, s.store.settings.busWindow ≤ s.clock.ms - x) : windowAgesOut b s = none := by
  have none : (s.bus b).history.find? s.counts = none := by
    refine List.find?_eq_none.mpr fun x hx => ?_
    rw [Bool.not_eq_true]
    exact decide_eq_false (Nat.not_lt.mpr (aged x hx))
  rw [windowAgesOut, rests, none]
  rfl

/-- The age-out that frees a budget of 1 releases the door that waits. -/
theorem consider_aged {b door t : Nat} {u : State} (bus : s.bus b = ⟨[door], [t]⟩) (budget : s.store.settings.busBudget = 1)
    (young : s.clock.ms - t < s.store.settings.busWindow) (past : t ≤ s.clock.ms)
    (room : s.scheduler.orders.length < 64) (hu : u = s.advanceTo (t + s.store.settings.busWindow)) :
    s.mayRelease b = false ∧ u.clock.ms = t + s.store.settings.busWindow ∧ u.consider b = u.release b := by
  have ms : u.clock.ms = t + s.store.settings.busWindow := by
    rw [hu, advanceTo_ms]
    omega
  have ubus : u.bus b = ⟨[door], [t]⟩ := by
    rw [hu]
    exact bus
  have ubudget : u.store.settings = s.store.settings := by
    rw [hu]
    rfl
  refine ⟨?_, ms, ?_⟩
  · rw [Bool.eq_false_iff]
    intro may
    have few := (mayRelease_iff.mp may).2.1
    simp [bus, budget, young] at few
  · have may : u.mayRelease b = true := by
      refine mayRelease_iff.mpr ⟨by rw [ubus]; exact nofun, ?_, by rw [hu]; exact room⟩
      rw [ubus, ms, ubudget, budget]
      simp
    rw [consider_may may]
    exact consider_rests (not_mayRelease_of_empty (by rw [release_bus_self (congrArg Bus.queue ubus)]))

/-- Settles O31. -/
theorem busesReleaseUntilNoneMay : Obligations.BusesReleaseUntilNoneMay := by
  unfold Obligations.BusesReleaseUntilNoneMay
  intro s b
  refine ⟨mayRelease_iff, fun door rest history bus _ => ?_, consider_may, consider_rests, consider_stops rfl,
    considerAll_stops, fun k small hb may before => ?_, considerAll_rests, fun before t after takes rests history aged young =>
      happens_taken takes (windowAgesOut_ages rests history aged young),
    fun takes may => happens_taken takes (windowAgesOut_may may),
    fun takes rests aged => (happens_nothing (windowAgesOut_nothing rests aged) :),
    fun door t u takes bus budget young past room hu => ?_⟩
  · rw [release_eq (congrArg Bus.queue bus), bus]
    rfl
  · subst hb
    exact considerAll_may (find_rotation small may before)
  · obtain ⟨rests, ms, released⟩ := consider_aged bus budget young past room hu
    have ages := windowAgesOut_ages (before := []) (after := []) rests (congrArg Bus.history bus) nofun young
    have ubus : u.bus b = ⟨[door], [t]⟩ := by
      rw [hu]
      exact bus
    rw [← hu, released, release_eq (congrArg Bus.queue ubus), ubus] at ages
    refine (happens_taken takes ages).trans ?_
    rw [← ms, hu]
    rfl

end Sys2Proof.Machine
end

section
/-! The audit poll (R63, R64). -/

namespace Sys2Proof.Machine

variable {s t : State}

/-! ## The door an audit step visits (R64) -/

theorem auditable_eq_false {e : Nat × DoorConfig} : s.auditable e = false ↔
    e.2.configured = false ∨ (s.channel e.1).state ≠ .secured := by
  rw [State.auditable, Bool.and_eq_false_iff, decide_eq_false_iff_not]

/-- The doors an audit step may visit, in ascending door id. -/
def State.auditDoors (s : State) : List Nat := (s.store.doors.filter s.auditable).map Prod.fst

theorem State.Canonical.doorsRising (h : s.Canonical) : s.store.doors.rising = true := by
  have doors := h.doors
  rw [Table.canonical, Bool.and_eq_true] at doors
  exact doors.1

theorem auditDoors_ascending (h : s.Canonical) : s.auditDoors.Pairwise (· < ·) :=
  List.pairwise_map.mpr ((((Table.rising_iff _).mp h.doorsRising).sublist List.filter_sublist).imp fun lt => lt)

theorem mem_auditDoors {d : Nat} (h : d ∈ s.auditDoors) :
    ∃ e ∈ s.store.doors, e.1 = d ∧ ¬ (e.2.configured = false ∨ (s.channel e.1).state ≠ .secured) := by
  obtain ⟨e, he, rfl⟩ := List.mem_map.mp h
  obtain ⟨held, auditable⟩ := List.mem_filter.mp he
  refine ⟨e, held, rfl, fun other => ?_⟩
  rw [auditable_eq_false.mpr other] at auditable
  cases auditable

theorem mem_auditDoors_of_secured {d : Nat} (configured : (s.doorConfig d).configured = true)
    (secured : (s.channel d).state = .secured) : d ∈ s.auditDoors := by
  rw [State.doorConfig, Table.get] at configured
  cases found : Table.find s.store.doors d with
  | none =>
    rw [found] at configured
    cases configured
  | some g =>
    rw [found] at configured
    refine List.mem_map.mpr ⟨(d, g), List.mem_filter.mpr ⟨Table.mem_of_find found, ?_⟩, rfl⟩
    simpa [State.auditable, secured] using configured

theorem auditDoor_eq (s : State) : s.auditDoor =
    match s.auditDoors.find? fun d => decide (s.doorUnit.auditPointer ≤ d) with
    | some d => some d
    | none => s.auditDoors.head? := rfl

theorem auditDoor_none (h : ∀ e ∈ s.store.doors, e.2.configured = false ∨ (s.channel e.1).state ≠ .secured) :
    s.auditDoor = none := by
  have none : s.auditDoors = [] := by
    refine List.eq_nil_iff_forall_not_mem.mpr fun d hd => ?_
    obtain ⟨e, he, _, passes⟩ := mem_auditDoors hd
    exact passes (h e he)
  rw [auditDoor_eq, none]
  rfl

/-- The first door from the pointer on, wrapping from 4,095 to 0. -/
theorem auditDoor_first (canonical : s.Canonical) {d : Nat} (configured : (s.doorConfig d).configured = true)
    (secured : (s.channel d).state = .secured)
    (skips : ∀ e ∈ s.store.doors, (if s.doorUnit.auditPointer ≤ d then s.doorUnit.auditPointer ≤ e.1 ∧ e.1 < d
        else s.doorUnit.auditPointer ≤ e.1 ∨ e.1 < d) →
      e.2.configured = false ∨ (s.channel e.1).state ≠ .secured) : s.auditDoor = some d := by
  obtain ⟨before, after, split⟩ := List.append_of_mem (mem_auditDoors_of_secured configured secured)
  have ascending := auditDoors_ascending canonical
  have skipped {k : Nat} (hk : k ∈ s.auditDoors) : ¬ (if s.doorUnit.auditPointer ≤ d then
      s.doorUnit.auditPointer ≤ k ∧ k < d else s.doorUnit.auditPointer ≤ k ∨ k < d) := by
    obtain ⟨e, he, rfl, passes⟩ := mem_auditDoors hk
    exact fun inside => passes (skips e he inside)
  have less {k : Nat} (hk : k ∈ before) : k < d := by
    rw [split, List.pairwise_append] at ascending
    exact ascending.2.2 k hk d (List.mem_cons_self ..)
  rw [auditDoor_eq]
  by_cases ahead : s.doorUnit.auditPointer ≤ d
  · have first : s.auditDoors.find? (fun d => decide (s.doorUnit.auditPointer ≤ d)) = some d := by
      refine List.find?_eq_some_iff_append.mpr ⟨decide_eq_true ahead, before, after, split, fun k hk => ?_⟩
      have past := skipped (split ▸ List.mem_append_left _ hk)
      rw [if_pos ahead] at past
      rw [Bool.not_eq_true']
      exact decide_eq_false fun le => past ⟨le, less hk⟩
    rw [first]
  · have none : s.auditDoors.find? (fun d => decide (s.doorUnit.auditPointer ≤ d)) = none := by
      refine List.find?_eq_none.mpr fun k hk le => ?_
      have past := skipped hk
      rw [if_neg ahead] at past
      exact past (.inl (of_decide_eq_true le))
    have lowest : before = [] := by
      refine List.eq_nil_iff_forall_not_mem.mpr fun k hk => ?_
      have past := skipped (split ▸ List.mem_append_left _ hk)
      rw [if_neg ahead] at past
      exact past (.inr (less hk))
    rw [none, split, lowest]
    rfl

/-! ## The step (R63, R64) -/

/-- The visit to a door, with the pointer moved past it (R64). -/
theorem auditAct_visits {d : Nat} (service : s.store.mode = .service) (room : s.scheduler.orders.length < 64)
    (door : s.auditDoor = some d) : s.auditAct = State.auditVisit
      { s with doorUnit := { s.doorUnit with auditPointer := (d + 1) % 4096 } } d := by
  have room : s.orderRoom = true := decide_eq_true room
  rw [State.auditAct, if_neg (by rw [service]; decide), if_pos room, door]
  rfl

theorem auditAct_rests (h : s.store.mode = .secure ∨ 64 ≤ s.scheduler.orders.length ∨
      ∀ e ∈ s.store.doors, e.2.configured = false ∨ (s.channel e.1).state ≠ .secured) : s.auditAct = s := by
  rw [State.auditAct]
  by_cases secure : s.store.mode = .secure
  · exact if_pos secure
  · rw [if_neg secure]
    rcases h with other | full | none
    · exact absurd other secure
    · exact if_neg (by rw [State.orderRoom, decide_eq_true_eq]; exact Nat.not_lt.mpr full)
    · rw [auditDoor_none none]
      exact ite_self s

section
variable {d : Nat}

theorem auditVisit_polls (idle : (s.channel d).pollOutstanding = false) : s.auditVisit d =
    (s.placeOrder .poll d).setChannel d { s.channel d with pollOutstanding := true } :=
  if_neg (by rw [idle]; decide)

theorem auditVisit_misses (outstanding : (s.channel d).pollOutstanding = true)
    (few : (s.channel d).missCount + 1 < s.store.settings.pollMissLimit) : s.auditVisit d =
    s.setChannel d { s.channel d with missCount := (s.channel d).missCount + 1 } :=
  (if_pos outstanding).trans (if_neg (Nat.not_le.mpr few))

theorem auditVisit_faults (outstanding : (s.channel d).pollOutstanding = true)
    (limit : s.store.settings.pollMissLimit ≤ (s.channel d).missCount + 1) : s.auditVisit d =
    (s.setChannel d { s.channel d with state := .fault, pollOutstanding := false, missCount := 0 }).raise
      (.doorFault d .poll) :=
  (if_pos outstanding).trans (if_pos limit)

end

theorem raise_auditSchedule (s : State) (n : NoticeBody) : (s.raise n).auditSchedule = s.auditSchedule.raise n := by
  rw [State.raise_eq, State.raise_eq]
  rfl

/-- Settles O30. -/
theorem auditStepsPollSecuredDoors : Obligations.AuditStepsPollSecuredDoors := by
  unfold Obligations.AuditStepsPollSecuredDoors
  intro s u t takes loaded tables next hu
  have canonical := s.tablesLaw_iff.mp tables
  obtain ⟨w, hw⟩ : ∃ w, w = s.advanceToSecond t := ⟨_, rfl⟩
  have store : w.store = s.store := by rw [hw, State.advanceToSecond_store]
  have doorUnit : w.doorUnit = s.doorUnit := by rw [hw, State.advanceToSecond_doorUnit]
  have scheduler : w.scheduler = s.scheduler := by rw [hw, State.advanceToSecond_scheduler]
  have channel (d : Nat) : w.channel d = s.channel d := by rw [State.channel, doorUnit]; rfl
  have config (d : Nat) : w.doorConfig d = s.doorConfig d := by rw [State.doorConfig, store]; rfl
  have step : exec .auditStep s = .next w.auditAct.auditSchedule := by
    refine happens_taken takes ?_
    rw [hw]
    simp only [auditSteps, loaded, next]
  have scheduled : u = w.auditSchedule := by
    rw [hu, ← hw, ← store, ← doorUnit, State.auditSchedule]
  rw [step]
  refine ⟨fun h => ?_, fun d service room configured secured skips => ?_⟩
  · rw [auditAct_rests (by rw [store, scheduler]; simpa only [channel] using h), scheduled]
  · have door : w.auditDoor = some d := by
      have held : w.Canonical := hw ▸ (advanceToSecond_run s t).keeps (fun _ _ => Effect.canonical) canonical
      exact auditDoor_first held (by rw [config, configured]) (by rw [channel, secured])
        (by rw [store, doorUnit]; simpa only [channel] using skips)
    rw [auditAct_visits (by rw [store, service]) (by rw [scheduler]; exact room) door, scheduled, ← channel, ← store, ← scheduler]
    refine ⟨fun idle => ?_, fun outstanding few => ?_, fun outstanding limit => ?_⟩
    · rw [auditVisit_polls (by exact idle)]
      rfl
    · rw [auditVisit_misses (by exact outstanding) (by exact few)]
      rfl
    · rw [auditVisit_faults (by exact outstanding) (by exact limit), raise_auditSchedule]
      rfl

end Sys2Proof.Machine
end

section
/-! ORDER.FETCH: the deliveries, the relatches owed and the releases that fill the room (R47, R60, R62). -/

namespace Sys2Proof.Machine

variable {s t : State}

/-! ## Deliveries (R62) -/

section
variable {door k : Nat}

theorem deliver_strike {timer : Option Nat} (h : (s.channel door).state = .released timer .awaitingFetch) :
    s.deliver ⟨.strike, door, k⟩ = s.setChannel door { s.channel door with
      state := .released timer (.running (s.clock.ms + s.store.settings.strikeConfirmTime * 1000)) } := by
  simp only [State.deliver, h, State.setChannelState]

theorem deliver_relatch (h : (s.channel door).state = .relatching .awaitingFetch) :
    s.deliver ⟨.relatch, door, k⟩ = s.setChannel door { s.channel door with
      state := .relatching (.running (s.clock.ms + s.store.settings.relatchConfirmTime * 1000)) } := by
  simp only [State.deliver, h, State.setChannelState]

theorem deliver_strike_nothing (h : ∀ timer, (s.channel door).state ≠ .released timer .awaitingFetch) :
    s.deliver ⟨.strike, door, k⟩ = s := by
  unfold State.deliver
  split
  next timer _ state => exact absurd state (h timer)
  next kind _ => cases kind
  next => rfl

theorem deliver_relatch_nothing (h : (s.channel door).state ≠ .relatching .awaitingFetch) :
    s.deliver ⟨.relatch, door, k⟩ = s := by
  unfold State.deliver
  split
  next kind _ => cases kind
  next _ state => exact absurd state h
  next => rfl

theorem deliver_poll (s : State) (door k : Nat) : s.deliver ⟨.poll, door, k⟩ = s := by
  unfold State.deliver
  split
  next kind _ => cases kind
  next kind _ => cases kind
  next => rfl

end

/-- A delivery writes the channel of its door, or nothing. -/
theorem deliver_cases (s : State) (o : Order) :
    s.deliver o = s ∨ ∃ v, s.deliver o = s.setChannel o.door { s.channel o.door with state := v } := by
  unfold State.deliver
  split
  · exact .inr ⟨_, rfl⟩
  · exact .inr ⟨_, rfl⟩
  · exact .inl rfl

theorem deliver_scheduler (s : State) (o : Order) : (s.deliver o).scheduler = s.scheduler := by
  rcases deliver_cases s o with same | ⟨v, writes⟩
  · rw [same]
  · rw [writes]
    rfl

theorem deliver_channel_other {o : Order} {d : Nat} (other : o.door ≠ d) : (s.deliver o).channel d = s.channel d := by
  rcases deliver_cases s o with same | ⟨v, writes⟩
  · rw [same]
  · rw [writes, State.channel_setChannel_other _ _ (Ne.symm other)]

theorem deliver_fold_scheduler : ∀ (os : List Order) (s : State), (os.foldl State.deliver s).scheduler = s.scheduler
  | [], _ => rfl
  | o :: os, s => (deliver_fold_scheduler os _).trans (deliver_scheduler s o)

theorem deliver_fold_channel {d : Nat} : ∀ {os : List Order} (s : State), (∀ o ∈ os, o.door ≠ d) →
    (os.foldl State.deliver s).channel d = s.channel d
  | [], _, _ => rfl
  | _ :: _, _, others => (deliver_fold_channel _ fun x hx => others x (List.mem_cons_of_mem _ hx)).trans
      (deliver_channel_other (others _ (List.mem_cons_self ..)))

theorem fetchOrders_orders (s : State) : s.fetchOrders.scheduler.orders = s.scheduler.orders.drop 8 := by
  rw [State.fetchOrders, deliver_fold_scheduler]

/-- Deliveries leave what is owed. -/
theorem fetchOrders_owingDoors (h : s.Canonical) : s.fetchOrders.owingDoors = s.owingDoors := by
  have fetched := (fetchOrders_doorRun s).canonical h
  have duties := (deliver_fold (s.scheduler.orders.take 8)
    { s with scheduler := { s.scheduler with orders := s.scheduler.orders.drop 8 } }).1
  refine eq_of_ascending (doorsWhere_ascending Channel.relatchOwed fetched) (doorsWhere_ascending Channel.relatchOwed h)
    fun d => ?_
  have owed : (s.fetchOrders.channel d).relatchOwed = (s.channel d).relatchOwed := duties.owed d
  exact (mem_doorsWhere fetched rfl).trans (by rw [owed]; exact (mem_doorsWhere h rfl).symm)

/-! ## Owed relatches (R47, R60) -/

theorem serveOwed_places {d : Nat} (room : s.scheduler.orders.length < 64) (owed : (s.channel d).relatchOwed = true) :
    s.serveOwed d = (s.placeOrder .relatch d).setChannel d
      { s.channel d with state := .relatching .awaitingFetch, relatchOwed := false } := by
  have room : s.orderRoom = true := decide_eq_true room
  rw [State.serveOwed, room, owed]
  exact callRelatch_room _ room

theorem serveOwed_rests {d : Nat} (h : 64 ≤ s.scheduler.orders.length ∨ (s.channel d).relatchOwed = false) :
    s.serveOwed d = s := by
  refine if_neg ?_
  rw [Bool.and_eq_true, State.orderRoom, decide_eq_true_eq]
  rintro ⟨room, owed⟩
  rcases h with full | free
  · exact Nat.not_lt.mpr full room
  · rw [free] at owed
    cases owed

/-- A RELATCH order is placed and its door's channel written, or nothing is. -/
theorem serveOwed_cases (s : State) (d : Nat) : s.serveOwed d = s ∨ s.serveOwed d = (s.placeOrder .relatch d).setChannel d
      { s.channel d with state := .relatching .awaitingFetch, relatchOwed := false } := by
  by_cases room : s.scheduler.orders.length < 64
  · rcases Bool.eq_false_or_eq_true (s.channel d).relatchOwed with owed | free
    · exact .inr (serveOwed_places room owed)
    · exact .inl (serveOwed_rests (.inr free))
  · exact .inl (serveOwed_rests (.inl (Nat.not_lt.mp room)))

theorem serveOwed_bus (s : State) (d b : Nat) : (s.serveOwed d).bus b = s.bus b := by
  rcases serveOwed_cases s d with same | places
  · rw [same]
  · rw [places]
    rfl

theorem serveOwed_clock (s : State) (d : Nat) : (s.serveOwed d).clock = s.clock := by
  rcases serveOwed_cases s d with same | places
  · rw [same]
  · rw [places]
    rfl

theorem serveOwed_channel_other {d k : Nat} (other : k ≠ d) : (s.serveOwed d).channel k = s.channel k := by
  rcases serveOwed_cases s d with same | places
  · rw [same]
  · rw [places, State.channel_setChannel_other _ _ other]
    rfl

theorem serveOwed_fold_bus (b : Nat) : ∀ (ds : List Nat) (s : State), (ds.foldl State.serveOwed s).bus b = s.bus b
  | [], _ => rfl
  | d :: ds, s => (serveOwed_fold_bus b ds _).trans (serveOwed_bus s d b)

theorem serveOwed_fold_clock : ∀ (ds : List Nat) (s : State), (ds.foldl State.serveOwed s).clock = s.clock
  | [], _ => rfl
  | d :: ds, s => (serveOwed_fold_clock ds _).trans (serveOwed_clock s d)

theorem serveOwed_fold_channel {k : Nat} : ∀ {ds : List Nat} (s : State), k ∉ ds →
    (ds.foldl State.serveOwed s).channel k = s.channel k
  | [], _, _ => rfl
  | _ :: _, _, out => by
    rw [List.mem_cons, not_or] at out
    exact (serveOwed_fold_channel _ out.2).trans (serveOwed_channel_other out.1)

/-- The relatches owed are ordered from the first door on, while there is room. -/
theorem serveOwed_fold_orders : ∀ {ds : List Nat} {s : State}, ds.Nodup → (∀ d ∈ ds, (s.channel d).relatchOwed = true) →
    (ds.foldl State.serveOwed s).scheduler.orders = s.scheduler.orders ++
      (ds.take (64 - s.scheduler.orders.length)).map fun d => ⟨.relatch, d, s.clock.runSeconds⟩
  | [], _, _, _ => by simp
  | d :: ds, s, distinct, owed => by
    obtain ⟨out, distinct⟩ := List.nodup_cons.mp distinct
    have later (k : Nat) (hk : k ∈ ds) : ((s.serveOwed d).channel k).relatchOwed = true := by
      rw [serveOwed_channel_other (ne_of_mem_of_not_mem hk out)]
      exact owed k (List.mem_cons_of_mem _ hk)
    rw [List.foldl_cons, serveOwed_fold_orders distinct later, serveOwed_clock]
    by_cases room : s.scheduler.orders.length < 64
    · have orders : (s.serveOwed d).scheduler.orders =
          s.scheduler.orders ++ [⟨.relatch, d, s.clock.runSeconds⟩] := by
        rw [serveOwed_places room (owed d (List.mem_cons_self ..))]
        rfl
      have one : 64 - s.scheduler.orders.length = 64 - (s.scheduler.orders.length + 1) + 1 := by omega
      rw [orders, List.length_append, List.length_singleton, one, List.take_succ_cons, List.map_cons, List.append_assoc]
      rfl
    · rw [serveOwed_rests (.inl (Nat.not_lt.mp room)), Nat.sub_eq_zero_of_le (Nat.not_lt.mp room)]
      rfl

/-! ## The releases (R60) -/

/-- What the rotation places are STRIKE orders of doors that stood in a queue. -/
theorem rotateFor_orders : ∀ (n : Nat) (s : State), ∃ strikes, (s.rotateFor n).scheduler.orders = s.scheduler.orders ++ strikes ∧
    ∀ o ∈ strikes, o.kind = .strike ∧ o.placedAt = s.clock.runSeconds ∧ ∃ b, b < 16 ∧ o.door ∈ (s.bus b).queue
  | 0, s => ⟨[], (List.append_nil _).symm, nofun⟩
  | n + 1, s => by
    cases found : (rotation s.scheduler.latestBus).find? s.mayRelease with
    | none =>
      rw [rotateFor_rests (find_rotation_none.mp found)]
      exact ⟨[], (List.append_nil _).symm, nofun⟩
    | some b =>
      obtain ⟨door, rest, queue⟩ := queue_of_mayRelease (List.find?_some found)
      have clock : (s.release b).clock = s.clock := by
        rw [release_eq queue]
        rfl
      obtain ⟨strikes, orders, each⟩ := rotateFor_orders n (s.release b)
      rw [rotateFor_may found, orders, release_orders queue]
      refine ⟨_ :: strikes, (List.append_assoc ..), fun o ho => ?_⟩
      rcases List.mem_cons.mp ho with rfl | later
      · exact ⟨rfl, rfl, b, mem_rotation.mp (List.mem_of_find?_eq_some found), by rw [queue]; exact List.mem_cons_self ..⟩
      · obtain ⟨kind, placed, k, small, mem⟩ := each o later
        exact ⟨kind, placed.trans (by rw [clock]), k, small, mem_of_mem_release queue mem⟩

/-- A door in no queue is released by none. -/
theorem rotateFor_channel {d : Nat} : ∀ {n : Nat} {s : State}, (∀ b, b < 16 → d ∉ (s.bus b).queue) →
    (s.rotateFor n).channel d = s.channel d
  | 0, _, _ => rfl
  | n + 1, s, out => by
    cases found : (rotation s.scheduler.latestBus).find? s.mayRelease with
    | none => rw [rotateFor_rests (find_rotation_none.mp found)]
    | some b =>
      obtain ⟨door, rest, queue⟩ := queue_of_mayRelease (List.find?_some found)
      have other : d ≠ door := by
        rintro rfl
        exact out b (mem_rotation.mp (List.mem_of_find?_eq_some found)) (by rw [queue]; exact List.mem_cons_self ..)
      rw [rotateFor_may found]
      exact (rotateFor_channel fun k small mem => out k small (mem_of_mem_release queue mem)).trans
        (release_channel_other queue other)

/-! ## The request -/

theorem blockOrderFetch_empty (h : s.scheduler.orders = []) : blockOrderFetch () s = (s, .orders [] 0) := by
  simp only [blockOrderFetch, fetchOrders_of_empty h, h, List.take_nil, List.isEmpty_nil, if_true, List.length_nil]

theorem blockOrderFetch_fetches (h : s.scheduler.orders ≠ []) : blockOrderFetch () s =
    (s.fetchOrders.refill, .orders (s.scheduler.orders.take 8) (s.scheduler.orders.length - 8)) := by
  have taken : (s.scheduler.orders.take 8).isEmpty = false := by
    cases orders : s.scheduler.orders with
    | nil => exact absurd orders h
    | cons o os => rfl
  rw [blockOrderFetch, fetchOrders_orders, taken, List.length_drop]
  rfl

/-- With no relatch owed and no strike request standing nothing fills the room. -/
theorem refill_rests (free : ∀ e ∈ s.doorUnit.channels, e.2.relatchOwed = false)
    (idle : ∀ b, b < 16 → (s.bus b).queue = []) : s.refill = s := by
  have none : s.owingDoors = [] := by
    rw [State.owingDoors, List.filter_eq_nil_iff.mpr fun e he => by rw [free e he]; decide]
    rfl
  rw [State.refill, none]
  exact considerAll_rests fun b small => not_mayRelease_of_empty (idle b small)

/-- One order taken, with nothing to fill the room it leaves. -/
theorem blockOrderFetch_one {o : Order} (orders : s.scheduler.orders = [o])
    (free : ∀ e ∈ s.doorUnit.channels, e.2.relatchOwed = false) (idle : ∀ b, b < 16 → (s.bus b).queue = []) :
    blockOrderFetch () s =
      (State.deliver { s with scheduler := { s.scheduler with orders := [] } } o, .orders [o] 0) := by
  have fetched : s.fetchOrders = State.deliver { s with scheduler := { s.scheduler with orders := [] } } o := by
    rw [State.fetchOrders, orders]
    rfl
  rw [blockOrderFetch_fetches (by rw [orders]; exact nofun), fetched, orders, refill_rests]
  · rfl
  · rcases deliver_cases { s with scheduler := { s.scheduler with orders := [] } } o with same | ⟨v, writes⟩
    · rw [same]
      exact free
    · rw [writes]
      exact Table.all_set (p := fun c : Channel => c.relatchOwed = false) free o.door
        (Table.get_of_all (p := fun c : Channel => c.relatchOwed = false) free rfl o.door)
  · intro b small
    rw [State.bus, deliver_scheduler]
    exact idle b small

/-- Settles O28. -/
theorem orderFetchDeliversTheOldestOrders : Obligations.OrderFetchDeliversTheOldestOrders := by
  unfold Obligations.OrderFetchDeliversTheOldestOrders
  intro s u v t tag owing ready hu howing hv ht
  replace hu : u = s.fetchOrders := hu
  replace howing : owing = s.owingDoors := howing
  have fetches {t : State} {answer : Answer} (h : blockOrderFetch () s = (t, answer)) :
      exec (.orderFetch tag (.fit ())) s = .next (t.replied 0x83#8 tag answer) :=
    serve_block ready blockOrderFetch_blind rfl h _
  refine ⟨fun none => fetches (blockOrderFetch_empty none), fun some tables => ?_,
    fun x door k => ⟨fun timer => deliver_strike, deliver_relatch, deliver_strike_nothing, deliver_relatch_nothing,
      deliver_poll x door k, serveOwed_places, serveOwed_rests⟩,
    fun kind door k st orders free idle confirm => ?_, fun door k orders free idle => ?_⟩
  · have canonical := s.tablesLaw_iff.mp tables
    have clock : u.clock = s.clock := by
      rw [hu, fetchOrders_doorsOnly s]
    have doorsOnly : DoorsOnly s t := by
      rw [ht, hv, hu]
      exact ((fetchOrders_doorsOnly s).trans (foldl_doorsOnly serveOwed_doorsOnly _ _)).trans (considerAll_doorsOnly _)
    have bus (b : Nat) : v.bus b = s.bus b := by
      rw [hv, hu, serveOwed_fold_bus]
      exact (deliver_fold _ _).2 b
    have vclock : v.clock = s.clock := by rw [hv, serveOwed_fold_clock, clock]
    refine ⟨?_, ?_, ?_, doorsOnly, ?_, fun d named owes queued => ?_⟩
    · rw [fetches (blockOrderFetch_fetches some), ht, hv, hu, howing, ← fetchOrders_owingDoors canonical]
      rfl
    · have distinct := nodup_of_ascending (doorsWhere_ascending Channel.relatchOwed canonical)
      have owed (d : Nat) (hd : d ∈ owing) : (u.channel d).relatchOwed = true := by
        rw [howing, ← fetchOrders_owingDoors canonical, ← hu] at hd
        exact (mem_doorsWhere (hu ▸ (fetchOrders_doorRun s).canonical canonical) rfl).mp hd
      rw [hv, serveOwed_fold_orders (howing ▸ distinct) owed, clock, hu, fetchOrders_orders, List.length_drop]
    · rw [ht]
      exact fun b => considerAll_stops
    · rw [ht]
      obtain ⟨strikes, orders, each⟩ := rotateFor_orders orderQueueRoom v
      refine ⟨strikes, orders, fun o ho => ?_⟩
      obtain ⟨kind, placed, b, small, mem⟩ := each o ho
      exact ⟨kind, placed.trans (by rw [vclock]), b, small, bus b ▸ mem⟩
    · have out : d ∉ owing := by
        rw [howing]
        intro hd
        have owed := (mem_doorsWhere (p := Channel.relatchOwed) canonical rfl).mp hd
        rw [owes] at owed
        cases owed
      rw [ht, State.considerAll, rotateFor_channel fun b small => by rw [bus]; exact queued b small, hv,
        serveOwed_fold_channel u out, hu, State.fetchOrders, deliver_fold_channel _ named]
      rfl
  · rw [fetches (blockOrderFetch_one orders free idle)]
    rcases confirm with ⟨rfl, timer, state, rfl⟩ | ⟨rfl, state, rfl⟩
    · rw [deliver_strike (by exact state)]
      rfl
    · rw [deliver_relatch (by exact state)]
      rfl
  · rw [fetches (blockOrderFetch_one orders free idle), deliver_poll]

end Sys2Proof.Machine
end

section
/-! Retention: its entry and capture, and the starts (R164 to R169). -/

namespace Sys2Proof.Machine

variable {s t : State}

/-! ## The entry into retention (R164, R166) -/

theorem Link.entered_free {l : Link} (h : l.executing = none) :
    l.entered = ⟨l.transfer.map Transfer.muted, none, [], l.notices, l.lost⟩ := by
  rw [Link.entered, h]

theorem Link.entered_executing {l : Link} {c : Instr} (h : l.executing = some c) :
    l.entered = ⟨l.transfer.map Transfer.muted, some c, [.executing c], l.notices, l.lost⟩ := by
  rw [Link.entered, h]

theorem pfailFalls_held (held : s.retention.resetHeld = true) : s.pfailFalls = s.setPfail true := if_pos held

theorem pfailFalls_entered (held : s.retention.resetHeld = false) (phase : s.retention.phase ≠ .running) :
    s.pfailFalls = (s.setPfail true).seePfail := by
  refine (if_neg (by rw [held]; decide)).trans ?_
  split
  next running => exact absurd running phase
  next => rfl

theorem pfailFalls_running (takes : s.takesFrames = true) : s.pfailFalls = (s.setPfail true).enter.seePfail := by
  simp only [State.takesFrames, Bool.and_eq_true, Bool.not_eq_true', decide_eq_true_eq] at takes
  obtain ⟨held, phase⟩ := takes
  simp only [State.pfailFalls, held, phase, Bool.false_eq_true, if_false]

/-- Of a request in execution the entry keeps that one alone, and its completion empties the queue. -/
theorem exec_retain (ready : s.ready = true) (tag : Byte) : exec (.retain tag (.fit ())) s = .next { s with
    retention := { s.retention with phase := .entering }
    link := ⟨s.link.transfer.map Transfer.muted, none, [], s.link.notices, s.link.lost⟩ } := by
  have replied : s.link.places.all Place.isReply = true := by
    simp only [State.ready, Bool.and_eq_true] at ready
    exact ready.1.1.2
  have executing : (s.entering (.retain tag (.fit ()))).link.executing = some (.retain tag (.fit ())) :=
    executing_of_split (replies := s.link.places) (waits := []) rfl replied
  show serve _ (judged .always (.fit ()) blockRetain) s = _
  rw [serve, turn_of_ready ready]
  have entered := enter_eq _ _ executing
  refine congrArg Host.Outcome.next ((complete_entering (t := (s.entering (.retain tag (.fit ()))).enter) rfl
    (c := .retain tag (.fit ())) (by rw [entered]; rfl) _).trans ?_)
  rw [entered]
  rfl

/-! ## The capture (R166) -/

theorem capture_captured (held : s.retention.resetHeld = false) (phase : s.retention.phase = .entering)
    (free : s.link.executing = none) : s.capture = s.captured := by
  rw [State.capture, held, phase, free]
  rfl

theorem capture_waits (h : s.retention.resetHeld = true ∨ s.retention.phase ≠ .entering ∨ s.link.executing ≠ none) :
    s.capture = s := by
  refine if_neg ?_
  rw [Bool.and_eq_true, Bool.and_eq_true, Bool.not_eq_true', decide_eq_true_eq, Option.isNone_iff_eq_none]
  rintro ⟨⟨held, phase⟩, free⟩
  rcases h with reset | other | executing
  · rw [held] at reset
    cases reset
  · exact other phase
  · exact executing free

/-- The abandoned debounce changes are no part of the image. -/
theorem captured_eq (s : State) : s.captured = { s with
    lanes := Four.map Lane.captured s.lanes
    retention := { s.retention with
      phase := .retained
      checkWord := some (crc32 (Config.imageOrder s.image))
      mark := true
      store := s.captureStore.1 }
    freeCount := s.captureStore.2 } := rfl

theorem captureStore_kept (h : s.retention.vretFailed = false) : s.captureStore = (.kept, s.freeCount) :=
  if_neg (by rw [h]; decide)

theorem captureStore_lost (h : s.retention.vretFailed = true) :
    s.captureStore = (.lost (Config.decayedMarkReads s.freeCount), s.freeCount + 1) := if_pos h

theorem supplyFails_retained (held : s.retention.resetHeld = false) (phase : s.retention.phase = .retained) :
    s.supplyFails = { s with
      retention := { s.retention with store := .lost (Config.decayedMarkReads s.freeCount) }
      freeCount := s.freeCount + 1 } := by
  rw [State.supplyFails, held, phase]
  rfl

theorem supplyFails_early (h : s.retention.resetHeld = true ∨ s.retention.phase ≠ .retained) :
    s.supplyFails = { s with retention := { s.retention with vretFailed := true } } := by
  refine if_neg ?_
  rw [Bool.and_eq_true, Bool.not_eq_true', decide_eq_true_eq]
  rintro ⟨held, phase⟩
  rcases h with reset | other
  · rw [held] at reset
    cases reset
  · exact other phase

/-- Settles O52. -/
theorem retentionIsEnteredAndCaptured : Obligations.RetentionIsEnteredAndCaptured := by
  unfold Obligations.RetentionIsEnteredAndCaptured
  intro s tag muted hm
  replace hm : muted = s.link.transfer.map Transfer.muted := hm
  subst hm
  refine ⟨fun ready => exec_retain ready tag, fun held => congrArg _ (pfailFalls_held held),
    fun held phase => congrArg _ (pfailFalls_entered held phase), fun takes free => ?_, fun c takes executing => ?_,
    fun quiet hquiet held phase free => ?_, fun h => congrArg _ (capture_waits h),
    fun held phase => congrArg _ (supplyFails_retained held phase), fun h => congrArg _ (supplyFails_early h)⟩
  · refine congrArg Host.Outcome.next ((pfailFalls_running takes).trans ?_)
    rw [State.enter, Link.entered_free (l := (s.setPfail true).link) free]
    rfl
  · refine congrArg Host.Outcome.next ((pfailFalls_running takes).trans ?_)
    rw [State.enter, Link.entered_executing (l := (s.setPfail true).link) executing]
    rfl
  · obtain rfl : quiet = Lane.captured := funext hquiet
    refine ⟨fun supplied => ?_, fun failed => ?_⟩
    · refine congrArg Host.Outcome.next ((capture_captured held phase free).trans ?_)
      rw [captured_eq, captureStore_kept supplied]
      rfl
    · refine congrArg Host.Outcome.next ((capture_captured held phase free).trans ?_)
      rw [captured_eq, captureStore_lost failed]
      rfl

end Sys2Proof.Machine
end

section
/-! The starts: cold, from the retained image, and by RESTART (R165, R168, R169). -/

namespace Sys2Proof.Machine

variable {s t : State}

/-! ## What a wake sets afresh (R63, R108) -/

theorem TabSlot.awoken_eq (n : Nat) (x : TabSlot) : x.awoken n = { x with
    state := match x.state with
      | .opened t _ => .opened { t with lastActivity := 0 } (n * 60)
      | y => y } := by
  obtain ⟨generation, state⟩ := x
  cases state <;> rfl

theorem firstAudit_eq (s : State) : s.store.firstAudit =
    if s.loaded = true ∧ s.store.settings.auditInterval ≠ 0 then some s.store.settings.auditInterval else none := by
  simp only [Store.firstAudit, State.loaded, Bool.or_eq_true, decide_eq_true_eq]

/-! ## The check at a wake (R167, R168) -/

theorem verifyAndStart_stands (kept : s.retention.store = .kept)
    (word : s.retention.checkWord = some (crc32 (Config.imageOrder s.image))) : s.verifyAndStart = s.wakeStart := by
  simp only [State.verifyAndStart, kept]
  exact if_pos word

theorem verifyAndStart_fails (kept : s.retention.store = .kept)
    (word : s.retention.checkWord ≠ some (crc32 (Config.imageOrder s.image))) :
    s.verifyAndStart = s.coldStart .checkFailed := by
  simp only [State.verifyAndStart, kept]
  exact if_neg word

theorem verifyAndStart_marked (lost : s.retention.store = .lost true) : s.verifyAndStart = s.coldStart .checkFailed := by
  simp only [State.verifyAndStart, lost]

theorem verifyAndStart_unmarked (lost : s.retention.store = .lost false) : s.verifyAndStart = s.coldStart .cold := by
  simp only [State.verifyAndStart, lost]

/-! ## The lines (R164, R165, R168) -/

theorem pfailRises_wakes (held : s.retention.resetHeld = false) (phase : s.retention.phase = .retained)
    (seen : s.retention.pfailSeen = true) : s.pfailRises = (s.setPfail false).verifyAndStart := by
  rw [State.pfailRises, held, phase, seen]
  rfl

theorem pfailRises_rests (h : s.retention.resetHeld = true ∨ s.retention.phase ≠ .retained ∨ s.retention.pfailSeen = false) :
    s.pfailRises = s.setPfail false := by
  refine if_neg ?_
  rw [Bool.and_eq_true, Bool.and_eq_true, Bool.not_eq_true', decide_eq_true_eq]
  rintro ⟨⟨held, phase⟩, seen⟩
  rcases h with reset | other | unseen
  · rw [held] at reset
    cases reset
  · exact other phase
  · rw [seen] at unseen
    cases unseen

theorem powersUp_wakes (held : s.retention.resetHeld = false) (phase : s.retention.phase = .retained)
    (mark : s.retention.mark = true) : s.powersUp = (s.setPfail false).verifyAndStart := by
  rw [State.powersUp, held, phase, mark]
  rfl

theorem powersUp_cold (held : s.retention.resetHeld = false) (h : s.retention.phase ≠ .retained ∨ s.retention.mark = false) :
    s.powersUp = (s.setPfail false).coldStart .cold := by
  refine (if_neg (by rw [held]; decide)).trans (if_neg ?_)
  rw [Bool.and_eq_true, decide_eq_true_eq]
  rintro ⟨phase, mark⟩
  rcases h with other | unmarked
  · exact other phase
  · rw [mark] at unmarked
    cases unmarked

theorem powersUp_held (held : s.retention.resetHeld = true) : s.powersUp = s.setPfail false := if_pos held

/-! ## RESTART (R169) -/

theorem Transfer.muted_muted (t : Option Transfer) : (t.map Transfer.muted).map Transfer.muted = t.map Transfer.muted := by
  cases t <;> rfl

/-- A start made while retention is entered is followed by the entry. -/
theorem restartInto_entering (phase : s.retention.phase = .entering) {new : State} (free : new.link.places = [])
    (buffer : new.link.buffer = none) (muted : new.link.transfer.map Transfer.muted = new.link.transfer) :
    s.restartInto new = { new with retention := { new.retention with
      phase := .entering
      pfailSeen := s.retention.pfailSeen
      vretFailed := s.retention.vretFailed } } := by
  have executing : new.link.executing = none := by
    rw [Link.executing, free]
    rfl
  have entered : new.link.entered = new.link := by
    rw [Link.entered_free executing, muted, ← buffer, ← free]
  simp only [State.restartInto, phase, State.enter, entered]

theorem phase_of_ready (ready : s.ready = true) : s.retention.phase = .running := by
  have takes := takesFrames_of_ready ready
  rw [State.takesFrames, Bool.and_eq_true, decide_eq_true_eq] at takes
  exact takes.2

section
variable {run : State → State × Answer} {c : Instr} {new : State}

/-- A request that leaves the queue empty on a free link ends with nothing to answer. -/
theorem serve_emptied (ready : s.ready = true) (framed : c.asFramed = c) (runs : run (s.entering c) = (new, .done))
    (free : new.link.places = []) : serve c run s = .next new := by
  rw [serve, turn_of_ready ready, framed]
  simp only [runs, complete_empty free]

/-- So does one in execution as retention is entered. -/
theorem serve_emptied_executing (takes : s.takesEvents = true) (executing : s.link.executing = some c)
    (framed : c.asFramed = c) (runs : run s = (new, .done)) (free : new.link.places = []) : serve c run s = .next new := by
  rw [serve, turn_of_executing takes (framed.symm ▸ executing)]
  simp only [runs, complete_empty free]

end

theorem exec_restartCode_range (ready : s.ready = true) (tag : Byte) {code : Nat} (h : 1 < code) :
    exec (.restartWarm tag (.fit code)) s = .next (s.replied 0xF1#8 tag (.refused .range)) := by
  refine serve_replied (run := judged .always (.fit code) blockRestartCode) ready ?_ rfl rfl rfl
  exact if_pos (by omega)

/-- Settles O53. -/
theorem startsAreColdOrKeepTheImage : Obligations.StartsAreColdOrKeepTheImage := by
  unfold Obligations.StartsAreColdOrKeepTheImage
  intro s tag lane cold wake muted hmuted hlane hcold hwake
  obtain rfl : lane = Lane.restart := by
    funext l h
    exact hlane l h
  have colds (v : WakeResult) (b : Bool) : (s.setPfail b).coldStart v = cold v b := by
    rw [hcold, hmuted]
    rfl
  have wakes (b : Bool) : (s.setPfail b).wakeStart = wake b := by
    have awoken (n : Nat) := funext (TabSlot.awoken_eq n)
    rw [hwake, hmuted, State.wakeStart, firstAudit_eq, awoken]
    rfl
  have cold_running (v : WakeResult) : s.coldStart v = cold v s.retention.pfail := colds v s.retention.pfail
  have wake_running : s.wakeStart = wake s.retention.pfail := wakes s.retention.pfail
  refine ⟨by rw [hmuted]; rfl, fun held => ?_, fun free => ?_, fun c hc held phase => ?_,
    fun h => congrArg _ (pfailRises_rests h), fun held h => congrArg _ ((powersUp_cold held h).trans (colds .cold false)),
    fun held => congrArg _ (powersUp_held held), fun ready => ⟨?_, ?_, fun code => exec_restartCode_range ready tag⟩,
    fun held phase => ⟨fun executing => ?_, fun executing => ?_⟩⟩
  · rw [← cold_running]
    exact congrArg Host.Outcome.next (if_pos held)
  · exact congrArg Host.Outcome.next (if_neg (by rw [free]; decide))
  · have starts : exec c s = .next (s.setPfail false).verifyAndStart := by
      rcases hc with ⟨rfl, seen⟩ | ⟨rfl, mark⟩
      · exact congrArg _ (pfailRises_wakes held phase seen)
      · exact congrArg _ (powersUp_wakes held phase mark)
    rw [starts, ← wakes, ← colds, ← colds]
    exact ⟨fun kept word => congrArg _ (verifyAndStart_stands kept word),
      fun kept word => congrArg _ (verifyAndStart_fails kept word), fun lost => congrArg _ (verifyAndStart_marked lost),
      fun lost => congrArg _ (verifyAndStart_unmarked lost)⟩
  · rw [← wake_running]
    refine serve_emptied (c := .restartWarm tag (.fit 0)) ready rfl ?_ rfl
    exact congrArg (·, Answer.done) (restartInto_running (s := s.entering _) (phase_of_ready (s := s) ready) _)
  · rw [← cold_running]
    refine serve_emptied (c := .restartCold tag) ready rfl ?_ rfl
    exact congrArg (·, Answer.done) (restartInto_running (s := s.entering _) (phase_of_ready (s := s) ready) _)
  · rw [← wake_running]
    refine serve_emptied_executing (takesEvents_of_phase held (by rw [phase]; decide)) executing rfl ?_ rfl
    exact congrArg (·, Answer.done) (restartInto_entering phase rfl rfl (Transfer.muted_muted _))
  · rw [← cold_running]
    refine serve_emptied_executing (takesEvents_of_phase held (by rw [phase]; decide)) executing rfl ?_ rfl
    exact congrArg (·, Answer.done) (restartInto_entering phase rfl rfl (Transfer.muted_muted _))

end Sys2Proof.Machine
end

section
/-! Numbers on the wire and the reception of a frame (R153, R154, R170). -/

namespace Sys2Proof.Machine

/-! ## Numbers on the wire (R170) -/

theorem bytesToNat_append (as bs : List Byte) : bytesToNat (as ++ bs) = bytesToNat as * 256 ^ bs.length + bytesToNat bs := by
  induction bs using List.reverseRecOn with
  | nil => rw [List.append_nil, List.length_nil, Nat.pow_zero, Nat.mul_one]; rfl
  | append_singleton bs b ih =>
    have last (xs : List Byte) : bytesToNat (xs ++ [b]) = bytesToNat xs * 256 + b.toNat := List.foldl_append ..
    rw [← List.append_assoc, last, ih, last, List.length_append, List.length_singleton, Nat.pow_succ]
    ring

theorem bytesToNat_cons (b : Byte) (bs : List Byte) : bytesToNat (b :: bs) = b.toNat * 256 ^ bs.length + bytesToNat bs := by
  rw [← List.singleton_append, bytesToNat_append, bytesToNat, List.foldl_cons, List.foldl_nil, Nat.zero_mul, Nat.zero_add]

theorem bytesToNat_lt (bs : List Byte) : bytesToNat bs < 256 ^ bs.length := by
  induction bs with
  | nil => exact Nat.one_pos
  | cons b bs ih =>
    have byte : b.toNat < 256 := b.isLt
    rw [bytesToNat_cons, List.length_cons, Nat.pow_succ]
    nlinarith

@[simp] theorem natToBytes_length (w n : Nat) : (natToBytes w n).length = w := by
  induction w with
  | zero => rfl
  | succ w ih => rw [natToBytes, List.length_cons, ih]

theorem bytesToNat_natToBytes (w n : Nat) : bytesToNat (natToBytes w n) = n % 256 ^ w := by
  induction w with
  | zero => rw [Nat.pow_zero, Nat.mod_one]; rfl
  | succ w ih =>
    have shift : n % 256 ^ (w + 1) = n % 256 ^ w + 256 ^ w * (n / 256 ^ w % 256) := by rw [Nat.pow_succ, Nat.mod_mul]
    rw [natToBytes, bytesToNat_cons, natToBytes_length, ih, BitVec.toNat_ofNat, shift, Nat.mul_comm, Nat.add_comm]

theorem fits_iff {w n : Nat} : fits w n = true ↔ n < 256 ^ w := decide_eq_true_iff

/-! ## Frames (R153, R154) -/

/-- Fill bytes before the sync byte are ignored. -/
theorem afterSync_fill {fill : List Byte} (h : fill.all (fun b => b != syncByte) = true) (bytes : List Byte) :
    afterSync (fill ++ syncByte :: bytes) = some bytes := by
  induction fill with
  | nil => exact if_pos rfl
  | cons b fill ih =>
    rw [List.all_cons, Bool.and_eq_true, bne_iff_ne] at h
    exact (if_neg h.1).trans (ih h.2)

section
variable {fill : List Byte} (filled : fill.all (fun b => b != syncByte) = true) {h l : Byte}
include filled

theorem receiveFrame_tooLong (long : 240 < bytesToNat [h, l]) (rest : List Byte) :
    receiveFrame (fill ++ syncByte :: h :: l :: rest) = some .tooLong := by
  rw [receiveFrame, afterSync_fill filled]
  exact if_pos long

/-- A whole frame is SOUND when the CRC after its body is that of its bytes, and BAD_CRC otherwise. -/
theorem receiveFrame_whole {code tag : Byte} {body : List Byte} (length : bytesToNat [h, l] = body.length)
    (short : body.length ≤ 240) (x y : Byte) (rest : List Byte) :
    receiveFrame (fill ++ syncByte :: h :: l :: code :: tag :: (body ++ x :: y :: rest)) =
      if (crc16 (h :: l :: code :: tag :: body)).toNat = bytesToNat [x, y] then some (.sound code tag body)
      else some (.badCrc tag) := by
  rw [receiveFrame, afterSync_fill filled]
  dsimp only
  rw [length, if_neg (show ¬ maxBody < body.length from Nat.not_lt.mpr short), if_neg, List.take_left, List.drop_left]
  · rfl
  · simp only [List.length_cons, List.length_append]
    omega

end

theorem natToBytes_two (n : Nat) : ∃ h l, natToBytes 2 n = [h, l] := ⟨_, _, rfl⟩

/-- A frame sent whole. -/
theorem receiveFrame_frameBytes {fill : List Byte} (filled : fill.all (fun b => b != syncByte) = true) (code tag : Byte)
    {body : List Byte} (short : body.length ≤ 240) (rest : List Byte) :
    receiveFrame (fill ++ frameBytes code tag body ++ rest) = some (.sound code tag body) := by
  obtain ⟨h, l, split⟩ := natToBytes_two body.length
  obtain ⟨x, y, check⟩ := natToBytes_two (crc16 (natToBytes 2 body.length ++ code :: tag :: body)).toNat
  have length : bytesToNat [h, l] = body.length := by
    rw [← split, bytesToNat_natToBytes]
    exact Nat.mod_eq_of_lt (by omega)
  have word : bytesToNat [x, y] = (crc16 (h :: l :: code :: tag :: body)).toNat := by
    rw [← check, bytesToNat_natToBytes, split]
    exact Nat.mod_eq_of_lt (BitVec.isLt _)
  have layout : fill ++ frameBytes code tag body ++ rest =
      fill ++ syncByte :: h :: l :: code :: tag :: (body ++ x :: y :: rest) := by
    rw [frameBytes, check, split]
    simp only [List.cons_append, List.nil_append, List.append_assoc]
  rw [layout, receiveFrame_whole filled length short, if_pos word.symm]

/-- Settles O4. -/
theorem framesAreReceivedAsSent : Obligations.FramesAreReceivedAsSent := by
  unfold Obligations.FramesAreReceivedAsSent
  intro fill body rest code tag filled
  refine ⟨fun short => receiveFrame_frameBytes filled code tag short rest, fun x y short other => ?_, fun h l long => ?_⟩
  · obtain ⟨h, l, split⟩ := natToBytes_two body.length
    have length : bytesToNat [h, l] = body.length := by
      rw [← split, bytesToNat_natToBytes]
      exact Nat.mod_eq_of_lt (by omega)
    rw [split] at other ⊢
    have differs : (crc16 (h :: l :: code :: tag :: body)).toNat ≠ bytesToNat [x, y] := by
      intro same
      refine other ?_
      have high : x.toNat < 256 := x.isLt
      have low : y.toNat < 256 := y.isLt
      have word : bytesToNat [x, y] = x.toNat * 256 + y.toNat := by
        rw [bytesToNat_cons, bytesToNat_cons]
        simp [bytesToNat]
      show natToBytes 2 (crc16 (h :: l :: code :: tag :: body)).toNat = [x, y]
      rw [same, word, natToBytes, natToBytes, natToBytes, List.cons.injEq, List.cons.injEq]
      refine ⟨BitVec.eq_of_toNat_eq ?_, BitVec.eq_of_toNat_eq ?_, rfl⟩
      · rw [BitVec.toNat_ofNat]
        omega
      · rw [BitVec.toNat_ofNat]
        omega
    have layout : fill ++ syncByte :: [h, l] ++ code :: tag :: body ++ x :: y :: rest =
        fill ++ syncByte :: h :: l :: code :: tag :: (body ++ x :: y :: rest) := by
      simp only [List.cons_append, List.nil_append, List.append_assoc]
    rw [layout, receiveFrame_whole filled length short, if_neg differs]
  · refine receiveFrame_tooLong filled ?_ rest
    rw [bytesToNat_cons, bytesToNat_cons]
    simpa [bytesToNat] using long

end Sys2Proof.Machine
end

section
/-! The bodies of the requests of the catalogue: what is written is read back, and what is read is in its bytes
(Tables 29 and 31, R170, R171). -/

namespace Sys2Proof.Machine

/-! ## One field (R170) -/

@[simp] theorem fits_fieldAt (b : List Byte) (o w : Nat) : fits w (fieldAt b o w) = true :=
  fits_iff.mpr (Nat.lt_of_lt_of_le (bytesToNat_lt _) (Nat.pow_le_pow_right (by decide) (List.length_take_le ..)))

theorem fieldAt_here {w n : Nat} (h : fits w n = true) (rest : List Byte) : fieldAt (natToBytes w n ++ rest) 0 w = n := by
  rw [fieldAt, List.drop_zero, List.take_left' (natToBytes_length w n), bytesToNat_natToBytes,
    Nat.mod_eq_of_lt (fits_iff.mp h)]

theorem fieldAt_last {w n : Nat} (h : fits w n = true) : fieldAt (natToBytes w n) 0 w = n := by
  rw [← List.append_nil (natToBytes w n), fieldAt_here h]

theorem fieldAt_past {front : List Byte} {o : Nat} (h : front.length ≤ o) (rest : List Byte) (w : Nat) :
    fieldAt (front ++ rest) o w = fieldAt rest (o - front.length) w := by
  rw [fieldAt, fieldAt, List.drop_append, List.drop_eq_nil_of_le h, List.nil_append]

/-- The field behind another one. -/
theorem fieldAt_next {v o : Nat} (h : v ≤ o) (n : Nat) (rest : List Byte) (w : Nat) :
    fieldAt (natToBytes v n ++ rest) o w = fieldAt rest (o - v) w := by
  rw [fieldAt_past (by rw [natToBytes_length]; exact h), natToBytes_length]

/-! ## Money (R170) -/

theorem fitsMoney_iff {i : Int} : fitsMoney i = true ↔ -2147483648 ≤ i ∧ i < 2147483648 := by
  rw [fitsMoney, Bool.and_eq_true, decide_eq_true_iff, decide_eq_true_iff]

theorem fits_signed (i : Int) : fits 4 (i % 4294967296).toNat = true := fits_iff.mpr (by omega)

theorem signed32_signed {i : Int} (h : fitsMoney i = true) : signed32 (i % 4294967296).toNat = i := by
  obtain ⟨low, high⟩ := fitsMoney_iff.mp h
  unfold signed32
  split <;> omega

@[simp] theorem fitsMoney_signed32 (b : List Byte) (o : Nat) : fitsMoney (signed32 (fieldAt b o 4)) = true := by
  have small := fits_iff.mp (fits_fieldAt b o 4)
  refine fitsMoney_iff.mpr ?_
  unfold signed32
  split <;> omega

/-! ## A body of one fixed length -/

/-- How a message lays its fields out: bodies of one length, from which every request is read back, and fields that
fit their bytes whatever those hold. -/
structure Layout {α : Type} (n : Nat) (wf : α → Bool) (read : List Byte → α) (bytes : α → List Byte) : Prop where
  length : ∀ x, (bytes x).length = n
  reads : ∀ x, wf x = true → read (bytes x) = x
  fits : ∀ b, wf (read b) = true

section
variable {α : Type} {n : Nat} {wf : α → Bool} {read : List Byte → α} {bytes : α → List Byte} (layout : Layout n wf read bytes)
include layout

theorem Layout.fixed_reads {q : Body α} {b : List Byte} (hq : q.wf n wf = true) (hb : q.bytes bytes = some b) :
    b.length = n ∧ fixed n b (read b) = q := by
  cases q with
  | misfit k => cases hb
  | fit x =>
    cases hb
    exact ⟨layout.length x, (if_pos (layout.length x)).trans (congrArg Body.fit (layout.reads x hq))⟩

theorem Layout.fixed_wf {b : List Byte} (small : b.length ≤ 240) : (fixed n b (read b)).wf n wf = true := by
  unfold fixed
  split
  · exact layout.fits b
  next other =>
    rw [Body.wf, Bool.and_eq_true, bne_iff_ne]
    exact ⟨decide_eq_true small, other⟩

end

/-! ## The messages of one field or none -/

theorem layout_empty : Layout 0 noFields (fun _ => ()) fun _ => [] := ⟨fun _ => rfl, fun _ _ => rfl, fun _ => rfl⟩

theorem layout_number (n : Nat) : Layout n (fits n) (fieldAt · 0 n) (natToBytes n) :=
  ⟨natToBytes_length n, fun _ => fieldAt_last, fun b => fits_fieldAt b 0 n⟩

/-! ## The messages of several fields -/

theorem layout_cardRead : Layout 10 CardReadReq.wf (fun b => ⟨fieldAt b 0 1, fieldAt b 1 7, fieldAt b 8 2⟩)
    fun x => natToBytes 1 x.selector ++ natToBytes 7 x.uid ++ natToBytes 2 x.slot where
  length x := by simp
  reads x h := by
    simp only [CardReadReq.wf, Bool.and_eq_true] at h
    simp [fieldAt_here, fieldAt_next, fieldAt_last, h]
  fits b := by simp [CardReadReq.wf]

theorem layout_accountPut : Layout 10 AccountPutReq.wf
    (fun b => ⟨fieldAt b 0 1, fieldAt b 1 4, signed32 (fieldAt b 5 4), fieldAt b 9 1⟩)
    fun x => natToBytes 1 x.kind ++ natToBytes 4 x.account ++ signedBytes x.limit ++ natToBytes 1 x.status where
  length x := by simp [signedBytes]
  reads x h := by
    simp only [AccountPutReq.wf, Bool.and_eq_true] at h
    simp [signedBytes, fieldAt_here, fieldAt_next, fieldAt_last, fits_signed, signed32_signed, h]
  fits b := by simp [AccountPutReq.wf]

theorem layout_accountCredit : Layout 8 AccountCreditReq.wf (fun b => ⟨fieldAt b 0 4, signed32 (fieldAt b 4 4)⟩)
    fun x => natToBytes 4 x.account ++ signedBytes x.amount where
  length x := by simp [signedBytes]
  reads x h := by
    simp only [AccountCreditReq.wf, Bool.and_eq_true] at h
    simp [signedBytes, fieldAt_here, fieldAt_next, fieldAt_last, fits_signed, signed32_signed, h]
  fits b := by simp [AccountCreditReq.wf]

theorem layout_doorPut : Layout 6 DoorPutReq.wf (fun b => ⟨fieldAt b 0 2, fieldAt b 2 1, fieldAt b 3 2, fieldAt b 5 1⟩)
    fun x => natToBytes 2 x.door ++ natToBytes 1 x.configured ++ natToBytes 2 x.label ++ natToBytes 1 x.bus where
  length x := by simp
  reads x h := by
    simp only [DoorPutReq.wf, Bool.and_eq_true] at h
    simp [fieldAt_here, fieldAt_next, fieldAt_last, h]
  fits b := by simp [DoorPutReq.wf]

theorem layout_categoryPut : Layout 5 CategoryPutReq.wf
    (fun b => ⟨fieldAt b 0 1, fieldAt b 1 1, fieldAt b 2 1, fieldAt b 3 2⟩)
    fun x => natToBytes 1 x.category ++ natToBytes 1 x.alcohol ++ natToBytes 1 x.taxable ++ natToBytes 2 x.gratuity where
  length x := by simp
  reads x h := by
    simp only [CategoryPutReq.wf, Bool.and_eq_true] at h
    simp [fieldAt_here, fieldAt_next, fieldAt_last, h]
  fits b := by simp [CategoryPutReq.wf]

theorem layout_regionPut : Layout 3 RegionPutReq.wf (fun b => ⟨fieldAt b 0 1, fieldAt b 1 2⟩)
    fun x => natToBytes 1 x.region ++ natToBytes 2 x.rate where
  length x := by simp
  reads x h := by
    simp only [RegionPutReq.wf, Bool.and_eq_true] at h
    simp [fieldAt_here, fieldAt_next, fieldAt_last, h]
  fits b := by simp [RegionPutReq.wf]

theorem layout_tierPut : Layout 7 TierPutReq.wf
    (fun b => ⟨fieldAt b 0 1, BitVec.ofNat 16 (fieldAt b 1 2), fieldAt b 3 1, fieldAt b 4 3⟩)
    fun x => natToBytes 1 x.tier ++ natToBytes 2 x.covered.toNat ++ natToBytes 1 x.allowance ++ natToBytes 3 x.coverCap where
  length x := by simp
  reads x h := by
    simp only [TierPutReq.wf, Bool.and_eq_true] at h
    have covered : fits 2 x.covered.toNat = true := fits_iff.mpr x.covered.isLt
    simp [fieldAt_here, fieldAt_next, fieldAt_last, covered, h]
  fits b := by simp [TierPutReq.wf]

theorem layout_settingPut : Layout 6 SettingPutReq.wf (fun b => ⟨fieldAt b 0 1, fieldAt b 1 1, fieldAt b 2 4⟩)
    fun x => natToBytes 1 x.id ++ natToBytes 1 x.lane ++ natToBytes 4 x.value where
  length x := by simp
  reads x h := by
    simp only [SettingPutReq.wf, Bool.and_eq_true] at h
    simp [fieldAt_here, fieldAt_next, fieldAt_last, h]
  fits b := by simp [SettingPutReq.wf]

theorem layout_settingRead : Layout 2 SettingReadReq.wf (fun b => ⟨fieldAt b 0 1, fieldAt b 1 1⟩)
    fun x => natToBytes 1 x.id ++ natToBytes 1 x.lane where
  length x := by simp
  reads x h := by
    simp only [SettingReadReq.wf, Bool.and_eq_true] at h
    simp [fieldAt_here, fieldAt_next, fieldAt_last, h]
  fits b := by simp [SettingReadReq.wf]

theorem layout_doorCard : Layout 10 DoorCardReq.wf (fun b => ⟨fieldAt b 0 2, fieldAt b 2 7, fieldAt b 9 1⟩)
    fun x => natToBytes 2 x.door ++ natToBytes 7 x.uid ++ natToBytes 1 x.issue where
  length x := by simp
  reads x h := by
    simp only [DoorCardReq.wf, Bool.and_eq_true] at h
    simp [fieldAt_here, fieldAt_next, fieldAt_last, h]
  fits b := by simp [DoorCardReq.wf]

theorem layout_doorReport : Layout 6 DoorReportReq.wf
    (fun b => ⟨fieldAt b 0 2, fieldAt b 2 1, fieldAt b 3 1, fieldAt b 4 1, fieldAt b 5 1⟩)
    fun x => natToBytes 2 x.door ++ natToBytes 1 x.contact ++ natToBytes 1 x.latch ++ natToBytes 1 x.dnd ++
      natToBytes 1 x.cause where
  length x := by simp
  reads x h := by
    simp only [DoorReportReq.wf, Bool.and_eq_true] at h
    simp [fieldAt_here, fieldAt_next, fieldAt_last, h]
  fits b := by simp [DoorReportReq.wf]

theorem layout_void : Layout 5 VoidReq.wf (fun b => ⟨fieldAt b 0 1, fieldAt b 1 4⟩)
    fun x => natToBytes 1 x.terminal ++ natToBytes 4 x.posting where
  length x := by simp
  reads x h := by
    simp only [VoidReq.wf, Bool.and_eq_true] at h
    simp [fieldAt_here, fieldAt_next, fieldAt_last, h]
  fits b := by simp [VoidReq.wf]

theorem layout_tabOpen : Layout 13 TabOpenReq.wf
    (fun b => ⟨fieldAt b 0 1, fieldAt b 1 7, fieldAt b 8 1, signed32 (fieldAt b 9 4)⟩)
    fun x => natToBytes 1 x.terminal ++ natToBytes 7 x.uid ++ natToBytes 1 x.issue ++ signedBytes x.hold where
  length x := by simp [signedBytes]
  reads x h := by
    simp only [TabOpenReq.wf, Bool.and_eq_true] at h
    simp [signedBytes, fieldAt_here, fieldAt_next, fieldAt_last, fits_signed, signed32_signed, h]
  fits b := by simp [TabOpenReq.wf]

theorem layout_tabClose : Layout 3 TabCloseReq.wf (fun b => ⟨fieldAt b 0 1, fieldAt b 1 1, fieldAt b 2 1⟩)
    fun x => natToBytes 1 x.slot ++ natToBytes 1 x.generation ++ natToBytes 1 x.terminal where
  length x := by simp
  reads x h := by
    simp only [TabCloseReq.wf, Bool.and_eq_true] at h
    simp [fieldAt_here, fieldAt_next, fieldAt_last, h]
  fits b := by simp [TabCloseReq.wf]

theorem layout_gangwayCard : Layout 9 GangwayCardReq.wf (fun b => ⟨fieldAt b 0 1, fieldAt b 1 7, fieldAt b 8 1⟩)
    fun x => natToBytes 1 x.lane ++ natToBytes 7 x.uid ++ natToBytes 1 x.issue where
  length x := by simp
  reads x h := by
    simp only [GangwayCardReq.wf, Bool.and_eq_true] at h
    simp [fieldAt_here, fieldAt_next, fieldAt_last, h]
  fits b := by simp [GangwayCardReq.wf]

theorem layout_presenceSet : Layout 8 PresenceSetReq.wf (fun b => ⟨fieldAt b 0 7, fieldAt b 7 1⟩)
    fun x => natToBytes 7 x.uid ++ natToBytes 1 x.presence where
  length x := by simp
  reads x h := by
    simp only [PresenceSetReq.wf, Bool.and_eq_true] at h
    simp [fieldAt_here, fieldAt_next, fieldAt_last, h]
  fits b := by simp [PresenceSetReq.wf]

theorem layout_allAboard : Layout 3 AllAboardReq.wf (fun b => ⟨fieldAt b 0 2, fieldAt b 2 1⟩)
    fun x => natToBytes 2 x.start ++ natToBytes 1 x.count where
  length x := by simp
  reads x h := by
    simp only [AllAboardReq.wf, Bool.and_eq_true] at h
    simp [fieldAt_here, fieldAt_next, fieldAt_last, h]
  fits b := by simp [AllAboardReq.wf]

theorem layout_cardPut : Layout 40 CardPutReq.wf readCardPut cardPutBytes where
  length x := by simp [cardPutBytes, pairField]
  reads x h := by
    simp only [CardPutReq.wf, OptField.wf, Span2.wf, Bool.and_eq_true] at h
    simp [readCardPut, readPair, cardPutBytes, pairField, fieldAt_here, fieldAt_next, fieldAt_last, h]
  fits b := by simp [CardPutReq.wf, OptField.wf, Span2.wf, readCardPut, readPair]

end Sys2Proof.Machine
end

section
/-! Sale bodies with their lines, and the requests that frames spell (R154, R156, R171). -/

namespace Sys2Proof.Machine

/-! ## Lines (R171) -/

/-- The 5 bytes of a line. -/
def Line.bytes (l : Line) : List Byte := natToBytes 1 l.category ++ natToBytes 3 l.unitPrice ++ natToBytes 1 l.quantity

theorem lineBytes_eq (ls : List Line) : lineBytes ls = natToBytes 1 ls.length ++ ls.flatMap Line.bytes := rfl

theorem lines_length (ls : List Line) : (ls.flatMap Line.bytes).length = 5 * ls.length := by
  induction ls with
  | nil => rfl
  | cons l ls ih =>
    rw [List.flatMap_cons, List.length_append, ih, List.length_cons]
    simp only [Line.bytes, List.length_append, natToBytes_length]
    omega

theorem readLines_lines : ∀ {ls : List Line} (front : List Byte), ls.all Line.wf = true →
    readLines (front ++ ls.flatMap Line.bytes) ls.length front.length = ls
  | [], _, _ => rfl
  | l :: ls, front, h => by
    rw [List.all_cons, Bool.and_eq_true] at h
    obtain ⟨line, lines⟩ := h
    simp only [Line.wf, Bool.and_eq_true] at line
    have rest := readLines_lines (front ++ Line.bytes l) lines
    have length : (front ++ Line.bytes l).length = front.length + 5 := by simp [Line.bytes]
    rw [length, List.append_assoc] at rest
    rw [List.flatMap_cons, List.length_cons, readLines, rest]
    have first : (⟨fieldAt (front ++ (Line.bytes l ++ ls.flatMap Line.bytes)) front.length 1,
        fieldAt (front ++ (Line.bytes l ++ ls.flatMap Line.bytes)) (front.length + 1) 3,
        fieldAt (front ++ (Line.bytes l ++ ls.flatMap Line.bytes)) (front.length + 4) 1⟩ : Line) = l := by
      simp [Line.bytes, fieldAt_past, fieldAt_here, line]
    rw [first]

theorem readLines_length (b : List Byte) : ∀ n o, (readLines b n o).length = n
  | 0, _ => rfl
  | n + 1, o => congrArg Nat.succ (readLines_length b n (o + 5))

theorem readLines_wf (b : List Byte) : ∀ n o, (readLines b n o).all Line.wf = true
  | 0, _ => rfl
  | n + 1, o => by
    rw [readLines, List.all_cons, readLines_wf b n (o + 5)]
    simp [Line.wf]

/-- A body with lines is read back. -/
theorem lined_reads {α : Type} {head : Nat} {front : List Byte} {ls : List Line} (hf : front.length + 1 = head)
    (few : ls.length < 256) (h : ls.all Line.wf = true) (read : List Line → α) :
    lined head (front ++ lineBytes ls) read = .fit (read ls) := by
  subst hf
  have count : fieldAt (front ++ lineBytes ls) front.length 1 = ls.length := by
    rw [fieldAt_past (Nat.le_refl _), Nat.sub_self, lineBytes_eq, fieldAt_here (fits_iff.mpr few)]
  have lines : readLines (front ++ lineBytes ls) ls.length (front.length + 1) = ls := by
    have lines := readLines_lines (front ++ natToBytes 1 ls.length) h
    rwa [List.length_append, natToBytes_length, List.append_assoc, ← lineBytes_eq] at lines
  have length : (front ++ lineBytes ls).length = front.length + 1 + 5 * ls.length := by
    rw [lineBytes_eq, List.length_append, List.length_append, natToBytes_length, lines_length, Nat.add_assoc]
  unfold lined
  dsimp only
  rw [Nat.add_sub_cancel, count, lines, length]
  simp

/-- What a body with lines reads as is in its bytes, when so many lines as it has room for are. -/
theorem lined_wf {α : Type} {head : Nat} {b : List Byte} (small : b.length ≤ 240) {read : List Line → α} {wf : α → Bool}
    (h : ∀ ls : List Line, head + 5 * ls.length ≤ 240 → ls.all Line.wf = true → wf (read ls) = true) :
    (lined head b read).wfLined wf = true := by
  unfold lined
  dsimp only
  split
  next fit =>
    rw [Bool.and_eq_true, beq_iff_eq] at fit
    exact h _ (by rw [readLines_length, ← fit.2]; exact small) (readLines_wf b _ head)
  next => exact decide_eq_true small

/-! ## The two sales -/

theorem charge_reads {q : ChargeReq} (h : q.wf = true) {b : List Byte} (hb : b = natToBytes 1 q.terminal ++
      natToBytes 7 q.uid ++ natToBytes 1 q.issue ++ lineBytes q.lines) : b.length ≤ 240 ∧
    lined 10 b (fun ls => (⟨fieldAt b 0 1, fieldAt b 1 7, fieldAt b 8 1, ls⟩ : ChargeReq)) = .fit q := by
  subst hb
  simp only [ChargeReq.wf, Bool.and_eq_true, decide_eq_true_eq] at h
  obtain ⟨⟨fields, few⟩, lines⟩ := h
  refine ⟨?_, ?_⟩
  · simp only [lineBytes_eq, List.length_append, natToBytes_length, lines_length]
    omega
  · rw [lined_reads (by simp) (by omega) lines]
    simp [fieldAt_here, fieldAt_next, fields]

theorem tabAdd_reads {q : TabAddReq} (h : q.wf = true) {b : List Byte} (hb : b = natToBytes 1 q.slot ++
      natToBytes 1 q.generation ++ natToBytes 1 q.terminal ++ lineBytes q.lines) : b.length ≤ 240 ∧
    lined 4 b (fun ls => (⟨fieldAt b 0 1, fieldAt b 1 1, fieldAt b 2 1, ls⟩ : TabAddReq)) = .fit q := by
  subst hb
  simp only [TabAddReq.wf, Bool.and_eq_true, decide_eq_true_eq] at h
  obtain ⟨⟨fields, few⟩, lines⟩ := h
  refine ⟨?_, ?_⟩
  · simp only [lineBytes_eq, List.length_append, natToBytes_length, lines_length]
    omega
  · rw [lined_reads (by simp) (by omega) lines]
    simp [fieldAt_here, fieldAt_next, fields]

theorem charge_wf {b : List Byte} (small : b.length ≤ 240) :
    (lined 10 b (fun ls => (⟨fieldAt b 0 1, fieldAt b 1 7, fieldAt b 8 1, ls⟩ : ChargeReq))).wfLined ChargeReq.wf = true :=
  lined_wf small fun ls short lines => by
    simp [ChargeReq.wf, lines]
    omega

theorem tabAdd_wf {b : List Byte} (small : b.length ≤ 240) :
    (lined 4 b (fun ls => (⟨fieldAt b 0 1, fieldAt b 1 1, fieldAt b 2 1, ls⟩ : TabAddReq))).wfLined TabAddReq.wf = true :=
  lined_wf small fun ls short lines => by
    simp [TabAddReq.wf, lines]
    omega

/-! ## The two messages with two rows (MODE.SET, RESTART) -/

theorem otherCode_iff {n : Nat} : otherCode n = true ↔ n < 256 ∧ n ≠ 1 := by
  rw [otherCode, Bool.and_eq_true, fits_iff, bne_iff_ne, Nat.pow_one]

/-- A one-byte body that is not the code 1 is read back, and is not taken for the other row. -/
theorem otherCode_reads {q : Body Nat} (hq : q.wf 1 otherCode = true) {b : List Byte}
    (hb : q.bytes (natToBytes 1) = some b) :
    b.length = 1 ∧ fixed 1 b (fieldAt b 0 1) = q ∧ ¬ (b.length = 1 ∧ fieldAt b 0 1 = 1) := by
  cases q with
  | misfit n => cases hb
  | fit x =>
    cases hb
    obtain ⟨small, other⟩ := otherCode_iff.mp hq
    have value : fieldAt (natToBytes 1 x) 0 1 = x := fieldAt_last (fits_iff.mpr small)
    exact ⟨natToBytes_length 1 x, (if_pos (natToBytes_length 1 x)).trans (by rw [value]), fun one => other (value ▸ one.2)⟩

theorem otherCode_wf {b : List Byte} (small : b.length ≤ 240) (other : ¬ (b.length = 1 ∧ fieldAt b 0 1 = 1)) :
    (fixed 1 b (fieldAt b 0 1)).wf 1 otherCode = true := by
  unfold fixed
  split
  next one => exact otherCode_iff.mpr ⟨fits_iff.mp (fits_fieldAt b 0 1), fun value => other ⟨one, value⟩⟩
  next longer =>
    rw [Body.wf, Bool.and_eq_true, bne_iff_ne]
    exact ⟨decide_eq_true small, longer⟩

theorem readModeSet_wf (tag : Byte) {b : List Byte} (small : b.length ≤ 240) : (readModeSet tag b).wf = true := by
  unfold readModeSet
  split
  next => rfl
  next other => exact otherCode_wf small other

theorem readRestart_wf (tag : Byte) {b : List Byte} (small : b.length ≤ 240) : (readRestart tag b).wf = true := by
  unfold readRestart
  split
  next => rfl
  next other => exact otherCode_wf small other

end Sys2Proof.Machine
end

section
/-! The requests that frames spell (R154, R156): each is well-formed, and each sent is received as it was. -/

namespace Sys2Proof.Machine

/-! ## Whatever a body holds (R156, Table 31) -/

/-- A code that no row of Table 31 lists. -/
theorem not_catalogue {n : Nat} (h : ∀ k ∈ catalogue, n ≠ k) : (!catalogue.contains n) = true := by
  rw [Bool.not_eq_true', ← Bool.not_eq_true, List.contains_iff_mem]
  exact fun mem => h n mem rfl

theorem readRequest_wf (code tag : Byte) {b : List Byte} (small : b.length ≤ 240) : (readRequest code tag b).wf = true := by
  unfold readRequest
  split
  · exact layout_empty.fixed_wf small
  · exact layout_empty.fixed_wf small
  · exact layout_empty.fixed_wf small
  · exact (layout_number 2).fixed_wf small
  · exact layout_empty.fixed_wf small
  · exact layout_cardPut.fixed_wf small
  · exact layout_cardRead.fixed_wf small
  · exact (layout_number 7).fixed_wf small
  · exact (layout_number 7).fixed_wf small
  · exact layout_accountPut.fixed_wf small
  · exact (layout_number 4).fixed_wf small
  · exact layout_accountCredit.fixed_wf small
  · exact (layout_number 4).fixed_wf small
  · exact layout_doorPut.fixed_wf small
  · exact (layout_number 2).fixed_wf small
  · exact layout_categoryPut.fixed_wf small
  · exact layout_regionPut.fixed_wf small
  · exact layout_tierPut.fixed_wf small
  · exact layout_settingPut.fixed_wf small
  · exact layout_settingRead.fixed_wf small
  · exact layout_doorCard.fixed_wf small
  · exact layout_doorReport.fixed_wf small
  · exact charge_wf small
  · exact layout_void.fixed_wf small
  · exact layout_tabOpen.fixed_wf small
  · exact tabAdd_wf small
  · exact layout_tabClose.fixed_wf small
  · exact (layout_number 1).fixed_wf small
  · exact layout_empty.fixed_wf small
  · exact (layout_number 4).fixed_wf small
  · exact layout_empty.fixed_wf small
  · exact (layout_number 1).fixed_wf small
  · exact (layout_number 1).fixed_wf small
  · exact (layout_number 1).fixed_wf small
  · exact layout_gangwayCard.fixed_wf small
  · exact layout_presenceSet.fixed_wf small
  · exact layout_allAboard.fixed_wf small
  · exact (layout_number 3).fixed_wf small
  · exact layout_empty.fixed_wf small
  · exact (layout_number 1).fixed_wf small
  · exact layout_empty.fixed_wf small
  · exact readModeSet_wf tag small
  · exact layout_empty.fixed_wf small
  · exact readRestart_wf tag small
  · refine not_catalogue fun k hk same => ?_
    simp_all [catalogue]

/-- The body of a frame received is no longer than the longest. -/
theorem receiveFrame_short {sdi : List Byte} {code tag : Byte} {body : List Byte}
    (h : receiveFrame sdi = some (.sound code tag body)) : body.length ≤ 240 := by
  unfold receiveFrame at h
  split at h
  next high low rest _ =>
    dsimp only at h
    by_cases long : maxBody < bytesToNat [high, low]
    · rw [if_pos long] at h
      cases h
    · rw [if_neg long] at h
      split at h
      · cases h
      · split at h
        · split at h
          · cases h
            exact (List.length_take_le ..).trans (Nat.not_lt.mp long)
          · cases h
        · cases h
  next => cases h

theorem receiveFrame_request_wf {sdi : List Byte} {f : Frame} (h : receiveFrame sdi = some f) : f.request.wf = true := by
  cases f with
  | sound code tag body => exact readRequest_wf code tag (receiveFrame_short h)
  | badCrc tag => rfl
  | tooLong => rfl

/-- Settles O6. -/
theorem receivedRequestsAreWellFormed : Obligations.ReceivedRequestsAreWellFormed := by
  unfold Obligations.ReceivedRequestsAreWellFormed
  exact fun sdi f => receiveFrame_request_wf

/-! ## Every request is read back (R156, Table 31) -/

/-- A request of one fixed length, of a row `make`, is read back by the row's reading. -/
theorem Layout.row_reads {α : Type} {n : Nat} {wf : α → Bool} {read : List Byte → α} {bytes : α → List Byte}
    (layout : Layout n wf read bytes) (short : n ≤ 240) (make : Body α → Instr) {q : Body α} {b : List Byte}
    (hq : q.wf n wf = true) (hb : q.bytes bytes = some b) :
    b.length ≤ 240 ∧ make (fixed n b (read b)) = make q := by
  obtain ⟨length, reads⟩ := layout.fixed_reads hq hb
  exact ⟨length ▸ short, congrArg make reads⟩

/-- The body of a well-formed request fits a frame, and its code and body spell it. -/
theorem readRequest_body {c : Instr} {k : Byte} {b : List Byte} (wf : c.wf = true) (framed : c.asFramed = c)
    (code : c.code = some k) (body : c.body = some b) : b.length ≤ 240 ∧ readRequest k c.tag b = c := by
  cases c with
  | summary tag q =>
    cases code
    exact layout_empty.row_reads (by decide) (.summary tag) wf body
  | noticeFetch tag q =>
    cases code
    exact layout_empty.row_reads (by decide) (.noticeFetch tag) wf body
  | orderFetch tag q =>
    cases code
    exact layout_empty.row_reads (by decide) (.orderFetch tag) wf body
  | loadBegin tag q =>
    cases code
    exact (layout_number 2).row_reads (by decide) (.loadBegin tag) wf body
  | loadEnd tag q span =>
    cases code
    cases framed
    exact layout_empty.row_reads (by decide) (.loadEnd tag · .whole) wf body
  | cardPut tag q =>
    cases code
    exact layout_cardPut.row_reads (by decide) (.cardPut tag) wf body
  | cardRead tag q =>
    cases code
    exact layout_cardRead.row_reads (by decide) (.cardRead tag) wf body
  | cardReissue tag q =>
    cases code
    exact (layout_number 7).row_reads (by decide) (.cardReissue tag) wf body
  | cardRetire tag q =>
    cases code
    exact (layout_number 7).row_reads (by decide) (.cardRetire tag) wf body
  | accountPut tag q =>
    cases code
    exact layout_accountPut.row_reads (by decide) (.accountPut tag) wf body
  | accountRead tag q =>
    cases code
    exact (layout_number 4).row_reads (by decide) (.accountRead tag) wf body
  | accountCredit tag q =>
    cases code
    exact layout_accountCredit.row_reads (by decide) (.accountCredit tag) wf body
  | accountRetire tag q =>
    cases code
    exact (layout_number 4).row_reads (by decide) (.accountRetire tag) wf body
  | doorPut tag q =>
    cases code
    exact layout_doorPut.row_reads (by decide) (.doorPut tag) wf body
  | doorRead tag q =>
    cases code
    exact (layout_number 2).row_reads (by decide) (.doorRead tag) wf body
  | categoryPut tag q =>
    cases code
    exact layout_categoryPut.row_reads (by decide) (.categoryPut tag) wf body
  | regionPut tag q =>
    cases code
    exact layout_regionPut.row_reads (by decide) (.regionPut tag) wf body
  | tierPut tag q span =>
    cases code
    cases framed
    exact layout_tierPut.row_reads (by decide) (.tierPut tag · .whole) wf body
  | settingPut tag q =>
    cases code
    exact layout_settingPut.row_reads (by decide) (.settingPut tag) wf body
  | settingRead tag q =>
    cases code
    exact layout_settingRead.row_reads (by decide) (.settingRead tag) wf body
  | doorCard tag q =>
    cases code
    exact layout_doorCard.row_reads (by decide) (.doorCard tag) wf body
  | doorReport tag q =>
    cases code
    exact layout_doorReport.row_reads (by decide) (.doorReport tag) wf body
  | charge tag q =>
    cases code
    cases q with
    | misfit n => cases body
    | fit x =>
      obtain ⟨short, reads⟩ := charge_reads wf (Option.some.inj body).symm
      exact ⟨short, congrArg (Instr.charge tag) reads⟩
  | void tag q =>
    cases code
    exact layout_void.row_reads (by decide) (.void tag) wf body
  | tabOpen tag q =>
    cases code
    exact layout_tabOpen.row_reads (by decide) (.tabOpen tag) wf body
  | tabAdd tag q =>
    cases code
    cases q with
    | misfit n => cases body
    | fit x =>
      obtain ⟨short, reads⟩ := tabAdd_reads wf (Option.some.inj body).symm
      exact ⟨short, congrArg (Instr.tabAdd tag) reads⟩
  | tabClose tag q =>
    cases code
    exact layout_tabClose.row_reads (by decide) (.tabClose tag) wf body
  | tabRead tag q =>
    cases code
    exact (layout_number 1).row_reads (by decide) (.tabRead tag) wf body
  | postFetch tag q =>
    cases code
    exact layout_empty.row_reads (by decide) (.postFetch tag) wf body
  | postRelease tag q =>
    cases code
    exact (layout_number 4).row_reads (by decide) (.postRelease tag) wf body
  | postRewind tag q =>
    cases code
    exact layout_empty.row_reads (by decide) (.postRewind tag) wf body
  | laneOpen tag q =>
    cases code
    exact (layout_number 1).row_reads (by decide) (.laneOpen tag) wf body
  | laneClose tag q =>
    cases code
    exact (layout_number 1).row_reads (by decide) (.laneClose tag) wf body
  | laneRead tag q =>
    cases code
    exact (layout_number 1).row_reads (by decide) (.laneRead tag) wf body
  | gangwayCard tag q =>
    cases code
    exact layout_gangwayCard.row_reads (by decide) (.gangwayCard tag) wf body
  | presenceSet tag q =>
    cases code
    exact layout_presenceSet.row_reads (by decide) (.presenceSet tag) wf body
  | allaboardQuery tag q =>
    cases code
    exact layout_allAboard.row_reads (by decide) (.allaboardQuery tag) wf body
  | timeSet tag q =>
    cases code
    exact (layout_number 3).row_reads (by decide) (.timeSet tag) wf body
  | dayRoll tag q span =>
    cases code
    cases framed
    exact layout_empty.row_reads (by decide) (.dayRoll tag · .whole) wf body
  | portArrive tag q =>
    cases code
    exact (layout_number 1).row_reads (by decide) (.portArrive tag) wf body
  | sail tag q span =>
    cases code
    cases framed
    exact layout_empty.row_reads (by decide) (.sail tag · .whole) wf body
  | modeSetSecure tag span =>
    cases code
    cases framed
    cases body
    exact ⟨by decide, rfl⟩
  | modeSetService tag q =>
    cases code
    obtain ⟨length, reads, other⟩ := otherCode_reads wf body
    exact ⟨length ▸ by decide, (if_neg other).trans (congrArg (Instr.modeSetService tag) reads)⟩
  | retain tag q =>
    cases code
    exact layout_empty.row_reads (by decide) (.retain tag) wf body
  | restartCold tag =>
    cases code
    cases body
    exact ⟨by decide, rfl⟩
  | restartWarm tag q =>
    cases code
    obtain ⟨length, reads, other⟩ := otherCode_reads wf body
    exact ⟨length ▸ by decide, (if_neg other).trans (congrArg (Instr.restartWarm tag) reads)⟩
  | _ => cases code

/-- Settles O5. -/
theorem catalogueFramesRoundTrip : Obligations.CatalogueFramesRoundTrip := by
  unfold Obligations.CatalogueFramesRoundTrip
  intro c bytes wf framed frame
  unfold Instr.frame at frame
  split at frame
  next k b code body =>
    cases frame
    obtain ⟨short, reads⟩ := readRequest_body wf framed code body
    have received := receiveFrame_frameBytes (fill := []) rfl k c.tag short []
    rw [List.nil_append, List.append_nil] at received
    rw [received]
    exact congrArg some reads
  next => cases frame

end Sys2Proof.Machine
end
